-- ==== Sys2Proof/Word.lean ====
section
/-! DEFINITION. The units the HN48 moves and counts: octets and wider numbers, tables of a fixed
number of entries, and the saturating counts of 00 section 6. -/

namespace Sys2Proof

/-- An octet; bit 7 is the most significant (00 section 6, Octet order). -/
abbrev Octet := BitVec 8
/-- Two octets: cycle numbers, tags, checks of headers. -/
abbrev Half := BitVec 16
/-- Four octets: payload checks, transaction numbers, balances. -/
abbrev Quad := BitVec 32
/-- A tag identity of 12 octets, compared as an unsigned number (R118). -/
abbrev TagId := BitVec 96
/-- A sequence of octets in the order they travel. -/
abbrev Octets := List Octet

/-- A table of exactly `n` entries, numbered from 0. -/
structure Tab (α : Type) (n : Nat) where
  data : List α
  size : data.length = n
  deriving DecidableEq, Repr

/-- A table whose every entry is `x`. -/
def Tab.fill {α : Type} (n : Nat) (x : α) : Tab α n := ⟨List.replicate n x, List.length_replicate⟩

/-- Entry `i`. -/
def Tab.get {α : Type} {n : Nat} (t : Tab α n) (i : Fin n) : α :=
  t.data.get (i.cast t.size.symm)

/-- The table with entry `i` replaced by `x`. -/
def Tab.set {α : Type} {n : Nat} (t : Tab α n) (i : Fin n) (x : α) : Tab α n :=
  ⟨t.data.set i.val x, by rw [List.length_set]; exact t.size⟩

/-- The table with `f` applied to entry `i`. -/
def Tab.modify {α : Type} {n : Nat} (t : Tab α n) (i : Fin n) (f : α → α) : Tab α n :=
  t.set i (f (t.get i))

/-- The table with `f` applied to every entry. -/
def Tab.map {α β : Type} {n : Nat} (f : α → β) (t : Tab α n) : Tab β n :=
  ⟨t.data.map f, by rw [List.length_map]; exact t.size⟩

/-- The numbers 0 to `n - 1`, ascending. -/
def indices (n : Nat) : List (Fin n) := List.finRange n

/-- The greatest value of a count (00 section 6, Counts). -/
def countMax : Nat := 4294967295

/-- A count after one more: it saturates at 4 294 967 295 (00 section 6, Counts). -/
def bump (n : Nat) : Nat := if n < countMax then n + 1 else n

/-- A count after `k` more. -/
def bumpBy (k n : Nat) : Nat := min (n + k) countMax

/-- `x` clamped to the range `lo` to `hi` (00 section 6, Arithmetic). -/
def clampNat (lo hi x : Nat) : Nat := max lo (min hi x)

/-- `x` clamped to the range `lo` to `hi` (00 section 6, Arithmetic). -/
def clampInt (lo hi x : Int) : Int := max lo (min hi x)

end Sys2Proof
end

