-- ==== Sys2Proof/Syntax.lean ====
section
/-! DEFINITION. The commands of the HN48: one constructor of `Instr` per row of
spec/opcode_table.json, with the operands its rules read. A row that the node's own clock brings
about (a timer that reaches its limit) carries no operand but the port, position, channel or node
it is about; a row that brings something in from outside carries the octets or fields received. -/

namespace Sys2Proof

/-- The two line ports (R2). -/
inductive Port where
  | w | e
  deriving DecidableEq, Repr

/-- How the Frame Switch hands a frame over: taken for this node's address (R44), or the copy of a
broadcast (R46). -/
inductive Via where
  | taken | copy
  deriving DecidableEq, Repr

/-- The origin of a management request, fixed by the port of arrival (R197). -/
inductive Origin where
  | centre | field
  deriving DecidableEq, Repr

/-- What a request brings besides its code and arguments: the request queue keeps it and the
response is addressed by it (R198, R199). -/
structure Head where
  origin  : Origin
  source  : Octet
  channel : Octet
  tag     : Half
  deriving DecidableEq, Repr

/-- A frame (R41, R212). The length is that of the payload; the header check is computed when the
frame is sent; the payload check is carried as it came, because a frame the master carries round S
keeps it unexamined (R31). The fill bits of `flags` are not examined, and are sent as zero (R212). -/
structure Frame where
  dest    : Octet
  source  : Octet
  service : Octet
  channel : Octet
  hop     : Octet
  flags   : Octet
  tag     : Half
  payload : Octets
  check   : Quad
  deriving DecidableEq, Repr

/-- A call reference: the node that owns the position, and the position (R213). -/
structure CallRef where
  node     : Octet
  position : Octet
  deriving DecidableEq, Repr

/-- An entry of a WRITE of the channel table, as written (R141): the enumerations by number, in the
order R141 lists their values, the numbers before they are clamped. -/
structure ChannelWrite where
  source     : Nat
  period     : Int
  zero       : Int
  gain       : Int
  offset     : Int
  window     : Int
  shift      : Int
  compare    : Nat
  highSet    : Int
  highClear  : Int
  lowSet     : Int
  lowClear   : Int
  highEnable : Nat
  lowEnable  : Nat
  persist    : Int
  interval   : Int
  deriving DecidableEq, Repr

/-- An entry of a WRITE of the sign rule table, as written (R176). Condition B is `none` when it is
absent. -/
structure RuleWrite where
  condA    : Nat
  senseA   : Nat
  condB    : Option Nat
  senseB   : Nat
  page     : Nat
  priority : Int
  enabled  : Nat
  deriving DecidableEq, Repr

/-- A segment of a page descriptor, with the octet of its end mark: 1 where it carries the mark, 0
where it does not; no other value is the encoding of one (R185, R214). -/
structure Segment where
  block   : Nat
  length  : Nat
  endMark : Nat
  deriving DecidableEq, Repr

/-- The commands: the rows of spec/opcode_table.json. -/
inductive Instr where
  -- Line ports, Cycle Timer, reachability (01, 02)
  | powerOn (strap : Bool)
  | signalLost (p : Port)
  | signalRegained (p : Port)
  | markerFound (p : Port)
  | headerReceived (p : Port) (cycle : Octets)
  | alignFaultCount (p : Port)
  | wtrExpiry (p : Port)
  | bringUpComplete (p : Port)
  | recirculation
  | duplicateMasterClear
  | missingCycle
  | holdoverEntry
  | holdoverCycle
  | originateCycle
  | centreHeaderAgeExpiry
  -- Uplink port (03)
  | uplinkDown
  | uplinkUp
  | uplinkFrame (octets : Octets)
  | fieldFrame (octets : Octets)
  -- Telephones and plan banks (04, 05)
  | offHook (q : Fin 4)
  | onHook (q : Fin 4)
  | priorityPress (q : Fin 4)
  | callRequestResend (q : Fin 4)
  | callReleaseResend (q : Fin 4)
  | ringTimeout (q : Fin 4)
  | statusTimerExpiry
  | callQueued (ref : CallRef) (place : Nat)
  | planUpdate (via : Via) (source : Octet) (version : Octet) (switchCycle : Half) (slots : Octets)
  | planSwitch
  | vsigFrameIgnored (payload : Octets)
  -- Slot Allocator (05)
  | callRequest (source : Octet) (ref : CallRef) (priority resume answer : Bool)
  | callRelease (source : Octet) (ref : CallRef)
  | callStatus (source : Octet) (refs : List CallRef)
  | planAccept (source : Octet) (node : Octet) (version : Octet)
  | planLate (source : Octet) (node : Octet) (version : Octet)
  | planComeRound (n : Fin 240)
  | planUnanswered (n : Fin 240)
  | absentQuarantineExpiry (n : Fin 240)
  | callSupervisionExpiry (n : Fin 240) (q : Fin 4)
  | setVoiceCapacity (h : Head) (capacity : Nat)
  -- Tolls and the journal (06, 07)
  | tollRunClose (octets : Octets)
  | pendingTimeout
  | tollAnswer (via : Via) (lane : Octet) (txn : Quad) (verdict : Octet) (balance : Quad)
  | settled (via : Via) (lane : Octet) (txn : Quad)
  | answerBlockSent
  | journalDrain
  | inflightTimeout
  | secondsClock
  | tollFrameIgnored (via : Via) (channel : Octet) (payload : Octets)
  -- Weather (08)
  | sampleTick
  | pulseEdge (k : Fin 4)
  | channelSample (c : Fin 16)
  | wxFrameIgnored
  -- Conditions and alarms (09)
  | alarmFrameIgnored
  | setCentreFlag (h : Head) (k : Nat) (value : Nat)
  | setMask (h : Head) (value : Nat)
  | eventAck (h : Head) (conditions : Option (List Nat))
  -- Signs (10)
  | signShow (h : Head) (page priority lifetime : Nat)
  | signClear (h : Head)
  | signFrame (source : Octet) (payload : Octets)
  | signTest (h : Head) (page : Nat)
  | testTimerExpiry
  | centreLifetimeExpiry
  | holdExpiry
  | signResend (h : Head)
  | commandSent
  | signAccept (page : Nat)
  | signReject (reason : Octet)
  | signStatusAnswer (page : Nat) (faults : Half)
  | signBadAnswer (octets : Octets)
  | answerTimeout
  | pollTimerExpiry
  -- Management (11)
  | mgmtFrameReceived (origin : Origin) (frame : Frame)
  | read (h : Head) (table first count : Nat)
  | write (h : Head) (table first count : Nat) (entries : Octets)
  | writeRingSettings (h : Head) (first : Nat) (entries : List (Int × Int))
  | writeTollSettings (h : Head) (first : Nat) (entries : List (Int × Int))
  | writeClassTable (h : Head) (first : Nat) (entries : List Nat)
  | writeChannelTable (h : Head) (first : Nat) (entries : List ChannelWrite)
  | writeEventTable (h : Head) (first : Nat) (entries : List (Nat × Nat))
  | writeSignRules (h : Head) (first : Nat) (entries : List RuleWrite)
  | writePageTable (h : Head) (first : Nat) (entries : List (List Segment))
  | writePageStore (h : Head) (first : Nat) (blocks : List Octets)
  | writeSignSettings (h : Head) (first : Nat) (entries : List (Int × Int))
  | restart (h : Head)
  | forceWrap (h : Head) (side : Nat)
  | clearForce (h : Head)
  | denyAdd (h : Head) (tag : TagId)
  | denyRemove (h : Head) (tag : TagId)
  | denyClear (h : Head)
  | acceptAdd (h : Head) (service channel : Nat)
  | acceptRemove (h : Head) (service channel : Nat)
  | fieldLock (h : Head)
  | fieldUnlock (h : Head)
  | callBack (h : Head) (position : Nat)
  | wxRead (h : Head)
  | countsClear (h : Head)
  | identify (h : Head)
  | assignAddresses (h : Head) (first : Nat)
  | addressClear (h : Head)
  -- The address walk (11)
  | addressOffer (address : Octet) (fits : Bool)
  | addressTaken (address : Octet) (serial : BitVec 48)
  | addressOfferReturned
  | walkTimeout
  | allocFrameIgnored (source : Octet) (payload : Octets)
  deriving DecidableEq, Repr

end Sys2Proof
end

