-- ==== Sys2Proof/Config.lean ====
section
/-! DEFINITION. What the part fixes and the manual gives no value for. None of these constants has
a body: nothing can be proved of its value, so what is proved holds for every value. -/

namespace Sys2Proof

/-- The factory serial of 48 bits, fixed in the part (R204). Log 9. -/
opaque Config.serial : BitVec 48
/-- The model code, fixed in the part (R204). Log 9. -/
opaque Config.modelCode : Half
/-- The revision, fixed in the part (R204). Log 9. -/
opaque Config.revision : Octet
/-- The `k`-th octet whose value the manual leaves open: a channel that no rule names (R190, R206,
R207), the table number of an IDENTIFY or WX_READ response (R214), the source of a frame that an
unassigned slave sends to its field terminal (R199). DESIGN CHOICE (log 8, log 10): a free value. -/
opaque Config.openOctet : Nat → Octet
/-- The `k`-th two octets whose value the manual leaves open: the tag of a frame that answers no
request (R41). DESIGN CHOICE (log 8): a free value. -/
opaque Config.openHalf : Nat → Half

end Sys2Proof
end

