-- ==== Sys2Proof/Machine/State.lean ====
section
/-! DEFINITION. The state of the HN48 as plain data: every piece of state the manual gives the
twelve blocks (00 section 3), the pins, what the node last sent, the queue of waiting commands, and
the state right after power-on. INVENTORY.md lists every field with its rule. -/

namespace Sys2Proof.Machine

/-- The part has no state in which it stops: no rule names one (log 26). Safe: nothing is shut
out. -/
inductive Fault where
  deriving DecidableEq, Repr

/-- Why `exec` gives a command no meaning. -/
inductive Refusal where
  /-- Raised by `exec` alone, for a row that has no meaning yet. Safe: the run stops. No row of this
  model is left in that case. -/
  | notModelled (mnemonic : String)
  deriving DecidableEq, Repr

/-! ## Line Interface (01) -/

/-- Receive states of a port (R4). -/
inductive RxState where
  | down | aligning | up
  deriving DecidableEq, Repr

/-- Where ALIGNING was entered from (R4). -/
inductive AlignFrom where
  | fromDown | fromUp
  deriving DecidableEq, Repr

/-- Reasons of a port fault, in the order of the table of R6. -/
inductive PortReason where
  | loss | align | headers | farEnd
  deriving DecidableEq, Repr

/-- Health of a port (R9). -/
inductive Health where
  | healthy | unhealthy
  deriving DecidableEq, Repr

/-- The receive side and the health of one line port (01 sections 1.2 and 1.3). `completed` is the
model's own: PORT_RECOVERIES as it stood before a bring-up that has completed in this cycle (R11,
log 49). -/
structure LinePort where
  rx             : RxState
  entryCycle     : Half
  entryFrom      : AlignFrom
  alignCycles    : Nat
  markerFound    : Bool
  alignRun       : Nat
  errorRun       : Nat
  farEndRun      : Nat
  faulted        : Bool
  reason         : PortReason
  headerErrors   : Nat
  portFaults     : Nat
  portRecoveries : Nat
  health         : Health
  wtrTimer       : Option Nat
  bringUp        : Nat
  everHealthy    : Bool
  completed      : Option Nat
  deriving DecidableEq, Repr

/-- The Line Interface: two ports and the one WTR setting (R12). -/
structure LineInterface where
  w          : LinePort
  e          : LinePort
  wtrSeconds : Nat
  deriving DecidableEq, Repr

/-! ## Cycle Timer (01 section 1.4) -/

/-- Origins of a cycle header (R3). -/
inductive HeaderOrigin where
  | master | holdover
  deriving DecidableEq, Repr

/-- The header record: what the last processed header carried (R13). A master's stands at its power-on
values: R13 states the update for a slave alone (log 45). -/
structure HeaderRecord where
  origin     : HeaderOrigin
  masterAddr : Octet
  u          : Octet
  centreUp   : Bool
  deriving DecidableEq, Repr

/-- The Cycle Timer. `duplicate` is the 1000-cycle timer of R19: DUPLICATE_MASTER is set exactly
while it runs. -/
structure CycleTimer where
  number          : Half
  record          : HeaderRecord
  missing         : Nat
  holdover        : Bool
  highWater       : Half
  repeatRun       : Nat
  recirculating   : Bool
  adoptNext       : Bool
  duplicate       : Option Nat
  holdoverEntries : Nat
  recirculations  : Nat
  deriving DecidableEq, Repr

/-! ## Protection Controller (02) -/

/-- Protection states (R24). -/
inductive ProtState where
  | ring | wrapEast | wrapWest | isolated
  deriving DecidableEq, Repr

/-- The Protection Controller. `linked` is the reachability of R20 and R21; `handed` is the
reachability whose event has been handed to the blocks (R22), equal to it at the end of every cycle.
`heldS` is the received S cycle the master holds for carrying (R31). -/
structure Protection where
  state      : ProtState
  forced     : Option Port
  linked     : Bool
  handed     : Bool
  age        : Nat
  heldS      : Option Octets
  changes    : Nat
  isolations : Nat
  deriving DecidableEq, Repr

/-! ## Frame Switch (03) -/

/-- The seven add queues, in the order in which a fill visits them (R57). -/
inductive QueueName where
  | alarm | vsig | tollLive | mgmt | tollDeferred | sign | wx
  deriving DecidableEq, Repr

/-- Discard reasons, in the order of R50. -/
inductive DiscardReason where
  | headerCheck | payloadCheck | tooLong | badAddress | badService | hopLimit | queueFull | noRoom
  | noPath | notPermitted | restartFlush
  deriving DecidableEq, Repr

/-- The place a discard record names (R50). -/
inductive Place where
  | port (p : Port) | uplink | queue (q : QueueName) | holding | allQueues
  deriving DecidableEq, Repr

/-- The header fields a discard record carries (R50). -/
structure FrameFields where
  dest    : Octet
  source  : Octet
  service : Octet
  channel : Octet
  hop     : Octet
  length  : Nat
  deriving DecidableEq, Repr

/-- A discard record (R50). The header fields are absent from a HEADER_CHECK record and from a
RESTART_FLUSH record, which carries the number of frames flushed instead. -/
structure DiscardRecord where
  reason  : DiscardReason
  place   : Place
  cycle   : Half
  fields  : Option FrameFields
  flushed : Option Nat
  deriving DecidableEq, Repr

/-- The Frame Switch. `discards` has one count per reason in R50's order, `added` one per queue in
R57's order. -/
structure FrameSwitch where
  accept       : List (Octet × Octet)
  alarm        : List Frame
  vsig         : List Frame
  tollLive     : List Frame
  mgmt         : List Frame
  tollDeferred : List Frame
  sign         : List Frame
  wx           : List Frame
  budget       : Nat
  holding      : List Frame
  pool         : List Frame
  records      : List DiscardRecord
  discards     : Tab Nat 11
  zoneLost     : Nat
  stripped     : Nat
  taken        : Nat
  toCentre     : Nat
  copies       : Nat
  passed       : Nat
  added        : Tab Nat 7
  deriving DecidableEq, Repr

/-! ## Phone Interface and plan banks (04, 05) -/

/-- Hook states (R64). -/
inductive Hook where
  | on | off
  deriving DecidableEq, Repr

/-- Call states of a position (04 section 4.2). -/
inductive CallState where
  | idle | requesting | waiting | talking | held | ringing | clearing | dropped
  deriving DecidableEq, Repr

/-- One phone position (04). -/
structure Position where
  call      : CallState
  debounced : Hook
  hookCount : Nat
  holdCount : Nat
  priority  : Bool
  resume    : Bool
  answer    : Bool
  resend    : Option Nat
  ring      : Option Nat
  place     : Option Nat
  deriving DecidableEq, Repr

/-- The up and down slots of one position (R85). -/
structure SlotPair where
  up   : Fin 48
  down : Fin 48
  deriving DecidableEq, Repr

/-- The four entries of a plan: a slot pair or none (R85). -/
abbrev PlanEntries := Tab (Option SlotPair) 4

/-- A plan bank (R85). -/
structure Bank where
  version : Octet
  entries : PlanEntries
  deriving DecidableEq, Repr

/-- The Phone Interface. `pendingAt` is none while the standby bank is EMPTY and the switch cycle
while it is PENDING. -/
structure PhoneInterface where
  positions       : Tab Position 4
  statusTimer     : Nat
  active          : Bank
  standby         : Bank
  activeIsB       : Bool
  pendingAt       : Option Half
  cleared         : Bool
  plansAccepted   : Nat
  plansLate       : Nat
  plansStale      : Nat
  plansIgnored    : Nat
  planSwitches    : Nat
  requestsSent    : Nat
  releasesSent    : Nat
  statusSent      : Nat
  priorityPresses : Nat
  callsAnswered   : Nat
  callsDropped    : Nat
  ringTimeouts    : Nat
  vsigIgnored     : Nat
  deriving DecidableEq, Repr

/-! ## Slot Allocator (05) -/

/-- A slot of the slot table: FREE, or HELD with its owner and quarantine mark (R89). -/
inductive SlotState where
  | free
  | held (owner : Fin 240) (mark : Bool)
  deriving DecidableEq, Repr

/-- States of a call table entry (R90). -/
inductive CallPhase where
  | planning | inForce | releasing
  deriving DecidableEq, Repr

/-- A call table entry (R90). Node `n` of the allocator's tables is node address `n + 1`. -/
structure CallEntry where
  node     : Fin 240
  position : Fin 4
  slots    : SlotPair
  priority : Bool
  phase    : CallPhase
  age      : Nat
  deriving DecidableEq, Repr

/-- A request of the waiting queue (R90). `arrival` numbers the insertions (log 23). -/
structure WaitingEntry where
  node     : Fin 240
  position : Fin 4
  priority : Bool
  arrival  : Nat
  deriving DecidableEq, Repr

/-- A plan as issued: version, switch cycle, entries (R91). -/
structure Plan where
  version     : Octet
  switchCycle : Half
  entries     : PlanEntries
  deriving DecidableEq, Repr

/-- An in-flight plan with its send count (R91). `seen`: a header of the master's own at or ahead
of the switch cycle has come back (R97, log 29). -/
structure InFlight where
  plan  : Plan
  sends : Nat
  seen  : Bool
  deriving DecidableEq, Repr

/-- The plan record of one node (R91). -/
structure PlanRecord where
  lastIssued   : Octet
  accepted     : Plan
  acceptedSeen : Bool
  comeRound    : Bool
  inFlight     : Option InFlight
  absent       : Bool
  quarantine   : Option Nat
  deriving DecidableEq, Repr

/-- The Slot Allocator (05 section 5.2). -/
structure SlotAllocator where
  slots           : Tab SlotState 48
  calls           : List CallEntry
  waiting         : List WaitingEntry
  nextArrival     : Nat
  plans           : Tab PlanRecord 240
  capacity        : Nat
  grants          : Nat
  grantsFromQueue : Nat
  queueRefusals   : Nat
  plansIssued     : Nat
  planResends     : Nat
  staleAnswers    : Nat
  nodesAbsent     : Nat
  callsSupervised : Nat
  statusUnmatched : Nat
  allocIgnored    : Nat
  deriving DecidableEq, Repr

/-- The uplink voice lanes of the master (R102): the octets most recently received on each lane, and
those last sent. -/
structure Lanes where
  fromCentre : Tab Octets 48
  toCentre   : Tab Octets 48
  deriving DecidableEq, Repr

/-! ## Toll Relay and Toll Journal (06, 07) -/

/-- Verdicts, with the codes 1 to 7 of R213. -/
inductive Verdict where
  | accepted | declined | unknownTag | provisional | declinedLocal | rejected | unanswered
  deriving DecidableEq, Repr

/-- A key: lane and transaction number (R106). -/
structure TollKey where
  lane : Octet
  txn  : Quad
  deriving DecidableEq, Repr

/-- An answer block for the gantry (R107): `fromCentre` is the verdict source. -/
structure TollAnswer where
  key        : TollKey
  verdict    : Verdict
  fromCentre : Bool
  balance    : Quad
  deriving DecidableEq, Repr

/-- A pending table entry (R112). -/
structure PendingToll where
  key     : TollKey
  block   : Octets
  arrival : Half
  timer   : Nat
  deriving DecidableEq, Repr

/-- The Toll Relay (06). Entry `c` of the class table is class `c + 1`: true is DECLINED_LOCAL
(R117). -/
structure TollRelay where
  run             : Octets
  runExtra        : Nat
  runFresh        : Bool
  answers         : List TollAnswer
  pendingTable    : List PendingToll
  classes         : Tab Bool 7
  deny            : List TagId
  tToll           : Nat
  receivedCharge  : Nat
  blockLength     : Nat
  blockCheck      : Nat
  blockKind       : Nat
  rejected        : Nat
  duplicates      : Nat
  forwarded       : Nat
  liveRefused     : Nat
  pendingFull     : Nat
  timeouts        : Nat
  localAnswers    : Nat
  detachAnswers   : Nat
  restartMoved    : Nat
  answeredByCentre : Nat
  lateSettled     : Nat
  unmatched       : Nat
  tollIgnored     : Nat
  reportsForwarded : Nat
  reportsDropped  : Nat
  answersDropped  : Nat
  deriving DecidableEq, Repr

/-- A journal record (R126). `inFlight` is none in WAITING and the elapsed cycles in IN_FLIGHT. -/
structure JournalRecord where
  key          : TollKey
  block        : Octets
  verdict      : Verdict
  journalledAt : Nat
  offers       : Nat
  inFlight     : Option Nat
  deriving DecidableEq, Repr

/-- The Toll Journal (07). -/
structure TollJournal where
  records            : List JournalRecord
  seconds            : Nat
  subSecond          : Nat
  drain              : Nat
  journalLost        : Nat
  settledFromJournal : Nat
  settledUnmatched   : Nat
  deferredSent       : Nat
  drainRefused       : Nat
  inflightTimeouts   : Nat
  verdictSet         : Nat
  deriving DecidableEq, Repr

/-! ## Weather Sampler (08) -/

/-- Sources of a weather channel (R141). -/
inductive WxSource where
  | none
  | ain (k : Fin 12)
  | pin (k : Fin 4)
  deriving DecidableEq, Repr

/-- An entry of the channel table, as stored (R141). `compareLong`: the compare source is
LONG_AVERAGE. -/
structure ChannelEntry where
  source      : WxSource
  period      : Nat
  zero        : Nat
  gain        : Int
  offset      : Int
  window      : Nat
  shift       : Nat
  compareLong : Bool
  highSet     : Int
  highClear   : Int
  lowSet      : Int
  lowClear    : Int
  highEnable  : Bool
  lowEnable   : Bool
  persist     : Nat
  interval    : Nat
  deriving DecidableEq, Repr

/-- The extremes since the last report, present or absent together (R150). -/
structure Extremes where
  peak   : Int
  trough : Int
  deriving DecidableEq, Repr

/-- The working state of a channel (08 section 8.3). -/
structure ChannelState where
  ticks     : Nat
  window    : List Int
  mean      : Option Int
  long      : Option Int
  extremes  : Option Extremes
  high      : Bool
  low       : Bool
  highCount : Nat
  lowCount  : Nat
  railRun   : Nat
  goodRun   : Nat
  fault     : Bool
  saturated : Bool
  toReport  : Nat
  since     : Nat
  deriving DecidableEq, Repr

/-- The counts of a channel (R158). -/
structure ChannelCounts where
  samples   : Nat
  rails     : Nat
  saturated : Nat
  faults    : Nat
  reports   : Nat
  deriving DecidableEq, Repr

/-- An analog result buffer (R139). -/
structure AnalogBuffer where
  code        : BitVec 12
  conversions : Nat
  deriving DecidableEq, Repr

/-- A pulse input (R140): debounced level (true is HIGH), consecutive examinations that differed
from it, pulse count. -/
structure PulseInput where
  level  : Bool
  differ : Nat
  count  : Nat
  deriving DecidableEq, Repr

/-- The Weather Sampler (08). -/
structure WeatherSampler where
  clock     : Nat
  analog    : Tab AnalogBuffer 12
  pulses    : Tab PulseInput 4
  table     : Tab ChannelEntry 16
  work      : Tab ChannelState 16
  counts    : Tab ChannelCounts 16
  wxIgnored : Nat
  deriving DecidableEq, Repr

/-! ## Condition Unit (09) -/

/-- An entry of the event table (R163). -/
structure EventSetting where
  level : Nat
  fall  : Bool
  deriving DecidableEq, Repr

/-- A pending event (R164): `rise` tells a RISE from a FALL. -/
structure PendingEvent where
  condition : Fin 64
  rise      : Bool
  level     : Nat
  stamp     : Nat
  repeats   : Nat
  deriving DecidableEq, Repr

/-- The Condition Unit (09). -/
structure ConditionUnit where
  copy         : Tab Bool 64
  table        : Tab EventSetting 64
  events       : List PendingEvent
  mask         : Nat
  eventsMade   : Nat
  eventRepeats : Nat
  eventsAcked  : Nat
  alarmReports : Nat
  alarmIgnored : Nat
  deriving DecidableEq, Repr

/-! ## Sign Controller (10) -/

/-- A sign rule as stored (R176): a sense is true for SET. -/
structure SignRule where
  condA    : Fin 64
  senseA   : Bool
  condB    : Option (Fin 64)
  senseB   : Bool
  page     : Fin 64
  priority : Nat
  enabled  : Bool
  deriving DecidableEq, Repr

/-- The centre request (R178); the lifetime is in seconds, 0 for none. -/
structure CentreRequest where
  page     : Fin 64
  priority : Nat
  lifetime : Nat
  elapsed  : Nat
  deriving DecidableEq, Repr

/-- The test request (R180). -/
structure TestRequest where
  page    : Fin 64
  elapsed : Nat
  deriving DecidableEq, Repr

/-- The source of a selection (R181). -/
inductive SignSource where
  | default | centre | rule (k : Fin 16) | test
  deriving DecidableEq, Repr

/-- A winner, or the selected page with its priority and source (R181, R182). -/
structure Selection where
  page     : Fin 64
  priority : Nat
  source   : SignSource
  deriving DecidableEq, Repr

/-- States of the sign link sender (10 section 10.5). -/
inductive SenderState where
  | idle | sending | awaiting
  deriving DecidableEq, Repr

/-- The exchange in progress on the sign link (10 section 10.5). -/
inductive Exchange where
  | none
  | transfer (page : Fin 64) (attempt : Nat)
  | poll
  deriving DecidableEq, Repr

/-- The sign link sender. `line` holds the octets of the command being sent, the abort marker among
them; `sentCycles` the cycles it has been sent for (R188). -/
structure Sender where
  state       : SenderState
  exchange    : Exchange
  line        : Octets
  sentCycles  : Nat
  owed        : Bool
  undelivered : Bool
  answerTimer : Option Nat
  pollTimer   : Nat
  missedPolls : Nat
  displayed   : Option (Fin 64)
  faultFlags  : Half
  lastReject  : Option Octet
  signFail    : Bool
  deriving DecidableEq, Repr

/-- A page descriptor as stored: its segments in the order listed (R185). -/
abbrev Descriptor := List Segment

/-- The Sign Controller. Entry `k` of `pages` is page `k + 1`. The page store is a list of cells in
canonical form (R186). -/
structure SignController where
  rules             : Tab SignRule 16
  centre            : Option CentreRequest
  test              : Option TestRequest
  pages             : Tab (Option Descriptor) 63
  store             : List Host.Cell
  selection         : Selection
  hold              : Option Nat
  stale             : Bool
  holdSeconds       : Nat
  answerLimit       : Nat
  sender            : Sender
  selections        : Nat
  transfersStarted  : Nat
  transferAborts    : Nat
  pagesAccepted     : Nat
  pagesRejected     : Nat
  answerTimeouts    : Nat
  deliveryFailures  : Nat
  pollsSent         : Nat
  pollsMissed       : Nat
  badAnswers        : Nat
  signIgnored       : Nat
  deriving DecidableEq, Repr

/-! ## Management Agent (11) -/

/-- An entry of the request queue (R198): the request as its payload carries it. -/
structure QueuedRequest where
  head    : Head
  payload : Octets
  deriving DecidableEq, Repr

/-- The walk record of the master (11 section 11.5). `timer` runs while the walk is RUNNING; `head`
is that of the ASSIGN_ADDRESSES that started the walk. -/
structure Walk where
  running : Bool
  onOffer : Octet
  given   : Nat
  timer   : Option Nat
  head    : Head
  deriving DecidableEq, Repr

/-- The Management Agent (11). -/
structure Agent where
  requests         : List QueuedRequest
  address          : Option Octet
  fieldLock        : Bool
  centreFlags      : Tab Bool 5
  walk             : Walk
  requestsExecuted : Nat
  requestsDropped  : Nat
  requestsFlushed  : Nat
  responsesSent    : Nat
  fieldRequests    : Nat
  mgmtIgnored      : Nat
  walks            : Nat
  walkTimeouts     : Nat
  addressesTaken   : Nat
  deriving DecidableEq, Repr

/-! ## Pins, outputs, the cycle period -/

/-- The levels outside the node holds its inputs at (00 section 4). -/
structure Pins where
  strap    : Bool
  uplinkUp : Bool
  hooks    : Tab Hook 4
  buttons  : Tab Bool 4
  speechIn : Tab Octets 4
  pulses   : Tab Bool 4
  ain      : Tab (BitVec 12) 12
  deriving DecidableEq, Repr

/-- What the node last sent (log 20): the cycle on each line port, the frames out of the uplink in
this period, octet for octet with their checks, the last answer block on the toll line, the speech
sent to each position. -/
structure Outputs where
  txW      : Octets
  txE      : Octets
  uplink   : List Octets
  tollLine : Octets
  speech   : Tab Octets 4
  deriving DecidableEq, Repr

/-- The parts of a cycle period (log 2): its inputs arrive; the events that their end brings about
are taken; the cycle has been settled and the node sends its own cycle. -/
inductive Stage where
  | inputs | closing | sending
  deriving DecidableEq, Repr

/-- The settings that running timers are compared with in a cycle period: those in force as it
began, since a new value acts from the next cycle on (R10, R115, R183, R187). -/
structure TimerSettings where
  wtrSeconds  : Nat
  tToll       : Nat
  holdSeconds : Nat
  answerLimit : Nat
  deriving DecidableEq, Repr

/-- What has happened in this cycle period (log 2): its stage, a header was processed, it set the
centre-header age to 0, each port's transmitter has its cycle, the master has originated the cycle of
its number (log 12), a RESTART was executed (R137), the conditions of the journal that it raised (R175,
log 14), and the settings its timers are compared with. -/
structure Period where
  stage      : Stage
  processed  : Bool
  qualified  : Bool
  fedW       : Bool
  fedE       : Bool
  originated : Bool
  restarted  : Bool
  raised     : List (Fin 64)
  inForce    : TimerSettings
  deriving DecidableEq, Repr

/-- The state of the HN48. `pending` is the queue of commands, first in first out; `choices` and
`openIndex` are the model's own (log 3, log 8). -/
structure State where
  pending   : List Instr
  choices   : Nat
  openIndex : Nat
  isMaster  : Bool
  pins      : Pins
  line      : LineInterface
  timer     : CycleTimer
  prot      : Protection
  sw        : FrameSwitch
  phone     : PhoneInterface
  alloc     : SlotAllocator
  lanes     : Lanes
  toll      : TollRelay
  journal   : TollJournal
  wx        : WeatherSampler
  cond      : ConditionUnit
  sign      : SignController
  agent     : Agent
  out       : Outputs
  period    : Period
  deriving DecidableEq, Repr

/-! ## The values after power-on -/

/-- Eight octets of the silence value 0xD5 (R64). -/
def silence : Octets := List.replicate 8 0xD5

/-- A line port after power-on (R23, R6, R9). -/
def LinePort.reset : LinePort :=
  { rx := .down, entryCycle := 0, entryFrom := .fromDown, alignCycles := 0, markerFound := false
    alignRun := 0, errorRun := 0, farEndRun := 0, faulted := true, reason := .loss
    headerErrors := 0, portFaults := 0, portRecoveries := 0
    health := .unhealthy, wtrTimer := none, bringUp := 0, everHealthy := false
    completed := none }

/-- The Line Interface after power-on (R23, R12). -/
def LineInterface.reset : LineInterface := { w := .reset, e := .reset, wtrSeconds := 10 }

/-- The Cycle Timer after power-on: a slave is in holdover (R23), a master is not (R18). -/
def CycleTimer.reset (master : Bool) : CycleTimer :=
  { number := 0, record := { origin := .holdover, masterAddr := 1, u := 0, centreUp := false }
    missing := 0, holdover := !master, highWater := 0, repeatRun := 0, recirculating := false
    adoptNext := true, duplicate := none, holdoverEntries := 0, recirculations := 0 }

/-- The Protection Controller after power-on (R40, R23): ISOLATED; a master is LINKED if its uplink
is up. That a master holds an age, which R20 gives to slaves alone, and that it stands at 16, is the
model's choice (log 41). -/
def Protection.reset (master uplinkUp : Bool) : Protection :=
  { state := .isolated, forced := none, linked := master && uplinkUp
    handed := master && uplinkUp, age := 16, heldS := none
    changes := 0, isolations := 0 }

/-- The Frame Switch after power-on (R62). -/
def FrameSwitch.reset : FrameSwitch :=
  { accept := [], alarm := [], vsig := [], tollLive := [], mgmt := [], tollDeferred := []
    sign := [], wx := [], budget := 256, holding := [], pool := [], records := []
    discards := .fill 11 0, zoneLost := 0, stripped := 0, taken := 0, toCentre := 0, copies := 0
    passed := 0, added := .fill 7 0 }

/-- A phone position after power-on (R83). -/
def Position.reset : Position :=
  { call := .idle, debounced := .on, hookCount := 0, holdCount := 0, priority := false
    resume := false, answer := false, resend := none, ring := none, place := none }

/-- A bank that holds no slot (R85). -/
def Bank.empty : Bank := { version := 0, entries := .fill 4 none }

/-- The Phone Interface after power-on (R83, R85). -/
def PhoneInterface.reset : PhoneInterface :=
  { positions := .fill 4 .reset, statusTimer := 0, active := .empty, standby := .empty
    activeIsB := false, pendingAt := none, cleared := true, plansAccepted := 0, plansLate := 0
    plansStale := 0, plansIgnored := 0, planSwitches := 0, requestsSent := 0, releasesSent := 0
    statusSent := 0, priorityPresses := 0, callsAnswered := 0, callsDropped := 0, ringTimeouts := 0
    vsigIgnored := 0 }

/-- A plan record after power-on (R104). The number of the accepted plan's switch cycle, which counts as
come round, is the model's (log 33). -/
def PlanRecord.reset : PlanRecord :=
  { lastIssued := 0, accepted := { version := 0, switchCycle := 0, entries := .fill 4 none }
    acceptedSeen := true, comeRound := true, inFlight := none, absent := false, quarantine := none }

/-- The Slot Allocator after power-on (R104). -/
def SlotAllocator.reset : SlotAllocator :=
  { slots := .fill 48 .free, calls := [], waiting := [], nextArrival := 0
    plans := .fill 240 .reset, capacity := 16, grants := 0, grantsFromQueue := 0
    queueRefusals := 0, plansIssued := 0, planResends := 0, staleAnswers := 0, nodesAbsent := 0
    callsSupervised := 0, statusUnmatched := 0, allocIgnored := 0 }

/-- The Toll Relay after power-on (R124). -/
def TollRelay.reset : TollRelay :=
  { run := [], runExtra := 0, runFresh := false, answers := [], pendingTable := []
    classes := .fill 7 false, deny := [], tToll := 300, receivedCharge := 0, blockLength := 0
    blockCheck := 0, blockKind := 0, rejected := 0, duplicates := 0, forwarded := 0
    liveRefused := 0, pendingFull := 0, timeouts := 0, localAnswers := 0, detachAnswers := 0
    restartMoved := 0, answeredByCentre := 0, lateSettled := 0, unmatched := 0, tollIgnored := 0
    reportsForwarded := 0, reportsDropped := 0, answersDropped := 0 }

/-- The Toll Journal after power-on (R137). -/
def TollJournal.reset : TollJournal :=
  { records := [], seconds := 0, subSecond := 0, drain := 2, journalLost := 0
    settledFromJournal := 0, settledUnmatched := 0, deferredSent := 0, drainRefused := 0
    inflightTimeouts := 0, verdictSet := 0 }

/-- A channel entry after power-on (R159). -/
def ChannelEntry.reset : ChannelEntry :=
  { source := .none, period := 1, zero := 0, gain := 0, offset := 0, window := 1, shift := 0
    compareLong := false, highSet := 0, highClear := 0, lowSet := 0, lowClear := 0
    highEnable := false, lowEnable := false, persist := 1, interval := 0 }

/-- The working state of a channel after a channel restart, with its report interval (R142). -/
def ChannelState.restarted (interval : Nat) : ChannelState :=
  { ticks := 0, window := [], mean := none, long := none, extremes := none, high := false
    low := false, highCount := 0, lowCount := 0, railRun := 0, goodRun := 0, fault := false
    saturated := false, toReport := interval, since := 0 }

/-- The Weather Sampler after power-on (R159). -/
def WeatherSampler.reset : WeatherSampler :=
  { clock := 0, analog := .fill 12 { code := 0, conversions := 0 }
    pulses := .fill 4 { level := false, differ := 0, count := 0 }
    table := .fill 16 .reset, work := .fill 16 (.restarted 0)
    counts := .fill 16 { samples := 0, rails := 0, saturated := 0, faults := 0, reports := 0 }
    wxIgnored := 0 }

/-- The default event level of condition `c` (R163). -/
def defaultLevel (c : Nat) : Nat :=
  if c < 32 then 3 else if c < 48 then 4 else if c < 50 then 5 else if c < 56 then 7
  else if c = 56 then 2 else if c = 57 then 6 else if c = 58 then 5 else 0

/-- The event table after power-on (R163). -/
def defaultEvents : Tab EventSetting 64 :=
  ⟨(List.range 64).map fun c => { level := defaultLevel c, fall := false }, by simp⟩

/-- The Condition Unit after power-on (R174): the copy takes DETACHED (48) and ISOLATED (50) from
their owners, without events. -/
def ConditionUnit.reset (detached : Bool) : ConditionUnit :=
  { copy := ((Tab.fill 64 false).set 48 detached).set 50 true
    table := defaultEvents, events := [], mask := 3, eventsMade := 0, eventRepeats := 0
    eventsAcked := 0, alarmReports := 0, alarmIgnored := 0 }

/-- A sign rule after power-on (R176). -/
def SignRule.reset : SignRule :=
  { condA := 0, senseA := true, condB := none, senseB := true, page := 1, priority := 1
    enabled := false }

/-- The sign link sender after power-on (R195): the poll timer stands expired. -/
def Sender.reset : Sender :=
  { state := .idle, exchange := .none, line := [], sentCycles := 0, owed := false
    undelivered := true, answerTimer := none, pollTimer := 10000, missedPolls := 0
    displayed := none, faultFlags := 0, lastReject := none, signFail := false }

/-- The Sign Controller after power-on (R195). -/
def SignController.reset : SignController :=
  { rules := .fill 16 .reset, centre := none, test := none, pages := .fill 63 none, store := []
    selection := { page := 0, priority := 0, source := .default }, hold := none, stale := false
    holdSeconds := 30, answerLimit := 500, sender := .reset, selections := 0
    transfersStarted := 0, transferAborts := 0, pagesAccepted := 0, pagesRejected := 0
    answerTimeouts := 0, deliveryFailures := 0, pollsSent := 0, pollsMissed := 0, badAnswers := 0
    signIgnored := 0 }

/-- The walk record after power-on (R210). -/
def Walk.reset : Walk :=
  { running := false, onOffer := 0, given := 0, timer := none
    head := { origin := .centre, source := 0, channel := 0, tag := 0 } }

/-- The Management Agent after power-on (R210): the master's address is 1. -/
def Agent.reset (master : Bool) : Agent :=
  { requests := [], address := if master then some 1 else none, fieldLock := false
    centreFlags := .fill 5 false, walk := .reset, requestsExecuted := 0, requestsDropped := 0
    requestsFlushed := 0, responsesSent := 0, fieldRequests := 0, mgmtIgnored := 0, walks := 0
    walkTimeouts := 0, addressesTaken := 0 }

/-- The pins, held at rest: DESIGN CHOICE (log 6, log 7), for they are driven from outside. -/
def Pins.rest : Pins :=
  { strap := false, uplinkUp := false, hooks := .fill 4 .on, buttons := .fill 4 false
    speechIn := .fill 4 silence, pulses := .fill 4 false, ain := .fill 12 0 }

/-- Nothing sent yet (log 20). -/
def Outputs.reset : Outputs :=
  { txW := [], txE := [], uplink := [], tollLine := [], speech := .fill 4 silence }

/-- A cycle period in which nothing has happened yet. -/
def Period.fresh (inForce : TimerSettings) : Period :=
  { stage := .inputs, processed := false, qualified := false, fedW := false, fedE := false
    originated := false, restarted := false, raised := [], inForce }

/-- The timers' settings after power-on (R12, R115, R183, R187). -/
def TimerSettings.reset : TimerSettings :=
  { wtrSeconds := 10, tToll := 300, holdSeconds := 30, answerLimit := 500 }

/-- The whole node after power-on, with the pins at `pins`, the strap sampled from them (R23, and
the power-on table of each chapter). The waiting commands and the model's own fields are handed
in. -/
def State.poweredOn (pending : List Instr) (choices openIndex : Nat) (pins : Pins) : State :=
  { pending, choices, openIndex, isMaster := pins.strap, pins
    line := .reset, timer := .reset pins.strap
    prot := .reset pins.strap pins.uplinkUp
    sw := .reset, phone := .reset, alloc := .reset
    lanes := { fromCentre := .fill 48 silence, toCentre := .fill 48 silence }
    toll := .reset, journal := .reset, wx := .reset
    cond := .reset (!(pins.strap && pins.uplinkUp))
    sign := .reset, agent := .reset pins.strap, out := .reset, period := .fresh .reset }

/-- The node right after power-on: a slave (log 6), its inputs at rest (log 7), no command
waiting. -/
def State.reset : State := State.poweredOn [] 0 0 Pins.rest

end Sys2Proof.Machine
end

