-- ==== Sys2Proof/Machine/Checks.lean ====
section
/-! DEFINITION. Octet order and the two checks of the Formats chapter (12 section 12.1, R211). -/

namespace Sys2Proof.Machine

/-- The two octets of a 16-bit number, most significant first (00 section 6). -/
def octets2 (x : Half) : Octets := [(x >>> 8).setWidth 8, x.setWidth 8]

/-- The four octets of a 32-bit number, most significant first. -/
def octets4 (x : Quad) : Octets :=
  [(x >>> 24).setWidth 8, (x >>> 16).setWidth 8, (x >>> 8).setWidth 8, x.setWidth 8]

/-- The number that octets spell, most significant first. -/
def ofOctets (os : Octets) : Nat := os.foldl (fun n o => n * 256 + o.toNat) 0

/-- Two octets as a 16-bit number. -/
def half (hi lo : Octet) : Half := hi ++ lo

/-- The low `n` octets of a number, most significant first. -/
def octetsOf : Nat → Nat → Octets
  | 0, _ => []
  | n + 1, x => octetsOf n (x / 256) ++ [BitVec.ofNat 8 x]

/-- One bit of the header check: polynomial 0x1021, not reflected (12 section 12.1). -/
def crc16Bit (r : Half) : Half := if r.msb then (r <<< 1) ^^^ 0x1021 else r <<< 1

/-- One octet of the header check, bit 7 first. -/
def crc16Octet (r : Half) (o : Octet) : Half :=
  let r := r ^^^ (o.setWidth 16 <<< 8)
  crc16Bit (crc16Bit (crc16Bit (crc16Bit (crc16Bit (crc16Bit (crc16Bit (crc16Bit r)))))))

/-- The header check: initial value 0xFFFF, no final complement (12 section 12.1). -/
def headerCheck (os : Octets) : Half := os.foldl crc16Octet 0xFFFF

/-- One bit of the payload check: polynomial 0x04C11DB7, not reflected (12 section 12.1). -/
def crc32Bit (r : Quad) : Quad := if r.msb then (r <<< 1) ^^^ 0x04C11DB7 else r <<< 1

/-- One octet of the payload check, bit 7 first. -/
def crc32Octet (r : Quad) (o : Octet) : Quad :=
  let r := r ^^^ (o.setWidth 32 <<< 24)
  crc32Bit (crc32Bit (crc32Bit (crc32Bit (crc32Bit (crc32Bit (crc32Bit (crc32Bit r)))))))

/-- The payload check: initial value 0xFFFFFFFF, the result complemented (12 section 12.1). -/
def payloadCheck (os : Octets) : Quad := ~~~ os.foldl crc32Octet 0xFFFFFFFF

/-- Octets followed by their header check (12 section 12.1: immediately after the octets covered). -/
def withCheck (os : Octets) : Octets := os ++ octets2 (headerCheck os)

/-- The octets end in the header check over those before it (R211). -/
def checkHolds (os : Octets) : Bool :=
  2 ≤ os.length && os.drop (os.length - 2) == octets2 (headerCheck (os.take (os.length - 2)))

end Sys2Proof.Machine
end

