-- ==== Sys2Proof/Machine/Operands.lean ====
section
/-! DEFINITION. The formats seen outside the part (12), both ways: cycle headers, frames and packet
zones, the payloads of each service, management requests and responses, the toll port and the sign
link. -/

namespace Sys2Proof.Machine

/-- Octet `i` of a layout. -/
def octetAt (os : Octets) (i : Nat) : Octet := os.getD i 0

/-- Octets `i` and `i + 1` of a layout as a number. -/
def halfAt (os : Octets) (i : Nat) : Half := half (octetAt os i) (octetAt os (i + 1))

/-- Octets `i` to `i + 3` of a layout as a number. -/
def quadAt (os : Octets) (i : Nat) : Quad := halfAt os i ++ halfAt os (i + 2)

/-- An octet from a number. -/
def octet (n : Nat) : Octet := BitVec.ofNat 8 n

/-- Octets cut into pieces of `k`; what is left over is dropped. -/
def pieces (k : Nat) : Nat → Octets → List Octets
  | 0, _ => []
  | n + 1, os => os.take k :: pieces k n (os.drop k)

/-! ## Ring cycles (R1, R3, R212) -/

/-- The fields of a cycle header (R3). -/
structure CycleHeader where
  number     : Half
  origin     : HeaderOrigin
  masterAddr : Octet
  u          : Octet
  centreUp   : Bool
  farEnd     : Bool
  deriving DecidableEq, Repr

/-- The octet that codes an origin (R212). -/
def originOctet : HeaderOrigin → Octet
  | .master => 1
  | .holdover => 2

/-- The flag octet of a cycle header: bit 7 CENTRE_UP, bit 6 FAR_END_FAULT (R212). -/
def headerFlags (centreUp farEnd : Bool) : Octet :=
  (if centreUp then 0x80 else 0) ||| (if farEnd then 0x40 else 0)

/-- The ten octets of a cycle header (R212). -/
def encodeCycleHeader (h : CycleHeader) : Octets :=
  withCheck ([0xF3, 0x26] ++ octets2 h.number ++
    [originOctet h.origin, h.masterAddr, h.u, headerFlags h.centreUp h.farEnd])

/-- A cycle header as received: `none` for a failed header (R3). -/
def decodeCycleHeader (os : Octets) : Option CycleHeader :=
  let h := os.take 10
  if h.length = 10 ∧ octetAt h 0 = 0xF3 ∧ octetAt h 1 = 0x26 ∧ checkHolds h = true ∧
      (octetAt h 4 = 1 ∨ octetAt h 4 = 2) ∧ octetAt h 6 ≤ 48 then
    some {
      number := halfAt h 2
      origin := if octetAt h 4 = 1 then .master else .holdover
      masterAddr := octetAt h 5
      u := octetAt h 6
      centreUp := (octetAt h 7).getLsbD 7
      farEnd := (octetAt h 7).getLsbD 6 }
  else none

/-- The size of the packet zone for `u` voice slots (R1). -/
def zoneSize (u : Nat) : Nat := 1014 - 8 * u

/-- The voice region of a received cycle: `u` slots of eight octets, slot 0 first (R1). -/
def voiceOf (u : Nat) (cycle : Octets) : List Octets := pieces 8 u (cycle.drop 10)

/-- The packet zone of a received cycle (R1). -/
def zoneOf (u : Nat) (cycle : Octets) : Octets := (cycle.drop (10 + 8 * u)).take (zoneSize u)

/-- `u` voice slots of silence. -/
def silentVoice (u : Nat) : List Octets := List.replicate u silence

/-! ## Frames (R41, R212) -/

/-- The extent of a frame in octets (R41). -/
def extent (f : Frame) : Nat := 16 + f.payload.length

/-- The extent of a list of frames in octets. -/
def extents (fs : List Frame) : Nat := (fs.map extent).sum

/-- The flags octet as a frame is sent: FIELD and response, the fill bits as zero whatever was received
(R212). -/
def sentFlags (flags : Octet) : Octet := flags &&& 0xC0

/-- The first ten octets of a frame, which its header check covers (R212). -/
def frameHeader (f : Frame) : Octets :=
  [f.dest, f.source, f.service, f.channel, f.hop, sentFlags f.flags] ++ octets2 f.tag ++
    octets2 (BitVec.ofNat 16 f.payload.length)

/-- The octets of a frame (R212). -/
def encodeFrame (f : Frame) : Octets := withCheck (frameHeader f) ++ f.payload ++ octets4 f.check

/-- The header fields a discard record keeps (R50). -/
def frameFields (f : Frame) : FrameFields :=
  { dest := f.dest, source := f.source, service := f.service, channel := f.channel, hop := f.hop
    length := f.payload.length }

/-- What a reader finds in a packet zone, in zone order (R41, R42 steps 1 and 2). -/
inductive ZoneItem where
  /-- A header check that fails: reading ends. -/
  | badHeader
  /-- A length above 496; reading goes on after its extent when that lies within the zone. -/
  | tooLong (fields : FrameFields) (within : Bool)
  /-- A length of 496 or less whose extent runs past the zone: reading ends. -/
  | truncated
  /-- A whole frame. -/
  | frame (f : Frame)
  deriving DecidableEq, Repr

/-- The header fields that twelve octets carry. -/
def fieldsOf (h : Octets) : FrameFields :=
  { dest := octetAt h 0, source := octetAt h 1, service := octetAt h 2, channel := octetAt h 3
    hop := octetAt h 4, length := (halfAt h 8).toNat }

/-- The frame that stands at the start of octets, with `len` octets of payload. -/
def frameOf (os : Octets) (len : Nat) : Frame :=
  { dest := octetAt os 0, source := octetAt os 1, service := octetAt os 2
    channel := octetAt os 3, hop := octetAt os 4, flags := octetAt os 5, tag := halfAt os 6
    payload := (os.drop 12).take len, check := quadAt os (12 + len) }

/-- The reader of a packet zone: it stops at idle fill 0xF5, or with fewer than 16 octets left, and
at a failed header check (R41, R42). The first argument bounds the number of frames. -/
def readZone : Nat → Octets → List ZoneItem
  | 0, _ => []
  | n + 1, z =>
    if z.length < 16 ∨ octetAt z 0 = 0xF5 then []
    else if checkHolds (z.take 12) = false then [.badHeader]
    else
      let len := (halfAt z 8).toNat
      if 496 < len then
        if 16 + len ≤ z.length then .tooLong (fieldsOf z) true :: readZone n (z.drop (16 + len))
        else [.tooLong (fieldsOf z) false]
      else if z.length < 16 + len then [.truncated]
      else .frame (frameOf z len) :: readZone n (z.drop (16 + len))

/-- A zone of at most 1014 octets holds at most 63 frames. -/
def zoneItems (z : Octets) : List ZoneItem := readZone 64 z

/-- A packet zone of `z` octets: frames back to back, then idle fill 0xF5 (R1, R212). -/
def encodeZone (z : Nat) (fs : List Frame) : Octets :=
  let body := fs.flatMap encodeFrame
  body ++ List.replicate (z - body.length) 0xF5

/-- A whole ring cycle (R1). -/
def encodeCycle (h : CycleHeader) (voice : List Octets) (fs : List Frame) : Octets :=
  encodeCycleHeader h ++ voice.flatten ++ encodeZone (zoneSize h.u.toNat) fs

/-! ## Services (R41) and flags (R212) -/

/-- Service numbers of R41. -/
def svcMgmt : Octet := 1
def svcAlarm : Octet := 2
def svcToll : Octet := 3
def svcVsig : Octet := 4
def svcSign : Octet := 5
def svcWx : Octet := 6

/-- The flag octet of a frame: bit 7 FIELD, bit 6 response (R212). -/
def frameFlags (field response : Bool) : Octet :=
  (if field then 0x80 else 0) ||| (if response then 0x40 else 0)

/-- The response flag (R212). -/
def isResponse (f : Frame) : Bool := f.flags.getLsbD 6

/-- The queue of a service (R54, 03 section 3.5). Two queues carry TOLL frames; that a frame of the
centre uses TOLL_LIVE is the model's choice (log 40). -/
def queueOf (service : Octet) : QueueName :=
  if service = svcMgmt then .mgmt
  else if service = svcAlarm then .alarm
  else if service = svcToll then .tollLive
  else if service = svcVsig then .vsig
  else if service = svcSign then .sign
  else .wx

/-! ## VSIG payloads (R213) -/

/-- The messages of call signalling and of the slot plans (R213). -/
inductive VsigMsg where
  | callRequest (ref : CallRef) (priority resume answer : Bool)
  | callRelease (ref : CallRef)
  | callStatus (refs : List CallRef)
  | callQueued (ref : CallRef) (place : Nat)
  | planUpdate (version : Octet) (switchCycle : Half) (slots : Octets)
  | planAccept (node version : Octet)
  | planLate (node version : Octet)
  deriving DecidableEq, Repr

/-- The flag octet of a CALL_REQUEST: bit 0 PRIORITY, bit 1 RESUME, bit 2 ANSWER (R213). -/
def requestFlags (priority resume answer : Bool) : Octet :=
  (if priority then 1 else 0) ||| (if resume then 2 else 0) ||| (if answer then 4 else 0)

/-- The payload of a VSIG message (R213). -/
def encodeVsig : VsigMsg → Octets
  | .callRequest r p re a => [1, r.node, r.position, requestFlags p re a]
  | .callRelease r => [2, r.node, r.position]
  | .callStatus rs => [3, octet rs.length] ++ rs.flatMap fun r => [r.node, r.position]
  | .callQueued r k => [4, r.node, r.position, octet k]
  | .planUpdate v c slots => [5, v] ++ octets2 c ++ slots
  | .planAccept n v => [6, n, v]
  | .planLate n v => [7, n, v]

/-- The message a VSIG payload carries: `none` when it cannot be read (R213). -/
def decodeVsig (p : Octets) : Option VsigMsg :=
  let ref : CallRef := { node := octetAt p 1, position := octetAt p 2 }
  if p.length = 4 ∧ octetAt p 0 = 1 then
    let f := octetAt p 3
    some (.callRequest ref (f.getLsbD 0) (f.getLsbD 1) (f.getLsbD 2))
  else if p.length = 3 ∧ octetAt p 0 = 2 then some (.callRelease ref)
  else if octetAt p 0 = 3 ∧ 1 ≤ (octetAt p 1).toNat ∧ (octetAt p 1).toNat ≤ 4 ∧
      p.length = 2 + 2 * (octetAt p 1).toNat then
    some (.callStatus ((pieces 2 (octetAt p 1).toNat (p.drop 2)).map fun r =>
      { node := octetAt r 0, position := octetAt r 1 }))
  else if p.length = 4 ∧ octetAt p 0 = 4 ∧ (octetAt p 3).toNat ≤ 32 then
    some (.callQueued ref (octetAt p 3).toNat)
  else if p.length = 12 ∧ octetAt p 0 = 5 then
    some (.planUpdate (octetAt p 1) (halfAt p 2) (p.drop 4))
  else if p.length = 3 ∧ octetAt p 0 = 6 then some (.planAccept (octetAt p 1) (octetAt p 2))
  else if p.length = 3 ∧ octetAt p 0 = 7 then some (.planLate (octetAt p 1) (octetAt p 2))
  else none

/-- One entry of a plan on the line: two octets, 0xFF for none (R213). -/
def encodePair : Option SlotPair → Octets
  | none => [0xFF, 0xFF]
  | some p => [octet p.up.val, octet p.down.val]

/-- The eight slot octets of a plan (R213). -/
def encodeEntries (es : PlanEntries) : Octets := es.data.flatMap encodePair

/-- A slot octet that names a slot, or none (R213). -/
def slotOctet (o : Octet) : Option (Option (Fin 48)) :=
  if o = 0xFF then some none
  else if h : o.toNat < 48 then some (some ⟨o.toNat, h⟩) else none

/-- One entry of a well-formed plan: both slots or neither, and not one slot twice (R85). -/
def decodePair (up down : Octet) : Option (Option SlotPair) :=
  match slotOctet up, slotOctet down with
  | some none, some none => some none
  | some (some u), some (some d) => if u = d then none else some (some { up := u, down := d })
  | _, _ => none

/-- The slots that entries name, position 0 first. -/
def slotsNamed (es : List (Option SlotPair)) : List (Fin 48) :=
  es.flatMap fun e => match e with
    | none => []
    | some p => [p.up, p.down]

/-- The entries of a PLAN_UPDATE when it is well formed (R85): every slot in 0 to 47, each entry
both or neither, no slot named twice across the four entries. -/
def wellFormedEntries (slots : Octets) : Option PlanEntries :=
  match decodePair (octetAt slots 0) (octetAt slots 1), decodePair (octetAt slots 2) (octetAt slots 3),
      decodePair (octetAt slots 4) (octetAt slots 5), decodePair (octetAt slots 6) (octetAt slots 7) with
  | some a, some b, some c, some d =>
    if slots.length = 8 ∧ (slotsNamed [a, b, c, d]).Nodup then some ⟨[a, b, c, d], rfl⟩ else none
  | _, _, _, _ => none

/-! ## Toll formats (12 section 12.4, R213) -/

/-- The code of a verdict (R213). -/
def verdictCode : Verdict → Nat
  | .accepted => 1
  | .declined => 2
  | .unknownTag => 3
  | .provisional => 4
  | .declinedLocal => 5
  | .rejected => 6
  | .unanswered => 7

/-- The key of a toll block: lane in octet 2, transaction number in octets 4 to 7. -/
def blockKey (b : Octets) : TollKey := { lane := octetAt b 2, txn := quadAt b 4 }

/-- The vehicle class of a toll block, octet 3. -/
def blockClass (b : Octets) : Nat := (octetAt b 3).toNat

/-- The tag identity of a toll block, octets 8 to 19. -/
def blockTag (b : Octets) : TagId := BitVec.ofNat 96 (ofOctets ((b.drop 8).take 12))

/-- The sixteen octets of an answer block. -/
def encodeAnswer (a : TollAnswer) : Octets :=
  withCheck ([0x7E, a.key.lane] ++ octets4 a.key.txn ++
    [octet (verdictCode a.verdict), if a.fromCentre then 1 else 2] ++ octets4 a.balance ++ [0, 0])

/-- The payload of a DEFERRED frame: block, verdict, offers, journalled-at (R213). -/
def encodeDeferred (r : JournalRecord) : Octets :=
  r.block ++ [octet (verdictCode r.verdict), octet r.offers] ++ octetsOf 4 r.journalledAt

/-! ## Alarm and weather records (R213) -/

/-- An event record of eight octets (R213). -/
def encodeEvent (e : PendingEvent) : Octets :=
  [octet e.condition.val, if e.rise then 1 else 2, octet e.level, octet e.repeats] ++
    octetsOf 4 e.stamp

/-- A signed number of two octets. -/
def signed2 (x : Int) : Octets := octets2 (BitVec.ofInt 16 x)

/-- The status octet of a weather report record (R213). -/
def wxStatus (w : ChannelState) : Octet :=
  (if w.fault then 1 else 0) ||| (if w.saturated then 2 else 0) ||| (if w.high then 4 else 0) |||
  (if w.low then 8 else 0) ||| (if w.mean.isSome then 16 else 0) |||
  (if w.long.isSome then 32 else 0) ||| (if w.extremes.isSome then 64 else 0)

/-- The weather report record of channel `c`, twelve octets (R153, R213). -/
def encodeWxRecord (c : Fin 16) (w : ChannelState) : Octets :=
  [octet c.val, wxStatus w] ++ signed2 (w.mean.getD 0) ++ signed2 (w.long.getD 0) ++
    signed2 ((w.extremes.map (·.peak)).getD 0) ++ signed2 ((w.extremes.map (·.trough)).getD 0) ++
    octetsOf 2 w.since

/-! ## Sign formats (R213, R215) -/

/-- The abort marker (R215). -/
def abortMarker : Octets := [0x18, 0x18]

/-- A command on the sign link: start octet, type and fields, check (R215). -/
def signCommand (fields : Octets) : Octets := 0x02 :: withCheck fields

/-- SHOW: page, attempt, body length, body (R215). -/
def encodeShow (page : Fin 64) (attempt : Nat) (body : Octets) : Octets :=
  signCommand ([1, octet page.val, octet attempt] ++ octetsOf 2 body.length ++ body)

/-- BLANK (R215). -/
def encodeBlank : Octets := signCommand [2]

/-- POLL (R215). -/
def encodePoll : Octets := signCommand [3]

/-- The answers of the sign (R187). -/
inductive SignAnswer where
  | accept (page : Fin 64)
  | reject (reason : Octet)
  | status (page : Fin 64) (faults : Half)
  deriving DecidableEq, Repr

/-- A page number of 0 to 63. -/
def pageNumber (n : Nat) : Option (Fin 64) := if h : n < 64 then some ⟨n, h⟩ else none

/-- An answer as received: `none` when its framing or check fails (R215). -/
def decodeSignAnswer (os : Octets) : Option SignAnswer :=
  if checkHolds os = false then none
  else if os.length = 4 ∧ octetAt os 0 = 0x81 then (pageNumber (octetAt os 1).toNat).map .accept
  else if os.length = 4 ∧ octetAt os 0 = 0x82 then some (.reject (octetAt os 1))
  else if os.length = 6 ∧ octetAt os 0 = 0x83 then
    (pageNumber (octetAt os 1).toNat).map fun p => .status p (halfAt os 2)
  else none

/-- A SIGN payload of the centre: SHOW or CLEAR (R179, R213). -/
inductive SignRequest where
  | signShow (page priority lifetime : Nat)
  | signClear
  deriving DecidableEq, Repr

/-- The request a SIGN payload carries, if it carries one (R213). -/
def decodeSignRequest (p : Octets) : Option SignRequest :=
  if p.length = 5 ∧ octetAt p 0 = 1 then
    some (.signShow (octetAt p 1).toNat (octetAt p 2).toNat (halfAt p 3).toNat)
  else if p.length = 1 ∧ octetAt p 0 = 2 then some .signClear
  else none

/-! ## Management requests (R214) -/

/-- Codes of the walk messages (R214). -/
def codeOffer : Octet := 64
def codeTaken : Octet := 65

/-- The address an ADDRESS_OFFER payload carries (R214). -/
def decodeOffer (p : Octets) : Option Octet :=
  if p.length = 2 ∧ octetAt p 0 = codeOffer then some (octetAt p 1) else none

/-- The address and serial of an ADDRESS_TAKEN payload (R214). -/
def decodeTaken (p : Octets) : Option (Octet × BitVec 48) :=
  if p.length = 8 ∧ octetAt p 0 = codeTaken then
    some (octetAt p 1, BitVec.ofNat 48 (ofOctets (p.drop 2)))
  else none

/-- The signed number of two octets at `i`. -/
def signedAt (os : Octets) (i : Nat) : Int := (halfAt os i).toInt

/-- The unsigned number of one octet at `i`. -/
def natAt (os : Octets) (i : Nat) : Nat := (octetAt os i).toNat

/-- The unsigned number of two octets at `i`. -/
def nat2At (os : Octets) (i : Nat) : Nat := (halfAt os i).toNat

/-- An optional field of one octet: 0xFF when absent (R214). -/
def optAt (os : Octets) (i : Nat) : Option Nat :=
  if octetAt os i = 0xFF then none else some (natAt os i)

/-- A channel table entry of 25 octets (R141, R214). -/
def decodeChannel (e : Octets) : ChannelWrite :=
  { source := natAt e 0, period := nat2At e 1, zero := nat2At e 3, gain := signedAt e 5
    offset := signedAt e 7, window := natAt e 9, shift := natAt e 10, compare := natAt e 11
    highSet := signedAt e 12, highClear := signedAt e 14, lowSet := signedAt e 16
    lowClear := signedAt e 18, highEnable := natAt e 20, lowEnable := natAt e 21
    persist := natAt e 22, interval := nat2At e 23 }

/-- A sign rule entry of seven octets (R176, R214). -/
def decodeRule (e : Octets) : RuleWrite :=
  { condA := natAt e 0, senseA := natAt e 1, condB := optAt e 2, senseB := natAt e 3
    page := natAt e 4, priority := natAt e 5, enabled := natAt e 6 }

/-- A segment of five octets: first block, length, end mark (R185, R214). -/
def decodeSegment (e : Octets) : Segment :=
  { block := nat2At e 0, length := nat2At e 2, endMark := natAt e 4 }

/-- A page table entry of 41 octets: a count and eight segment places (R214). A count above eight
gives that many segments, which no descriptor has (R185). -/
def decodePage (e : Octets) : List Segment := (pieces 5 (natAt e 0) (e.drop 1)).map decodeSegment

/-- The octets of one entry of each writable table, by table number (R201, R214). -/
def writeEntrySize (table : Nat) : Option Nat :=
  match table with
  | 2 => some 3
  | 14 => some 3
  | 15 => some 1
  | 19 => some 25
  | 23 => some 2
  | 26 => some 7
  | 27 => some 41
  | 28 => some 64
  | 29 => some 3
  | _ => none

/-- The WRITE command for entries already cut out: the row of the table it names, or the row WRITE
for a table without a row of its own. -/
def writeInstr (h : Head) (table first count : Nat) (raw : Octets) : Instr :=
  let es := fun k => pieces k count raw
  match table with
  | 2 => .writeRingSettings h first ((es 3).map fun e => ((natAt e 0 : Int), (nat2At e 1 : Int)))
  | 14 => .writeTollSettings h first ((es 3).map fun e => ((nat2At e 0 : Int), (natAt e 2 : Int)))
  | 15 => .writeClassTable h first ((es 1).map fun e => natAt e 0)
  | 19 => .writeChannelTable h first ((es 25).map decodeChannel)
  | 23 => .writeEventTable h first ((es 2).map fun e => (natAt e 0, natAt e 1))
  | 26 => .writeSignRules h first ((es 7).map decodeRule)
  | 27 => .writePageTable h first ((es 41).map decodePage)
  | 28 => .writePageStore h first (es 64)
  | 29 => .writeSignSettings h first ((es 3).map fun e => ((natAt e 0 : Int), (nat2At e 1 : Int)))
  | _ => .write h table first count raw

/-- The code of a request (R214); 0 for an empty payload, which names none. -/
def requestCode (p : Octets) : Nat := if p.length = 0 then 0 else natAt p 0

/-- The command that executes a request: `none` when the payload names no request or cannot be read
as the request it names (R200, R213, R214). -/
def requestInstr (h : Head) (p : Octets) : Option Instr :=
  let a := fun i => natAt p i
  let withLength := fun (k : Nat) (i : Instr) => if p.length = k then some i else none
  match requestCode p with
  | 1 => withLength 6 (.read h (a 1) (nat2At p 2) (nat2At p 4))
  | 2 =>
    if p.length < 6 then none
    else
      let count := nat2At p 4
      match writeEntrySize (a 1) with
      | none => some (.write h (a 1) (nat2At p 2) count (p.drop 6))
      | some k => withLength (6 + k * count) (writeInstr h (a 1) (nat2At p 2) count (p.drop 6))
  | 3 => withLength 1 (.restart h)
  | 4 => withLength 2 (.forceWrap h (a 1))
  | 5 => withLength 1 (.clearForce h)
  | 6 => withLength 5 (.signShow h (a 1) (a 2) (nat2At p 3))
  | 7 => withLength 1 (.signClear h)
  | 8 => withLength 1 (.signResend h)
  | 9 => withLength 2 (.signTest h (a 1))
  | 10 => withLength 13 (.denyAdd h (BitVec.ofNat 96 (ofOctets (p.drop 1))))
  | 11 => withLength 13 (.denyRemove h (BitVec.ofNat 96 (ofOctets (p.drop 1))))
  | 12 => withLength 1 (.denyClear h)
  | 13 => withLength 3 (.acceptAdd h (a 1) (a 2))
  | 14 => withLength 3 (.acceptRemove h (a 1) (a 2))
  | 15 =>
    if p.length = 2 ∧ a 1 = 0 then some (.eventAck h none)
    else if 1 ≤ a 1 ∧ a 1 ≤ 64 then
      withLength (2 + a 1) (.eventAck h (some ((p.drop 2).map (·.toNat))))
    else none
  | 16 => withLength 2 (.setMask h (a 1))
  | 17 => withLength 3 (.setCentreFlag h (a 1) (a 2))
  | 18 => withLength 1 (.fieldLock h)
  | 19 => withLength 1 (.fieldUnlock h)
  | 20 => withLength 2 (.callBack h (a 1))
  | 21 => withLength 1 (.wxRead h)
  | 22 => withLength 1 (.countsClear h)
  | 23 => withLength 1 (.identify h)
  | 24 => withLength 2 (.assignAddresses h (a 1))
  | 25 => withLength 1 (.addressClear h)
  | 26 => withLength 2 (.setVoiceCapacity h (a 1))
  | _ => none

/-! ## Management responses (R199, R214) -/

/-- The reasons of a refusal, in the order of R214. -/
inductive Reason where
  | notPermitted | locked | badTable | badIndex | badValue | busy | full | conflict | notMaster
  deriving DecidableEq, Repr

/-- The number of a reason (R214). -/
def reasonCode : Reason → Nat
  | .notPermitted => 1
  | .locked => 2
  | .badTable => 3
  | .badIndex => 4
  | .badValue => 5
  | .busy => 6
  | .full => 7
  | .conflict => 8
  | .notMaster => 9

/-- The result of an executed request (11 section 11.1). The detail of a refusal is 0xFFFF but for
a WRITE that names its failing index and a walk that ends FULL (R214). -/
inductive Result where
  | done (value : Nat)
  | refused (reason : Reason) (detail : Nat)
  | data (table : Octet) (first : Half) (returned present : Nat) (entries : Octets)
  deriving DecidableEq, Repr

/-- A refusal that names no index and no count (R214). -/
def refusal (r : Reason) : Result := .refused r 0xFFFF

/-- The payload of a response (R214). -/
def encodeResult : Result → Octets
  | .done v => 0 :: octetsOf 4 v
  | .data t f r n es => [1, t] ++ octets2 f ++ octetsOf 2 r ++ octetsOf 2 n ++ es
  | .refused r d => [2, octet (reasonCode r)] ++ octetsOf 2 d

end Sys2Proof.Machine
end

