-- ==== Sys2Proof/Machine/Ops.lean ====
section
/-! DEFINITION. The operations every block shares: updates of one block of the state, the numbers of
cycles and versions, discards and their records, the offering of frames to the add queues and to the
uplink, and the page store. -/

namespace Sys2Proof.Machine

/-! ## Updates of one block -/

def State.modLine (f : LineInterface → LineInterface) (s : State) : State := { s with line := f s.line }
def State.modTimer (f : CycleTimer → CycleTimer) (s : State) : State := { s with timer := f s.timer }
def State.modProt (f : Protection → Protection) (s : State) : State := { s with prot := f s.prot }
def State.modSw (f : FrameSwitch → FrameSwitch) (s : State) : State := { s with sw := f s.sw }
def State.modPhone (f : PhoneInterface → PhoneInterface) (s : State) : State :=
  { s with phone := f s.phone }
def State.modAlloc (f : SlotAllocator → SlotAllocator) (s : State) : State :=
  { s with alloc := f s.alloc }
def State.modLanes (f : Lanes → Lanes) (s : State) : State := { s with lanes := f s.lanes }
def State.modToll (f : TollRelay → TollRelay) (s : State) : State := { s with toll := f s.toll }
def State.modJournal (f : TollJournal → TollJournal) (s : State) : State :=
  { s with journal := f s.journal }
def State.modWx (f : WeatherSampler → WeatherSampler) (s : State) : State := { s with wx := f s.wx }
def State.modCond (f : ConditionUnit → ConditionUnit) (s : State) : State :=
  { s with cond := f s.cond }
def State.modSign (f : SignController → SignController) (s : State) : State :=
  { s with sign := f s.sign }
def State.modAgent (f : Agent → Agent) (s : State) : State := { s with agent := f s.agent }
def State.modOut (f : Outputs → Outputs) (s : State) : State := { s with out := f s.out }
def State.modPins (f : Pins → Pins) (s : State) : State := { s with pins := f s.pins }
def State.modPeriod (f : Period → Period) (s : State) : State := { s with period := f s.period }

/-! ## Cycle numbers and plan versions (00 section 6) -/

/-- Cycle number `c` is ahead of `n`: `(c - n) mod 65536` lies in 1 to 255. -/
def ahead (c n : Half) : Bool := 1 ≤ (c - n).toNat && (c - n).toNat ≤ 255

/-- The cycles by which `n` is past `c`, when `c` is not ahead of `n`. -/
def cyclesPast (c n : Half) : Nat := if ahead c n then 0 else (n - c).toNat

/-- Plan version `v` is newer than `a`: `(v - a) mod 256` lies in 1 to 127. -/
def newer (v a : Octet) : Bool := 1 ≤ (v - a).toNat && (v - a).toNat ≤ 127

/-! ## Discards (R50, R51) -/

/-- The place of a reason in R50's table. -/
def reasonIndex : DiscardReason → Fin 11
  | .headerCheck => 0
  | .payloadCheck => 1
  | .tooLong => 2
  | .badAddress => 3
  | .badService => 4
  | .hopLimit => 5
  | .queueFull => 6
  | .noRoom => 7
  | .noPath => 8
  | .notPermitted => 9
  | .restartFlush => 10

/-- A discard: its reason's count adds one and its record joins the head of a list of at most
eight (R50, R51). -/
def recordDiscard (r : DiscardRecord) (sw : FrameSwitch) : FrameSwitch :=
  { sw with discards := sw.discards.modify (reasonIndex r.reason) bump
            records := (r :: sw.records).take 8 }

/-- The discard of a frame whose header can be trusted (R50). -/
def discardFields (cycle : Half) (reason : DiscardReason) (place : Place) (h : FrameFields)
    (sw : FrameSwitch) : FrameSwitch :=
  recordDiscard { reason, place, cycle, fields := some h, flushed := none } sw

/-- The discard of a frame (R50). -/
def discardFrame (cycle : Half) (reason : DiscardReason) (place : Place) (f : Frame)
    (sw : FrameSwitch) : FrameSwitch :=
  discardFields cycle reason place (frameFields f) sw

/-- The discard of several frames, in order (R51). -/
def discardAll (cycle : Half) (reason : DiscardReason) (place : Place) (fs : List Frame)
    (sw : FrameSwitch) : FrameSwitch :=
  fs.foldl (fun sw f => discardFrame cycle reason place f sw) sw

/-- The discard of a frame whose header check failed: its record holds no header field (R50). -/
def discardBadHeader (cycle : Half) (place : Place) (sw : FrameSwitch) : FrameSwitch :=
  recordDiscard { reason := .headerCheck, place, cycle, fields := none, flushed := none } sw

/-- A zone whose remainder is dropped is counted once (R50). -/
def loseZone (sw : FrameSwitch) : FrameSwitch := { sw with zoneLost := bump sw.zoneLost }

/-! ## The add queues (R52, R53) -/

/-- The capacity of a queue in frames (R53). -/
def capacityOf : QueueName → Nat
  | .alarm => 4
  | .vsig => 16
  | .tollLive => 16
  | .mgmt => 8
  | .tollDeferred => 8
  | .sign => 4
  | .wx => 8

/-- The budgeted queues (03 section 3.5): all but ALARM and VSIG. -/
def budgeted : QueueName → Bool
  | .alarm => false
  | .vsig => false
  | _ => true

/-- The place of a queue in R57's order of visits. -/
def queueIndex : QueueName → Fin 7
  | .alarm => 0
  | .vsig => 1
  | .tollLive => 2
  | .mgmt => 3
  | .tollDeferred => 4
  | .sign => 5
  | .wx => 6

/-- The seven queues in R57's order of visits. -/
def allQueues : List QueueName := [.alarm, .vsig, .tollLive, .mgmt, .tollDeferred, .sign, .wx]

/-- The frames of a queue, head first. -/
def queueFrames (sw : FrameSwitch) : QueueName → List Frame
  | .alarm => sw.alarm
  | .vsig => sw.vsig
  | .tollLive => sw.tollLive
  | .mgmt => sw.mgmt
  | .tollDeferred => sw.tollDeferred
  | .sign => sw.sign
  | .wx => sw.wx

/-- The switch with the frames of one queue replaced. -/
def setQueue (q : QueueName) (fs : List Frame) (sw : FrameSwitch) : FrameSwitch :=
  match q with
  | .alarm => { sw with alarm := fs }
  | .vsig => { sw with vsig := fs }
  | .tollLive => { sw with tollLive := fs }
  | .mgmt => { sw with mgmt := fs }
  | .tollDeferred => { sw with tollDeferred := fs }
  | .sign => { sw with sign := fs }
  | .wx => { sw with wx := fs }

/-- What becomes of an offered frame (R52, R53): it joined the queue, it was returned to its owner,
or it was discarded. -/
inductive OfferResult where
  | queued | returned | discarded
  deriving DecidableEq, Repr

/-- A frame offered to a full queue (R53). -/
def offerFull (cycle : Half) (q : QueueName) (f : Frame) (sw : FrameSwitch) :
    FrameSwitch × OfferResult :=
  match q with
  | .alarm =>
    let kept := sw.alarm.dropLast
    (setQueue .alarm (kept ++ [f])
      (discardAll cycle .queueFull (.queue .alarm) (sw.alarm.drop kept.length) sw), .queued)
  | .wx =>
    (setQueue .wx (sw.wx.drop 1 ++ [f])
      (discardAll cycle .queueFull (.queue .wx) (sw.wx.take 1) sw), .queued)
  | .tollLive => (sw, .returned)
  | .tollDeferred => (sw, .returned)
  | q => (discardFrame cycle .queueFull (.queue q) f sw, .discarded)

/-- The rows of R52 after the first, for a completed frame. `assigned` and `isolated` are the node's
own state; `ofCentre` marks a frame of the centre from the master's uplink, to which the row of the
missing address does not apply and which a full queue discards (R54). NO_ROOM is judged against B as it
stands in the ring settings: that a new B acts on an offer before the next cycle is filled, which R58
leaves open, is the model's choice (log 48). -/
def offerFrame (assigned isolated ofCentre : Bool) (cycle : Half) (q : QueueName) (f : Frame)
    (sw : FrameSwitch) : FrameSwitch × OfferResult :=
  if !assigned && !ofCentre then (discardFrame cycle .noPath (.queue q) f sw, .discarded)
  else if isolated then (discardFrame cycle .noPath (.queue q) f sw, .discarded)
  else if budgeted q && sw.budget < extent f then
    (discardFrame cycle .noRoom (.queue q) f sw, .discarded)
  else if capacityOf q ≤ (queueFrames sw q).length then
    if ofCentre then (discardFrame cycle .queueFull (.queue q) f sw, .discarded)
    else offerFull cycle q f sw
  else (setQueue q (queueFrames sw q ++ [f]) sw, .queued)

/-! ## Frames of this node -/

/-- The protection state that two healths give (R24). -/
def protectionOf : Health → Health → ProtState
  | .healthy, .healthy => .ring
  | .healthy, .unhealthy => .wrapEast
  | .unhealthy, .healthy => .wrapWest
  | .unhealthy, .unhealthy => .isolated

/-- The node stays ISOLATED (R32): its state is, and its healths still give it. From the cycle in
which a port recovers, which is the cycle in which the node leaves ISOLATED (R24), its frames are
queued again. -/
def isIsolated (s : State) : Bool :=
  s.prot.state == .isolated && protectionOf s.line.w.health s.line.e.health == .isolated

/-- The centre can be reached, as the blocks see it (R22): the node is LINKED, and the relink that
made it so has been handed to them. A detach acts on them from the moment LINKED ends; a relink only
once it is handed, as its cycle ends (log 13). -/
def reachable (s : State) : Bool := s.prot.linked && s.prot.handed

/-- The node's address as the source of its frames; an unassigned node has none, and the octet is a
free value (log 10). -/
def ownSource (s : State) : Octet := s.agent.address.getD (Config.openOctet s.openIndex)

/-- The next two octets the manual leaves open (log 8). -/
def openTag (s : State) : Half := Config.openHalf s.openIndex

/-- The next octet the manual leaves open (log 8). -/
def openChannel (s : State) : Octet := Config.openOctet s.openIndex

/-- The free values used so far are not used again (log 8). -/
def State.spendOpen (s : State) : State := { s with openIndex := s.openIndex + 1 }

/-- A frame of this node, completed: the node's address as source, hop count 250, the payload check
(R52). -/
def completeFrame (s : State) (dest service channel flags : Octet) (tag : Half) (payload : Octets) :
    Frame :=
  { dest, source := ownSource s, service, channel, hop := 250, flags, tag, payload
    check := payloadCheck payload }

/-- A completed frame offered by R52, the first row apart (the frame is not for this node). -/
def offerOwn (q : QueueName) (f : Frame) (s : State) : State × OfferResult :=
  let r := offerFrame s.agent.address.isSome (isIsolated s) false s.timer.number q f s.sw
  ({ s with sw := r.1 }, r.2)

/-- A frame handed to the uplink port, which sends the frames of a cycle in the order in which they
are handed to it (R18), the header check computed (R211). -/
def sendUplink (f : Frame) (s : State) : State :=
  s.modOut fun o => { o with uplink := o.uplink ++ [encodeFrame f] }

/-- A frame for the centre: a slave offers it to the queue; the master sends it out of its uplink
port in the same cycle (R113, R133, R155, R169, R190). -/
def sendToCentre (q : QueueName) (service channel : Octet) (payload : Octets) (s : State) :
    State × OfferResult :=
  let f := completeFrame s 0 service channel (frameFlags false false) (openTag s) payload
  let s := s.spendOpen
  if s.isMaster then (sendUplink f s, .queued) else offerOwn q f s

/-- A frame of the node taken or handed on at once is counted (R44, R52, R54). -/
def countTaken (s : State) : State := s.modSw fun sw => { sw with taken := bump sw.taken }

/-! ## The page store (R186) -/

/-- The octet at an address of the page store: an address not listed holds zero (R195). -/
def storeRead (m : List Host.Cell) (a : Nat) : Octet :=
  match m with
  | [] => 0
  | (k, v) :: rest => if k = a then v else storeRead rest a

/-- The store with one octet written; writing zero removes the cell, so that equal stores are equal
lists. -/
def storeWrite (m : List Host.Cell) (a : Nat) (v : Octet) : List Host.Cell :=
  match m with
  | [] => if v = 0 then [] else [(a, v)]
  | (k, w) :: rest =>
    if a < k then (if v = 0 then (k, w) :: rest else (a, v) :: (k, w) :: rest)
    else if a = k then (if v = 0 then rest else (a, v) :: rest)
    else (k, w) :: storeWrite rest a v

/-- The store with octets written from an address on. -/
def storeWriteAll (m : List Host.Cell) (a : Nat) : Octets → List Host.Cell
  | [] => m
  | v :: rest => storeWriteAll (storeWrite m a v) (a + 1) rest

/-- The `n` octets from an address on. -/
def storeSlice (m : List Host.Cell) (a n : Nat) : Octets :=
  (List.range n).map fun i => storeRead m (a + i)

/-- The canonical form: addresses strictly rising and within the store, no cell that holds zero. -/
def storeWf (m : List Host.Cell) : Bool :=
  decide ((m.map (·.1)).Pairwise (· < ·)) && m.all fun c => decide (c.1 < 32768) && c.2 != 0

end Sys2Proof.Machine
end

