-- ==== Sys2Proof/Machine/SignOps.lean ====
section
/-! DEFINITION. The Sign Controller's operations (10): pages, arbitration and hold, the sign link
sender. They read the Condition Unit's copy and change the Sign Controller alone. -/

namespace Sys2Proof.Machine

/-! ## Pages (R185, R186) -/

/-- The descriptor a page holds; page 0 holds none. -/
def descriptorOf (g : SignController) (p : Fin 64) : Option Descriptor :=
  if h : 1 ≤ p.val then g.pages.get ⟨p.val - 1, by omega⟩ else none

/-- A page 1 to 63 is valid while it holds a descriptor; page 0 always is (R185). -/
def pageValid (g : SignController) (p : Fin 64) : Bool := p == 0 || (descriptorOf g p).isSome

/-- The octets a descriptor lists. -/
def bodyLength (d : Descriptor) : Nat := (d.map (·.length)).sum

/-- A segment within its ranges that ends within the page store (R185). -/
def segmentFits (g : Segment) : Bool :=
  g.block ≤ 511 && 1 ≤ g.length && g.length ≤ 4096 && g.block * 64 + g.length ≤ 32768

/-- A valid descriptor (R185): 1 to 8 segments, the end mark on the last of them and on no other,
every segment within the store, 1 to 4096 octets in all. -/
def descriptorValid (d : Descriptor) : Bool :=
  1 ≤ d.length && d.length ≤ 8 && d.all segmentFits &&
    (d.dropLast.all fun g => g.endMark == 0) && ((d.getLast?.map (·.endMark)) == some 1) &&
    1 ≤ bodyLength d && bodyLength d ≤ 4096

/-- The body of a page: the octets of its segments in the order listed (R185). -/
def pageBody (g : SignController) (p : Fin 64) : Octets :=
  ((descriptorOf g p).getD []).flatMap fun s => storeSlice g.store (s.block * 64) s.length

/-- The page being sent: that of a transfer in SENDING (R188). -/
def pageBeingSent (g : SignController) : Option (Fin 64) :=
  match g.sender.state, g.sender.exchange with
  | .sending, .transfer p _ => some p
  | _, _ => none

/-- A block lies under a segment (R186). -/
def blockUnder (b : Nat) (s : Segment) : Bool :=
  s.block ≤ b && b * 64 < s.block * 64 + s.length

/-- A block lies under a segment of the page being sent (R186). -/
def blockBusy (g : SignController) (b : Nat) : Bool :=
  match pageBeingSent g with
  | none => false
  | some p => ((descriptorOf g p).getD []).any (blockUnder b)

/-! ## Arbitration (R177, R181) -/

/-- The copy of a condition holds a sense: set for SET, clear for CLEAR (R177). -/
def holdsSense (copy : Tab Bool 64) (c : Fin 64) (sense : Bool) : Bool := copy.get c == sense

/-- A rule is active (R177). -/
def ruleActive (copy : Tab Bool 64) (g : SignController) (r : SignRule) : Bool :=
  r.enabled && holdsSense copy r.condA r.senseA &&
    (match r.condB with
     | none => true
     | some c => holdsSense copy c r.senseB) &&
    pageValid g r.page

/-- The candidates in the order in which a tie is settled: the centre request, the rules in
ascending order of index, the test request, the default (R181). -/
def candidates (copy : Tab Bool 64) (g : SignController) : List Selection :=
  (match g.centre with
   | some c => if pageValid g c.page then
       [{ page := c.page, priority := c.priority, source := .centre }] else []
   | none => []) ++
  ((indices 16).filterMap fun k =>
    let r := g.rules.get k
    if ruleActive copy g r then
      some { page := r.page, priority := r.priority, source := .rule k }
    else none) ++
  (match g.test with
   | some t => if pageValid g t.page then [{ page := t.page, priority := 1, source := .test }] else []
   | none => [])

/-- The first of the candidates of highest priority, starting from the one in hand. -/
def best (first : Selection) : List Selection → Selection
  | [] => first
  | c :: rest => if first.priority < c.priority then best c rest else best first rest

/-- The default: page 0 at priority 0 (R181). -/
def defaultSelection : Selection := { page := 0, priority := 0, source := .default }

/-- The winner (R181): the default, at priority 0, wins only when it stands alone, for every other
candidate has priority 1 or more. -/
def winner (copy : Tab Bool 64) (g : SignController) : Selection :=
  best defaultSelection (candidates copy g)

/-! ## The sender (R188, R189) -/

/-- A transfer starts: the command is put on the line after `lead`, OWED and the stale flag are
cleared, the sender enters SENDING (R188). -/
def startTransfer (lead : Octets) (page : Fin 64) (attempt : Nat) (g : SignController) :
    SignController :=
  let cmd := if page = 0 then encodeBlank else encodeShow page attempt (pageBody g page)
  { g with
    stale := false
    transfersStarted := bump g.transfersStarted
    sender := { g.sender with
      state := .sending, exchange := .transfer page attempt, line := lead ++ cmd
      sentCycles := 0, owed := false, answerTimer := none } }

/-- A transfer of the selected page starts, attempt 1. -/
def startSelected (lead : Octets) (g : SignController) : SignController :=
  startTransfer lead g.selection.page 1 g

/-- The selection is owed to the sign: in IDLE its transfer starts at once, else OWED is set (R188).
-/
def oweSelection (g : SignController) : SignController :=
  match g.sender.state with
  | .idle => startSelected [] g
  | _ => { g with sender := { g.sender with owed := true } }

/-- A new selection reaches the sender: in SENDING it aborts the command in progress (R188, R189).
-/
def handToSender (g : SignController) : SignController :=
  match g.sender.state with
  | .sending => startSelected abortMarker { g with transferAborts := bump g.transferAborts }
  | _ => oweSelection g

/-- The sender enters IDLE: no exchange, the poll timer starts from 0 (R192). -/
def enterIdle (g : SignController) : SignController :=
  { g with sender := { g.sender with
      state := .idle, exchange := .none, line := [], sentCycles := 0, answerTimer := none
      pollTimer := 0 } }

/-- A transfer attempt has failed (R191). -/
def endAttempt (page : Fin 64) (attempt : Nat) (g : SignController) : SignController :=
  if g.sender.owed then startSelected [] g
  else if attempt < 3 then startTransfer [] page (attempt + 1) g
  else
    let g := enterIdle g
    { g with
      deliveryFailures := bump g.deliveryFailures
      sender := { g.sender with undelivered := true } }

/-- A valid answer that is no answer to the exchange in progress (R190). -/
def badAnswer (g : SignController) : SignController := { g with badAnswers := bump g.badAnswers }

/-- The cycles a command of `n` octets takes on the line: ⌈n / 16⌉ (R188). -/
def lineCycles (n : Nat) : Nat := (n + 15) / 16

/-! ## Selection and hold (R182, R183) -/

/-- A new selection (R182): with H = 0 the hold timer does not start (R183). -/
def newSelection (w : Selection) (g : SignController) : SignController :=
  handToSender { g with
    selection := w, stale := false, hold := if g.holdSeconds = 0 then none else some 0
    selections := bump g.selections }

/-- A re-evaluation (R182). It ignores the hold when its cause does, and when the selected page has
ceased to be valid. -/
def reevaluate (copy : Tab Bool 64) (ignoreHold : Bool) (g : SignController) : SignController :=
  let w := winner copy g
  if w.page = g.selection.page then { g with selection := w }
  else if ignoreHold || !pageValid g g.selection.page || g.hold.isNone ||
      decide (g.selection.priority < w.priority) then newSelection w g
  else g

/-- An enabled rule names a condition as A or B (R184). -/
def ruleNames (c : Fin 64) (r : SignRule) : Bool :=
  r.enabled && (r.condA == c || r.condB == some c)

/-- A change of a condition handed by the Condition Unit: a re-evaluation that honours the hold when
an enabled rule names it, else nothing (R184). -/
def conditionMoved (copy : Tab Bool 64) (c : Fin 64) (g : SignController) : SignController :=
  if g.rules.data.any (ruleNames c) then reevaluate copy false g else g

/-! ## Requests (R178, R180) -/

/-- The fields of a SHOW are within their ranges (R178). -/
def showLegal (page priority lifetime : Nat) : Bool :=
  page ≤ 63 && 1 ≤ priority && priority ≤ 7 && lifetime ≤ 65535

/-- SIGN_SHOW with legal fields (R178): a re-evaluation with the hold ignored. -/
def centreShow (copy : Tab Bool 64) (page : Fin 64) (priority lifetime : Nat) (g : SignController) :
    SignController :=
  reevaluate copy true { g with centre := some { page, priority, lifetime, elapsed := 0 } }

/-- SIGN_CLEAR (R178): a re-evaluation with the hold ignored. -/
def centreClear (copy : Tab Bool 64) (g : SignController) : SignController :=
  reevaluate copy true { g with centre := none }

end Sys2Proof.Machine
end

