-- ==== Sys2Proof/Machine/Flags.lean ====
section
/-! DEFINITION. The condition flags (09): every change of a flag updates the copy, is judged as an
edge, and is handed to the Sign Controller; events are held pending and reported to the centre. -/

namespace Sys2Proof.Machine

/-! ## Condition numbers (R161) -/

/-- HIGH of channel `c`. -/
def condHigh (c : Fin 16) : Fin 64 := ⟨c.val, by omega⟩
/-- LOW of channel `c`. -/
def condLow (c : Fin 16) : Fin 64 := ⟨16 + c.val, by omega⟩
/-- FAULT of channel `c`. -/
def condFault (c : Fin 16) : Fin 64 := ⟨32 + c.val, by omega⟩
/-- DETACHED. -/
def condDetached : Fin 64 := 48
/-- WRAPPED. -/
def condWrapped : Fin 64 := 49
/-- ISOLATED. -/
def condIsolated : Fin 64 := 50
/-- DUPLICATE_MASTER. -/
def condDuplicate : Fin 64 := 51
/-- OFFHOOK of position `q`. -/
def condOffhook (q : Fin 4) : Fin 64 := ⟨52 + q.val, by omega⟩
/-- JOURNAL_NONEMPTY. -/
def condJournalNonempty : Fin 64 := 56
/-- JOURNAL_FULL. -/
def condJournalFull : Fin 64 := 57
/-- SIGN_FAIL. -/
def condSignFail : Fin 64 := 58
/-- CENTRE_FLAG `k`. -/
def condCentreFlag (k : Fin 5) : Fin 64 := ⟨59 + k.val, by omega⟩

/-! ## Alarm reports (R166, R167, R168) -/

/-- A pending event is reportable: its level is above the mask, or is 7 (R166). -/
def reportable (mask : Nat) (e : PendingEvent) : Bool := decide (mask < e.level) || e.level == 7

/-- The reportable pending events, oldest first. -/
def reportableEvents (s : State) : List PendingEvent := s.cond.events.filter (reportable s.cond.mask)

/-- One alarm report: the 62 oldest reportable events, the channel field telling how many were left
out (R168). Without a reportable event none is made. -/
def offerReport (s : State) : State :=
  let evs := reportableEvents s
  if evs = [] then s
  else
    let r := sendToCentre .alarm svcAlarm (octet (evs.length - 62))
      ((evs.take 62).flatMap encodeEvent) s
    r.1.modCond fun u => { u with alarmReports := bump u.alarmReports }

/-- A trigger of R167: a report is offered while the node is LINKED. -/
def reportTrigger (s : State) : State := if reachable s then offerReport s else s

/-! ## Events (R164) -/

/-- The pending event of a pair (condition, edge). -/
def isPair (c : Fin 64) (rise : Bool) (e : PendingEvent) : Bool :=
  e.condition == c && e.rise == rise

/-- An edge is an event: the level is 1 or more, and a falling edge needs FALL on (R164). -/
def isEvent (t : EventSetting) (rise : Bool) : Bool := decide (1 ≤ t.level) && (rise || t.fall)

/-- A repeat of a pending event: its count adds one and stops at 255 (R164). -/
def repeatEvent (c : Fin 64) (rise : Bool) (e : PendingEvent) : PendingEvent :=
  if isPair c rise e then { e with repeats := min 255 (e.repeats + 1) } else e

/-- The judgement of one edge (R164). -/
def judgeEdge (c : Fin 64) (rise : Bool) (s : State) : State :=
  let t := s.cond.table.get c
  if !isEvent t rise then s
  else if s.cond.events.any (isPair c rise) then
    s.modCond fun u =>
      { u with events := u.events.map (repeatEvent c rise), eventRepeats := bump u.eventRepeats }
  else
    let e : PendingEvent :=
      { condition := c, rise, level := t.level, stamp := s.journal.seconds, repeats := 1 }
    let s := s.modCond fun u =>
      { u with events := u.events ++ [e], eventsMade := bump u.eventsMade }
    if reportable s.cond.mask e then reportTrigger s else s

/-! ## Changes of a flag (R161) -/

/-- An owner's flag stands at `v`: when the copy differs, the change is taken into the copy, judged
as an edge unless the owner is restarting (R175), and handed to the Sign Controller (R161). -/
def changeCondition (judged : Bool) (c : Fin 64) (v : Bool) (s : State) : State :=
  if s.cond.copy.get c = v then s
  else
    let s := s.modCond fun u => { u with copy := u.copy.set c v }
    let s := if judged then judgeEdge c v s else s
    s.modSign (conditionMoved s.cond.copy c)

/-- Several flags handed in order. -/
def changeConditions (judged : Bool) (cs : List (Fin 64 × Bool)) (s : State) : State :=
  cs.foldl (fun s c => changeCondition judged c.1 c.2 s) s

end Sys2Proof.Machine
end

