-- ==== Sys2Proof/Machine/TollOps.lean ====
section
/-! DEFINITION. The operations of the Toll Relay and the Toll Journal (06, 07): local verdicts,
answers for the gantry, the hand-over of a transaction to the journal, settlement, the drain. -/

namespace Sys2Proof.Machine

/-! ## The journal (07) -/

/-- JOURNAL_NONEMPTY and JOURNAL_FULL as the number of records gives them (R130). -/
def journalLevels (s : State) : List (Fin 64 × Bool) :=
  [(condJournalNonempty, decide (s.journal.records ≠ [])),
   (condJournalFull, decide (512 ≤ s.journal.records.length))]

/-- The journal hands its conditions to the Condition Unit as its number of records stands when the
cycle ends: without a net change of the number in the cycle neither moves (R130). A rise that a
RESTART of the cycle made is not judged (R175, log 14). -/
def journalConditions (s : State) : State :=
  (journalLevels s).foldl
    (fun t c => changeCondition (!(c.2 && s.period.raised.contains c.1)) c.1 c.2 t) s

/-- What the records that a RESTART hands over have raised, from the levels `before` them: noted until
the cycle ends (R130, R175, log 14). -/
def journalRaised (before : List (Fin 64 × Bool)) (s : State) : State :=
  s.modPeriod fun x =>
    { x with raised := x.raised ++
        ((journalLevels s).filter fun c => c.2 && decide (c ∉ before)).map (·.1) }

/-- The journal holds a record of a key. -/
def journalRecord (s : State) (k : TollKey) : Option JournalRecord :=
  s.journal.records.find? fun r => r.key == k

/-- A transaction handed over: a new record at the tail, or lost when the journal is full (R128). -/
def journalTake (key : TollKey) (block : Octets) (verdict : Verdict) (s : State) : State :=
  s.modJournal fun j =>
    if 512 ≤ j.records.length then { j with journalLost := bump j.journalLost }
    else
      { j with records := j.records ++
          [{ key, block, verdict, journalledAt := j.seconds, offers := 0, inFlight := none }] }

/-- The record of a key is removed in whatever state it is (R134). -/
def journalRemove (k : TollKey) (s : State) : State :=
  s.modJournal fun j => { j with records := j.records.filter fun r => r.key != k }

/-- UNANSWERED is replaced by the verdict given, once (R129). -/
def giveVerdict (k : TollKey) (v : Verdict) (r : JournalRecord) : JournalRecord :=
  if r.key = k ∧ r.verdict = .unanswered then { r with verdict := v } else r

/-- The Toll Relay asks for a record's verdict to be set (R129). -/
def journalSetVerdict (k : TollKey) (v : Verdict) (s : State) : State :=
  s.modJournal fun j =>
    { j with records := j.records.map (giveVerdict k v), verdictSet := bump j.verdictSet }

/-- A record back in WAITING, in its place, its offers kept (R135, R136, R137). -/
def backToWaiting (r : JournalRecord) : JournalRecord := { r with inFlight := none }

/-- Every IN_FLIGHT record returns to WAITING (R136, R137). -/
def journalAllWaiting (s : State) : State :=
  s.modJournal fun j => { j with records := j.records.map backToWaiting }

/-- The records IN_FLIGHT. -/
def inFlightCount (j : TollJournal) : Nat := (j.records.filter fun r => r.inFlight.isSome).length

/-- The keys a drain offers: the oldest WAITING records, at most D, and no more than keep 8
IN_FLIGHT (R131). -/
def drainKeys (j : TollJournal) : List TollKey :=
  ((j.records.filter fun r => r.inFlight.isNone).take (min j.drain (8 - inFlightCount j))).map (·.key)

/-- A record as it becomes IN_FLIGHT: timer 0, offers add one and stop at 255 (R126, R131). -/
def offered (r : JournalRecord) : JournalRecord :=
  { r with inFlight := some 0, offers := min 255 (r.offers + 1) }

/-- The records with the one of a key become IN_FLIGHT. -/
def markOffered (k : TollKey) (rs : List JournalRecord) : List JournalRecord :=
  rs.map fun r => if r.key = k then offered r else r

/-- The drain offers records one after another; a record whose frame the queue accepts becomes
IN_FLIGHT, and the first refusal ends the drain (R131). On the master no refusal arises (R133). -/
def drainLoop : List TollKey → State → State
  | [], s => s
  | k :: ks, s =>
    match journalRecord s k with
    | none => drainLoop ks s
    | some r =>
      let o := sendToCentre .tollDeferred svcToll 3 (encodeDeferred (offered r)) s
      match o.2 with
      | .returned => o.1.modJournal fun j => { j with drainRefused := bump j.drainRefused }
      | .queued =>
        drainLoop ks (o.1.modJournal fun j =>
          { j with records := markOffered k j.records, deferredSent := bump j.deferredSent })
      | .discarded => drainLoop ks o.1

/-! ## Answers for the gantry (R107, R116) -/

/-- A local verdict from tag and class as the tables stand (R116). A class outside 1 to 7 reaches no
local verdict (R108). -/
def localVerdict (t : TollRelay) (block : Octets) : Verdict :=
  if blockTag block ∈ t.deny then .declinedLocal
  else if h : 1 ≤ blockClass block ∧ blockClass block ≤ 7 then
    (if t.classes.get ⟨blockClass block - 1, by omega⟩ then .declinedLocal else .provisional)
  else .provisional

/-- An answer joins the tail of the answer list, or is dropped when the list holds 32 (R107). -/
def answerGantry (a : TollAnswer) (s : State) : State :=
  s.modToll fun t =>
    if 32 ≤ t.answers.length then { t with answersDropped := bump t.answersDropped }
    else { t with answers := t.answers ++ [a] }

/-- A LOCAL answer has a zero balance (R107). -/
def localAnswer (k : TollKey) (v : Verdict) : TollAnswer :=
  { key := k, verdict := v, fromCentre := false, balance := 0 }

/-- A transaction is answered locally and handed to the journal (R110, R114, R122). -/
def answerLocally (key : TollKey) (block : Octets) (s : State) : State :=
  let v := localVerdict s.toll block
  let s := answerGantry (localAnswer key v) s
  let s := s.modToll fun t => { t with localAnswers := bump t.localAnswers }
  journalTake key block v s

/-- The pending entry of a key. -/
def pendingOf (s : State) (k : TollKey) : Option PendingToll :=
  s.toll.pendingTable.find? fun p => p.key == k

/-- The pending entry of a key leaves the table. -/
def dropPending (k : TollKey) (s : State) : State :=
  s.modToll fun t => { t with pendingTable := t.pendingTable.filter fun p => p.key != k }

/-- A pending entry ends locally: it is removed, answered and handed to the journal (R112, R114). -/
def endPending (p : PendingToll) (s : State) : State :=
  answerLocally p.key p.block (dropPending p.key s)

/-! ## Detach and RESTART (R122, R123, R136, R137) -/

/-- The Toll Relay's part of a detach: every pending transaction is answered locally, oldest first
(R122). -/
def tollDetach (s : State) : State :=
  s.toll.pendingTable.foldl (fun s p =>
    (endPending p s).modToll fun t => { t with detachAnswers := bump t.detachAnswers }) s

/-- The Toll Relay's part of a RESTART: every pending transaction is handed over UNANSWERED (R123).
-/
def tollRestart (s : State) : State :=
  s.toll.pendingTable.foldl (fun s p =>
    let s := (dropPending p.key s).modToll fun t => { t with restartMoved := bump t.restartMoved }
    journalTake p.key p.block .unanswered s) s

/-! ## Blocks from the gantry (R108 to R113) -/

/-- A LANE_REPORT block is forwarded while LINKED, else dropped (R111). One that a full queue refuses
counts in REPORTS_DROPPED alone, which is the model's choice (log 43). -/
def laneReport (block : Octets) (s : State) : State :=
  if reachable s then
    let o := sendToCentre .tollLive svcToll 2 block s
    if o.2 = .returned then
      o.1.modToll fun t => { t with reportsDropped := bump t.reportsDropped }
    else o.1.modToll fun t => { t with reportsForwarded := bump t.reportsForwarded }
  else s.modToll fun t => { t with reportsDropped := bump t.reportsDropped }

/-- A new transaction takes the local path or the live path (R110, R113). -/
def newTransaction (block : Octets) (s : State) : State :=
  let key := blockKey block
  if 16 ≤ s.toll.pendingTable.length then
    answerLocally key block (s.modToll fun t => { t with pendingFull := bump t.pendingFull })
  else if !reachable s then answerLocally key block s
  else
    let p : PendingToll := { key, block, arrival := s.timer.number, timer := 0 }
    let s := s.modToll fun t =>
      { t with pendingTable := t.pendingTable ++ [p], forwarded := bump t.forwarded }
    let o := sendToCentre .tollLive svcToll 1 block s
    if o.2 = .returned then
      endPending p (o.1.modToll fun t => { t with liveRefused := bump t.liveRefused })
    else o.1

/-- A duplicate of a journalled key is answered at once, with the record's verdict or, for an
UNANSWERED record, with a local verdict made from the block the record holds (R109, R129). -/
def answerJournalled (r : JournalRecord) (s : State) : State :=
  if r.verdict = .unanswered then
    let v := localVerdict s.toll r.block
    journalSetVerdict r.key v (answerGantry (localAnswer r.key v) s)
  else answerGantry (localAnswer r.key r.verdict) s

/-- A well-formed CHARGE block is judged by the first matching row (R108). -/
def judgeCharge (block : Octets) (s : State) : State :=
  let key := blockKey block
  let s := s.modToll fun t => { t with receivedCharge := bump t.receivedCharge }
  if key.lane = 0 ∨ 8 < key.lane.toNat ∨ blockClass block = 0 ∨ 7 < blockClass block then
    answerGantry (localAnswer key .rejected)
      (s.modToll fun t => { t with rejected := bump t.rejected })
  else if (pendingOf s key).isSome then
    s.modToll fun t => { t with duplicates := bump t.duplicates }
  else
    match journalRecord s key with
    | some r =>
      answerJournalled r (s.modToll fun t => { t with duplicates := bump t.duplicates })
    | none => newTransaction block s

/-- A closed run is judged as one candidate block (R105, R106). -/
def judgeRun (run : Octets) (total : Nat) (s : State) : State :=
  if octetAt run 0 ≠ 0x7E ∨ total ≠ 40 then
    s.modToll fun t => { t with blockLength := bump t.blockLength }
  else if checkHolds run = false then
    s.modToll fun t => { t with blockCheck := bump t.blockCheck }
  else if octetAt run 1 = 1 then judgeCharge run s
  else if octetAt run 1 = 2 then laneReport run s
  else s.modToll fun t => { t with blockKind := bump t.blockKind }

/-! ## Frames from the centre (R119, R120, R134) -/

/-- A TOLL frame the Toll Relay ignores (R119). -/
def ignoreToll (s : State) : State := s.modToll fun t => { t with tollIgnored := bump t.tollIgnored }

/-- The verdict a TOLL_ANSWER may carry (R119). -/
def centreVerdict (v : Octet) : Option Verdict :=
  if v = 1 then some .accepted else if v = 2 then some .declined
  else if v = 3 then some .unknownTag else none

/-- A TOLL_ANSWER with a legal verdict is matched (R120). -/
def matchAnswer (k : TollKey) (v : Verdict) (balance : Quad) (s : State) : State :=
  if (pendingOf s k).isSome then
    let s := answerGantry { key := k, verdict := v, fromCentre := true, balance } (dropPending k s)
    s.modToll fun t => { t with answeredByCentre := bump t.answeredByCentre }
  else if (journalRecord s k).isSome then
    (journalRemove k s).modToll fun t => { t with lateSettled := bump t.lateSettled }
  else s.modToll fun t => { t with unmatched := bump t.unmatched }

/-- SETTLED from the centre (R134). -/
def settleRecord (k : TollKey) (s : State) : State :=
  if (journalRecord s k).isSome then
    (journalRemove k s).modJournal fun j => { j with settledFromJournal := bump j.settledFromJournal }
  else s.modJournal fun j => { j with settledUnmatched := bump j.settledUnmatched }

/-- A TOLL_ANSWER taken by the Toll Relay (R119): a broadcast copy and an illegal verdict are
ignored. -/
def takeTollAnswer (via : Via) (k : TollKey) (verdict : Octet) (balance : Quad) (s : State) : State :=
  match via, centreVerdict verdict with
  | .taken, some v => matchAnswer k v balance s
  | _, _ => ignoreToll s

/-- A SETTLED taken by the Toll Relay (R119). -/
def takeSettled (via : Via) (k : TollKey) (s : State) : State :=
  match via with
  | .taken => settleRecord k s
  | .copy => ignoreToll s

/-- What a TOLL frame asks of the Toll Relay (R113, R119, R213). -/
inductive TollRequest where
  | answer (key : TollKey) (verdict : Verdict) (balance : Quad)
  | settled (key : TollKey)
  deriving DecidableEq, Repr

/-- The request a TOLL frame carries: `none` for a frame the Toll Relay ignores (R119). -/
def decodeToll (via : Via) (channel : Octet) (p : Octets) : Option TollRequest :=
  match via with
  | .copy => none
  | .taken =>
    let key : TollKey := { lane := octetAt p 0, txn := quadAt p 1 }
    if channel = 4 ∧ p.length = 10 then
      (centreVerdict (octetAt p 5)).map fun v => .answer key v (quadAt p 6)
    else if channel = 5 ∧ p.length = 5 then some (.settled key)
    else none

/-- A TOLL frame handed to the Toll Relay (R44, R46, R119). -/
def takeTollFrame (via : Via) (channel : Octet) (p : Octets) (s : State) : State :=
  match decodeToll via channel p with
  | some (.answer k v b) => matchAnswer k v b s
  | some (.settled k) => settleRecord k s
  | none => ignoreToll s

end Sys2Proof.Machine
end

