-- ==== Sys2Proof/Machine/PhoneOps.lean ====
section
/-! DEFINITION. The Phone Interface's operations (04, and 05 section 5.1): call states, call
signalling, plan banks. Where the node is the master, what a position sends to address 1 goes
straight to the Slot Allocator (R52): `hand` is that hand-over. -/

namespace Sys2Proof.Machine

/-- The two ends of call signalling inside a master (R52, R79). -/
inductive Target where
  | phone | alloc
  deriving DecidableEq, Repr

/-- A hand-over of a message inside the node, at once (R52). -/
abbrev Hand := Target → VsigMsg → State → State

/-- A VSIG message offered to the VSIG queue, channel 0, or handed at once when its destination is
this node (R52, R72, R91). -/
def sendVsig (hand : Hand) (target : Target) (dest : Octet) (m : VsigMsg) (s : State) : State :=
  if s.agent.address = some dest then hand target m (countTaken s)
  else
    (offerOwn .vsig
      (completeFrame s dest svcVsig 0 (frameFlags false false) (openTag s) (encodeVsig m))
      s.spendOpen).1

/-! ## Positions -/

/-- A phone position. -/
def posAt (s : State) (q : Fin 4) : Position := s.phone.positions.get q

/-- A change of one position. -/
def modPos (q : Fin 4) (f : Position → Position) (s : State) : State :=
  s.modPhone fun p => { p with positions := p.positions.modify q f }

/-- The call reference of a position: the node's address and the position number (R72). -/
def ownRef (s : State) (q : Fin 4) : CallRef := { node := ownSource s, position := octet q.val }

/-- The entry of the active bank for a position (R85). -/
def bankEntry (s : State) (q : Fin 4) : Option SlotPair := s.phone.active.entries.get q

/-- A position holds its slots while the active bank has both for it (R70). -/
def holdsSlots (s : State) (q : Fin 4) : Bool := (bankEntry s q).isSome

/-- The tone codes (R64). -/
inductive Tone where
  | none | hold | ended | ring
  deriving DecidableEq, Repr

/-- The tone code a call state gives (R67). -/
def toneOf : CallState → Tone
  | .waiting => .hold
  | .held => .hold
  | .ringing => .ring
  | .dropped => .ended
  | _ => .none

/-- A position on entering IDLE: flags cleared, timers stopped, no queue place (R69). -/
def idlePosition (p : Position) : Position :=
  { p with call := .idle, priority := false, resume := false, answer := false
           resend := none, ring := none, place := none }

/-- A position on entering TALKING (R70). -/
def talkingPosition (p : Position) : Position :=
  { p with call := .talking, resend := none, resume := false, answer := false, place := none }

/-- A position on entering HELD: its call flags are kept (R68, R80). -/
def heldPosition (p : Position) : Position :=
  { p with call := .held, resend := none, ring := none, place := none }

/-- A CALL_REQUEST is offered with the flags as they stand, and the resend timer starts from 0
(R72). -/
def offerRequest (hand : Hand) (q : Fin 4) (s : State) : State :=
  let s := modPos q (fun p => { p with resend := some 0 }) s
  let s := s.modPhone fun p => { p with requestsSent := bump p.requestsSent }
  let p := posAt s q
  sendVsig hand .alloc 1 (.callRequest (ownRef s q) p.priority p.resume p.answer) s

/-- A CALL_RELEASE is offered and counted (R73, R84). -/
def offerRelease (hand : Hand) (q : Fin 4) (s : State) : State :=
  let s := s.modPhone fun p => { p with releasesSent := bump p.releasesSent }
  sendVsig hand .alloc 1 (.callRelease (ownRef s q)) s

/-- REQUESTING or WAITING goes to TALKING when the active bank holds the position's slots (R70). -/
def talkIfHeld (q : Fin 4) (s : State) : State :=
  let c := (posAt s q).call
  if (c = .requesting ∨ c = .waiting) ∧ holdsSlots s q = true then modPos q talkingPosition s else s

/-- Entry into REQUESTING, from any state: the request is offered at once; a bank that already holds
the slots takes the position on to TALKING (R68, R72). -/
def enterRequesting (hand : Hand) (q : Fin 4) (s : State) : State :=
  talkIfHeld q (offerRequest hand q (modPos q (fun p => { p with call := .requesting }) s))

/-- An off-hook taken in IDLE (R68). -/
def offHookIdle (hand : Hand) (q : Fin 4) (s : State) : State :=
  if reachable s then enterRequesting hand q s else modPos q heldPosition s

/-- An off-hook taken by the call state (R68). -/
def takeOffHook (hand : Hand) (q : Fin 4) (s : State) : State :=
  match (posAt s q).call with
  | .idle => offHookIdle hand q s
  | .ringing =>
    let s := modPos q (fun p => { p with answer := true, ring := none }) s
    let s := s.modPhone fun p => { p with callsAnswered := bump p.callsAnswered }
    if reachable s then enterRequesting hand q s else modPos q heldPosition s
  | _ => s

/-- CLEARING ends: IDLE, and with the handset lifted again a new call (R73). -/
def endClearing (hand : Hand) (q : Fin 4) (s : State) : State :=
  let s := modPos q idlePosition s
  if (posAt s q).debounced = .off then offHookIdle hand q s else s

/-- Entry into CLEARING: the release is offered, the resend timer starts from 0; with no slot in the
active bank CLEARING ends at once (R73). -/
def enterClearing (hand : Hand) (q : Fin 4) (s : State) : State :=
  let s := offerRelease hand q (modPos q (fun p => { p with call := .clearing, resend := some 0 }) s)
  if (posAt s q).call = .clearing ∧ holdsSlots s q = false then endClearing hand q s else s

/-- An on-hook taken by the call state (R69). -/
def takeOnHook (hand : Hand) (q : Fin 4) (s : State) : State :=
  match (posAt s q).call with
  | .requesting => enterClearing hand q s
  | .waiting => enterClearing hand q s
  | .talking => enterClearing hand q s
  | .held => modPos q idlePosition s
  | .dropped => modPos q idlePosition s
  | _ => s

/-- A priority press taken by the call state (R66). -/
def takePress (hand : Hand) (q : Fin 4) (s : State) : State :=
  let p := posAt s q
  let latch := fun (s : State) =>
    (modPos q (fun p => { p with priority := true }) s).modPhone fun p =>
      { p with priorityPresses := bump p.priorityPresses }
  if p.priority then s
  else match p.call with
  | .requesting => offerRequest hand q (latch s)
  | .waiting => offerRequest hand q (latch s)
  | .held => latch s
  | .talking => latch s
  | _ => s

/-! ## Plan banks (R85 to R88) -/

/-- A change of the active bank by a switch, as one position takes it (R70). -/
def examinePosition (hand : Hand) (q : Fin 4) (s : State) : State :=
  let p := posAt s q
  match p.call with
  | .requesting => talkIfHeld q s
  | .waiting => talkIfHeld q s
  | .talking =>
    if holdsSlots s q = false ∧ p.debounced = .off then
      (modPos q (fun p => { p with call := .dropped }) s).modPhone fun p =>
        { p with callsDropped := bump p.callsDropped }
    else s
  | .clearing => if holdsSlots s q = false then endClearing hand q s else s
  | _ => s

/-- The switch cycle of a pending standby bank is no longer ahead of the number (R87). -/
def switchDue (s : State) : Bool :=
  match s.phone.pendingAt with
  | none => false
  | some c => !ahead c s.timer.number

/-- The switch of banks: the standby becomes active, the old active bank an EMPTY standby, and every
position takes the change, in ascending order (R87, R70; the order among the positions is the
model's, log 13). -/
def switchBanks (hand : Hand) (s : State) : State :=
  let s := s.modPhone fun p =>
    { p with active := p.standby, standby := Bank.empty, activeIsB := !p.activeIsB
             pendingAt := none, planSwitches := bump p.planSwitches }
  (indices 4).foldl (fun s q => examinePosition hand q s) s

/-- The switch, when it is due (R87). -/
def switchIfDue (hand : Hand) (s : State) : State :=
  if switchDue s then switchBanks hand s else s

/-- Both banks are cleared (R88): the active bank keeps its version. -/
def clearBanks (s : State) : State :=
  s.modPhone fun p =>
    { p with active := { p.active with entries := .fill 4 none }, standby := Bank.empty
             pendingAt := none, cleared := true }

/-- PLAN_ACCEPT or PLAN_LATE carries the node's address and the version answered (R86). -/
def answerPlan (hand : Hand) (late : Bool) (v : Octet) (s : State) : State :=
  sendVsig hand .alloc 1 (if late then .planLate (ownSource s) v else .planAccept (ownSource s) v) s

/-- A VSIG frame the Phone Interface ignores (R76). -/
def ignoreVsig (s : State) : State := s.modPhone fun p => { p with vsigIgnored := bump p.vsigIgnored }

/-- A version may be loaded: it is newer than the active version or the banks have been cleared, and
it is newer than a pending one (R86). -/
def loadable (p : PhoneInterface) (v : Octet) : Bool :=
  (newer v p.active.version || p.cleared) && (p.pendingAt.isNone || newer v p.standby.version)

/-- A version is the active one, or the pending one (R86). -/
def knownVersion (p : PhoneInterface) (v : Octet) : Bool :=
  v == p.active.version || (p.pendingAt.isSome && v == p.standby.version)

/-- A PLAN_UPDATE is judged by the first matching row (R86). -/
def takePlanUpdate (hand : Hand) (via : Via) (source v : Octet) (c : Half) (slots : Octets)
    (s : State) : State :=
  if via = .copy ∨ source ≠ 1 then ignoreVsig s
  else if reachable s = false then
    s.modPhone fun p => { p with plansIgnored := bump p.plansIgnored }
  else match wellFormedEntries slots with
  | none => ignoreVsig s
  | some es =>
    if knownVersion s.phone v then
      answerPlan hand false v (s.modPhone fun p => { p with plansAccepted := bump p.plansAccepted })
    else if loadable s.phone v then
      if ahead c s.timer.number then
        answerPlan hand false v (s.modPhone fun p =>
          { p with standby := { version := v, entries := es }, pendingAt := some c
                   cleared := false, plansAccepted := bump p.plansAccepted })
      else
        answerPlan hand true v (s.modPhone fun p => { p with plansLate := bump p.plansLate })
    else s.modPhone fun p => { p with plansStale := bump p.plansStale }

/-- CALL_QUEUED as the position it names takes it (R71); place 0 in WAITING is an entry into
REQUESTING, at which a request is offered (R72). -/
def queuedAt (hand : Hand) (q : Fin 4) (place : Nat) (s : State) : State :=
  match (posAt s q).call, decide (place = 0) with
  | .requesting, false =>
    modPos q (fun p => { p with call := .waiting, place := some place, resend := some 0 }) s
  | .requesting, true => modPos q (fun p => { p with place := some 0 }) s
  | .waiting, false => modPos q (fun p => { p with place := some place }) s
  | .waiting, true => enterRequesting hand q (modPos q (fun p => { p with place := some 0 }) s)
  | _, _ => ignoreVsig s

/-- A position number of 0 to 3. -/
def positionOf (n : Nat) : Option (Fin 4) := if h : n < 4 then some ⟨n, h⟩ else none

/-- A CALL_QUEUED frame (R71): it names this node and a position 0 to 3, and a place of 0 to 32
(R213), or it is ignored. -/
def takeCallQueued (hand : Hand) (ref : CallRef) (place : Nat) (s : State) : State :=
  match positionOf ref.position.toNat with
  | none => ignoreVsig s
  | some q =>
    if s.agent.address = some ref.node ∧ place ≤ 32 then queuedAt hand q place s else ignoreVsig s

/-- The Phone Interface can use a message: CALL_QUEUED or PLAN_UPDATE (R76). -/
def phoneCanUse : VsigMsg → Bool
  | .callQueued _ _ => true
  | .planUpdate _ _ _ => true
  | _ => false

/-- A VSIG message handed to the Phone Interface (R76). A CALL_QUEUED is acted on whatever its source and
whether taken or copied: R71 speaks of the master's alone, and it is the model's choice (log 44). -/
def phoneTake (hand : Hand) (via : Via) (source : Octet) (m : VsigMsg) (s : State) : State :=
  match m with
  | .callQueued ref place => takeCallQueued hand ref place s
  | .planUpdate v c slots => takePlanUpdate hand via source v c slots s
  | _ => ignoreVsig s

/-! ## Detach, relink, RESTART (R80, R81, R84) -/

/-- A detach as one position takes it (R80). -/
def detachPosition (hand : Hand) (q : Fin 4) (s : State) : State :=
  match (posAt s q).call with
  | .requesting => modPos q heldPosition s
  | .waiting => modPos q heldPosition s
  | .talking => modPos q heldPosition s
  | .clearing => endClearing hand q s
  | _ => s

/-- The Phone Interface's part of a detach (R80). -/
def phoneDetach (hand : Hand) (s : State) : State :=
  (indices 4).foldl (fun s q => detachPosition hand q s) (clearBanks s)

/-- A relink as one position takes it (R81). -/
def relinkPosition (hand : Hand) (q : Fin 4) (s : State) : State :=
  if (posAt s q).call = .held then
    enterRequesting hand q (modPos q (fun p => { p with resume := true }) s)
  else s

/-- The Phone Interface's part of a relink, the positions in ascending order (R81; the order is the
model's, log 13). -/
def phoneRelink (hand : Hand) (s : State) : State :=
  (indices 4).foldl (fun s q => relinkPosition hand q s) s

/-- Step 1 of a RESTART at one position (R84). -/
def releaseIfBusy (hand : Hand) (q : Fin 4) (s : State) : State :=
  if (posAt s q).call = .idle then s else offerRelease hand q s

/-- Step 4 of a RESTART at one position (R84). -/
def offHookIfLifted (hand : Hand) (q : Fin 4) (s : State) : State :=
  if (posAt s q).debounced = .off then offHookIdle hand q s else s

/-- The Phone Interface's part of a RESTART, its four steps in order (R84); the order among the
positions in step 4 is the model's, ascending (log 13). -/
def phoneRestart (hand : Hand) (s : State) : State :=
  let s := (indices 4).foldl (fun s q => releaseIfBusy hand q s) s
  let s := clearBanks s
  let s := s.modPhone fun p => { p with positions := p.positions.map idlePosition }
  (indices 4).foldl (fun s q => offHookIfLifted hand q s) s

end Sys2Proof.Machine
end

