-- ==== Sys2Proof/Machine/AllocOps.lean ====
section
/-! DEFINITION. The Slot Allocator's operations (05 sections 5.2 to 5.6): plans, grants, releases,
answers, absence, supervision; and the hand-over between the two ends of call signalling inside a
master (R52). -/

namespace Sys2Proof.Machine

/-! ## Nodes and entries -/

/-- The plan record number of a node address 1 to 240 (R91). -/
def nodeOf (o : Octet) : Option (Fin 240) :=
  if h : 1 ≤ o.toNat ∧ o.toNat ≤ 240 then some ⟨o.toNat - 1, by omega⟩ else none

/-- The address of a node of the plan records. -/
def nodeAddr (n : Fin 240) : Octet := octet (n.val + 1)

/-- The slot is HELD (R89). -/
def isHeld (x : SlotState) : Bool :=
  match x with
  | .free => false
  | .held _ _ => true

/-- One more than the highest HELD slot, or 0: the U of the next header (R89). -/
def currentU (a : SlotAllocator) : Nat :=
  ((indices 48).map fun k => if isHeld (a.slots.get k) then k.val + 1 else 0).foldl max 0

/-- The entry is that of a position. -/
def isCall (n : Fin 240) (q : Fin 4) (e : CallEntry) : Bool := e.node == n && e.position == q

/-- The call table entry of a position (R90). -/
def callOf (a : SlotAllocator) (n : Fin 240) (q : Fin 4) : Option CallEntry :=
  a.calls.find? (isCall n q)

/-- PLANNING or IN_FORCE. -/
def isLive (e : CallEntry) : Bool := e.phase != .releasing

/-- The call table with the entry of one position changed. -/
def modCall (n : Fin 240) (q : Fin 4) (f : CallEntry → CallEntry) (s : State) : State :=
  s.modAlloc fun a => { a with calls := a.calls.map fun e => if isCall n q e then f e else e }

/-- The call table with an entry put in its place by node and position (R103). -/
def insertCall (e : CallEntry) : List CallEntry → List CallEntry
  | [] => [e]
  | c :: rest =>
    if e.node < c.node ∨ (e.node = c.node ∧ e.position < c.position) then e :: c :: rest
    else c :: insertCall e rest

/-- A plan record changed. -/
def modPlan (n : Fin 240) (f : PlanRecord → PlanRecord) (s : State) : State :=
  s.modAlloc fun a => { a with plans := a.plans.modify n f }

/-- The request is that of a position. -/
def isRequest (n : Fin 240) (q : Fin 4) (w : WaitingEntry) : Bool := w.node == n && w.position == q

/-- A request goes before another: PRIORITY first, then the earlier insertion (R90). -/
def goesBefore (x y : WaitingEntry) : Bool :=
  (x.priority && !y.priority) || (x.priority == y.priority && decide (x.arrival < y.arrival))

/-- The waiting queue with a request put in its place (R90). -/
def insertWaiting (x : WaitingEntry) : List WaitingEntry → List WaitingEntry
  | [] => [x]
  | y :: rest => if goesBefore x y then x :: y :: rest else y :: insertWaiting x rest

/-- The place of a position's request, counted from 1 at the head (R90). -/
def placeOf (ws : List WaitingEntry) (n : Fin 240) (q : Fin 4) : Nat :=
  ws.findIdx (isRequest n q) + 1

/-! ## Plans (R91) -/

/-- The version after a version: 255 is followed by 1 (R91). -/
def nextVersion (v : Octet) : Octet := if v = 255 then 1 else v + 1

/-- The entry a plan gives a position: the slots of its PLANNING or IN_FORCE call (R91). -/
def planEntry (a : SlotAllocator) (n : Fin 240) (q : Fin 4) : Option SlotPair :=
  ((callOf a n q).filter isLive).map (·.slots)

/-- The entries of a node's calls as they stand (R91). -/
def currentEntries (a : SlotAllocator) (n : Fin 240) : PlanEntries :=
  ⟨(indices 4).map (planEntry a n), by simp [indices]⟩

/-- A plan is issued: the next version, the switch cycle 32 ahead, in flight, offered as a
PLAN_UPDATE (R91). -/
def issuePlan (hand : Hand) (n : Fin 240) (sends : Nat) (entries : PlanEntries) (s : State) : State :=
  let v := nextVersion (s.alloc.plans.get n).lastIssued
  let c := s.timer.number + 32
  let s := modPlan n (fun r =>
    { r with lastIssued := v
             inFlight := some { plan := { version := v, switchCycle := c, entries }, sends
                                seen := false } }) s
  let s := s.modAlloc fun a => { a with plansIssued := bump a.plansIssued }
  sendVsig hand .phone (nodeAddr n) (.planUpdate v c (encodeEntries entries)) s

/-- A plan with the node's calls as they stand, sent once (R91). -/
def planCalls (hand : Hand) (n : Fin 240) (s : State) : State :=
  issuePlan hand n 1 (currentEntries s.alloc n) s

/-- CALL_QUEUED with a place is offered to a node (R93). -/
def sendQueued (hand : Hand) (n : Fin 240) (q : Fin 4) (place : Nat) (s : State) : State :=
  sendVsig hand .phone (nodeAddr n)
    (.callQueued { node := nodeAddr n, position := octet q.val } place) s

/-! ## Grants (R94) -/

/-- The FREE slots below S, lowest first (R94). -/
def freeSlots (a : SlotAllocator) : List (Fin 48) :=
  (indices 48).filter fun k => decide (k.val < a.capacity) && !isHeld (a.slots.get k)

/-- Two FREE slots lie below S and the call table has room (R93, R94). -/
def canGrant (a : SlotAllocator) : Bool :=
  2 ≤ (freeSlots a).length && a.calls.length < 24

/-- A grant (R94): the two lowest FREE slots, the lower the up slot. -/
def grant (hand : Hand) (n : Fin 240) (q : Fin 4) (priority : Bool) (s : State) : State :=
  match freeSlots s.alloc with
  | up :: down :: _ =>
    let s := s.modAlloc fun a =>
      { a with
        slots := (a.slots.set up (.held n false)).set down (.held n false)
        calls := insertCall
          { node := n, position := q, slots := { up, down }, priority, phase := .planning, age := 0 }
          a.calls
        grants := bump a.grants }
    planCalls hand n s
  | _ => s

/-- The grants from the queue (R94): head after head while a grant can be made. The first argument
bounds the grants; the length of the queue is enough. -/
def grantQueue (hand : Hand) : Nat → State → State
  | 0, s => s
  | k + 1, s =>
    match s.alloc.waiting with
    | [] => s
    | w :: rest =>
      if canGrant s.alloc then
        let s := s.modAlloc fun a =>
          { a with waiting := rest, grantsFromQueue := bump a.grantsFromQueue }
        grantQueue hand k (grant hand w.node w.position w.priority s)
      else s

/-- The grants from the queue that follow a change (R94). -/
def grantFromQueue (hand : Hand) (s : State) : State := grantQueue hand s.alloc.waiting.length s

/-- A slot has become FREE or a call entry was deleted: the queue is granted from (R94). -/
def grantAfter (hand : Hand) (before after : State) : State :=
  if after.alloc.slots = before.alloc.slots ∧ after.alloc.calls.length = before.alloc.calls.length
  then after
  else grantFromQueue hand after

/-! ## Requests and releases (R93, R95) -/

/-- A CALL_REQUEST for a call that is live or RELEASING: it is live with age 0, takes PRIORITY if
the request carries it (R93). -/
def renewCall (priority : Bool) (e : CallEntry) : CallEntry :=
  { e with
    priority := e.priority || priority
    phase := match e.phase with
      | .releasing => .planning
      | p => p
    age := 0 }

/-- A repeat of a queued request: it may become PRIORITY and move to its new place, keeping its
insertion (R93). -/
def raiseWaiting (n : Fin 240) (q : Fin 4) (priority : Bool) (ws : List WaitingEntry) :
    List WaitingEntry :=
  match ws.find? (isRequest n q) with
  | none => ws
  | some w =>
    if priority && !w.priority then
      insertWaiting { w with priority := true } (ws.filter fun x => !isRequest n q x)
    else ws

/-- A CALL_REQUEST is taken by the first matching row (R93). -/
def takeCallRequest (hand : Hand) (n : Fin 240) (q : Fin 4) (priority : Bool) (s : State) : State :=
  if (callOf s.alloc n q).isSome then planCalls hand n (modCall n q (renewCall priority) s)
  else if s.alloc.waiting.any (isRequest n q) then
    let s := s.modAlloc fun a => { a with waiting := raiseWaiting n q priority a.waiting }
    sendQueued hand n q (placeOf s.alloc.waiting n q) s
  else if canGrant s.alloc then grant hand n q priority s
  else if s.alloc.waiting.length < 32 then
    let s := s.modAlloc fun a =>
      { a with
        waiting := insertWaiting { node := n, position := q, priority, arrival := a.nextArrival }
          a.waiting
        nextArrival := a.nextArrival + 1 }
    sendQueued hand n q (placeOf s.alloc.waiting n q) s
  else
    sendQueued hand n q 0 (s.modAlloc fun a => { a with queueRefusals := bump a.queueRefusals })

/-- A CALL_RELEASE (R95). -/
def takeCallRelease (hand : Hand) (n : Fin 240) (q : Fin 4) (s : State) : State :=
  if (callOf s.alloc n q).isSome then
    planCalls hand n (modCall n q (fun e => { e with phase := .releasing }) s)
  else
    s.modAlloc fun a => { a with waiting := a.waiting.filter fun w => !isRequest n q w }

/-! ## Answers, freeing, absence (R96 to R99) -/

/-- The accepted plan has come round, or would at once: its switch cycle has been seen, or 1000
cycles have passed since (R97). -/
def roundDone (number : Half) (p : Plan) (seen : Bool) : Bool :=
  seen || decide (1000 ≤ cyclesPast p.switchCycle number)

/-- Entries name a slot. -/
def entriesHold (es : PlanEntries) (k : Fin 48) : Bool := decide (k ∈ slotsNamed es.data)

/-- A slot of a node that nothing holds any longer (R97). -/
def slotFreed (a : SlotAllocator) (n : Fin 240) (k : Fin 48) : Bool :=
  let r := a.plans.get n
  a.slots.get k == .held n false &&
  !entriesHold r.accepted.entries k &&
  !(match r.inFlight with
    | none => false
    | some f => entriesHold f.plan.entries k) &&
  !a.calls.any fun e => e.node == n && (e.slots.up == k || e.slots.down == k)

/-- The slots of a node that nothing holds become FREE (R97). -/
def freeNodeSlots (n : Fin 240) (s : State) : State :=
  s.modAlloc fun a =>
    { a with slots := ⟨(indices 48).map fun k =>
        if slotFreed a n k then .free else a.slots.get k, by simp [indices]⟩ }

/-- A call entry as an accepted plan leaves it (R96). -/
def settleCall (n : Fin 240) (es : PlanEntries) (e : CallEntry) : CallEntry :=
  if e.node = n ∧ e.phase = .planning ∧ es.get e.position = some e.slots then
    { e with phase := .inForce }
  else e

/-- A RELEASING entry absent from the accepted plan (R96). -/
def callEnded (n : Fin 240) (es : PlanEntries) (e : CallEntry) : Bool :=
  e.node == n && e.phase == .releasing && es.get e.position != some e.slots

/-- An answer to a plan that is no longer in flight (R96, R98). -/
def staleAnswer (s : State) : State :=
  s.modAlloc fun a => { a with staleAnswers := bump a.staleAnswers }

/-- The in-flight plan of a node is accepted (R96). -/
def acceptPlan (hand : Hand) (n : Fin 240) (f : InFlight) (s : State) : State :=
  let done := roundDone s.timer.number f.plan f.seen
  let after := modPlan n (fun r =>
    { r with accepted := f.plan, acceptedSeen := f.seen, comeRound := done, inFlight := none }) s
  let after := after.modAlloc fun a =>
    { a with calls := (a.calls.map (settleCall n f.plan.entries)).filter fun e =>
        !callEnded n f.plan.entries e }
  grantAfter hand s (if done then freeNodeSlots n after else after)

/-- A PLAN_ACCEPT (R96). -/
def takePlanAccept (hand : Hand) (n : Fin 240) (v : Octet) (s : State) : State :=
  let r := s.alloc.plans.get n
  match r.inFlight.filter fun f => f.plan.version == v with
  | some f => acceptPlan hand n f s
  | none => if r.accepted.version = v then s else staleAnswer s

/-- A PLAN_LATE (R98): the entries in flight are issued again, sent once. -/
def takePlanLate (hand : Hand) (n : Fin 240) (v : Octet) (s : State) : State :=
  match (s.alloc.plans.get n).inFlight.filter fun f => f.plan.version == v with
  | some f => issuePlan hand n 1 f.plan.entries s
  | none => staleAnswer s

/-- A slot of an absent node takes the quarantine mark (R99). -/
def markSlot (n : Fin 240) (x : SlotState) : SlotState :=
  match x with
  | .free => .free
  | .held m q => .held m (q || m == n)

/-- A node is declared absent (R99). -/
def declareAbsent (hand : Hand) (n : Fin 240) (s : State) : State :=
  let after := s.modAlloc fun a =>
    { a with
      calls := a.calls.filter fun e => e.node != n
      waiting := a.waiting.filter fun w => w.node != n
      slots := a.slots.map (markSlot n)
      nodesAbsent := bump a.nodesAbsent }
  let after := modPlan n (fun r =>
    { r with inFlight := none, absent := true, quarantine := some 0 }) after
  if after.alloc.calls.length = s.alloc.calls.length then after else grantFromQueue hand after

/-- The plan in flight to a node is unanswered 64 cycles past its switch cycle (R98). -/
def unanswered (s : State) (n : Fin 240) : Bool :=
  match (s.alloc.plans.get n).inFlight with
  | none => false
  | some f => 64 ≤ cyclesPast f.plan.switchCycle s.timer.number

/-- An unanswered plan is resent, or its node declared absent (R98). -/
def resendPlan (hand : Hand) (n : Fin 240) (s : State) : State :=
  match (s.alloc.plans.get n).inFlight with
  | none => s
  | some f =>
    if f.sends < 4 then
      issuePlan hand n (f.sends + 1) f.plan.entries
        (s.modAlloc fun a => { a with planResends := bump a.planResends })
    else declareAbsent hand n s

/-- A slot of a node after its quarantine (R99). -/
def unquarantine (n : Fin 240) (x : SlotState) : SlotState := if x = .held n true then .free else x

/-- The quarantine of a node ends (R99). -/
def endQuarantine (hand : Hand) (n : Fin 240) (s : State) : State :=
  let after := s.modAlloc fun a => { a with slots := a.slots.map (unquarantine n) }
  grantAfter hand s (modPlan n (fun r => { r with quarantine := none }) after)

/-- A header of the master's own has come back: the plans whose switch cycle it reaches are seen
(R97). -/
def seenPlan (number : Half) (r : PlanRecord) : PlanRecord :=
  let reached := fun (c : Half) => number == c || ahead number c
  { r with
    acceptedSeen := r.acceptedSeen || reached r.accepted.switchCycle
    inFlight := r.inFlight.map fun f => { f with seen := f.seen || reached f.plan.switchCycle } }

/-- The frame of a node clears its absent flag (R92). -/
def markPresent (source : Octet) (s : State) : State :=
  match nodeOf source with
  | none => s
  | some n => modPlan n (fun r => { r with absent := false }) s

/-! ## Supervision and capacity (R100, R101) -/

/-- One reference of a CALL_STATUS (R100). -/
def renewStatus (n : Fin 240) (q : Fin 4) (s : State) : State :=
  if ((callOf s.alloc n q).filter isLive).isSome then modCall n q (fun e => { e with age := 0 }) s
  else s.modAlloc fun a => { a with statusUnmatched := bump a.statusUnmatched }

/-- A call's supervision age has reached 3000 (R100): it is released. -/
def superviseCall (hand : Hand) (n : Fin 240) (q : Fin 4) (s : State) : State :=
  planCalls hand n
    ((modCall n q (fun e => { e with phase := .releasing }) s).modAlloc fun a =>
      { a with callsSupervised := bump a.callsSupervised })

/-- SET_VOICE_CAPACITY (R101). -/
def setCapacity (hand : Hand) (c : Nat) (s : State) : State × Result :=
  if c < currentU s.alloc then (s, refusal .conflict)
  else
    let after := s.modAlloc fun a => { a with capacity := min c 48 }
    (if s.alloc.capacity < min c 48 then grantFromQueue hand after else after, .done 0)

/-! ## The hand-over to the Slot Allocator (R92) -/

/-- A VSIG frame the Slot Allocator ignores (R92). -/
def ignoreAlloc (s : State) : State :=
  s.modAlloc fun a => { a with allocIgnored := bump a.allocIgnored }

/-- A call reference that names its source and a position 0 to 3 (R92). -/
def ownPosition (source : Octet) (ref : CallRef) : Option (Fin 4) :=
  if ref.node = source then positionOf ref.position.toNat else none

/-- The positions of a list of references, when every one of them is good (R92). -/
def ownPositions (source : Octet) : List CallRef → Option (List (Fin 4))
  | [] => some []
  | r :: rest =>
    match ownPosition source r, ownPositions source rest with
    | some q, some qs => some (q :: qs)
    | _, _ => none

/-- A message of node `n`, from its address (R92). -/
def allocMessage (hand : Hand) (source : Octet) (n : Fin 240) (m : VsigMsg) (s : State) : State :=
  match m with
  | .callRequest ref priority _ _ =>
    match ownPosition source ref with
    | some q => takeCallRequest hand n q priority s
    | none => ignoreAlloc s
  | .callRelease ref =>
    match ownPosition source ref with
    | some q => takeCallRelease hand n q s
    | none => ignoreAlloc s
  | .callStatus refs =>
    match ownPositions source refs with
    | some qs => qs.foldl (fun s q => renewStatus n q s) s
    | none => ignoreAlloc s
  | .planAccept _ v => takePlanAccept hand n v s
  | .planLate _ v => takePlanLate hand n v s
  | _ => ignoreAlloc s

/-- A VSIG message handed to the Slot Allocator (R92). -/
def allocTake (hand : Hand) (source : Octet) (m : VsigMsg) (s : State) : State :=
  match nodeOf source with
  | none => ignoreAlloc s
  | some n => allocMessage hand source n m (markPresent source s)

/-- The Slot Allocator acts on a message of a source (R92). -/
def allocCanUse (source : Octet) (m : VsigMsg) : Bool :=
  (nodeOf source).isSome &&
  match m with
  | .callRequest ref _ _ _ => (ownPosition source ref).isSome
  | .callRelease ref => (ownPosition source ref).isSome
  | .callStatus refs => (ownPositions source refs).isSome
  | .planAccept _ _ => true
  | .planLate _ _ => true
  | _ => false

/-! ## The internal hand-over (R52) -/

/-- The hand-over inside a master, at once (R52). An answer to a message may itself be answered;
the number bounds the depth, and the depth a run needs is small (log 19). -/
def handDeep : Nat → Hand
  | 0 => fun _ _ s => s
  | k + 1 => fun t m s =>
    match t with
    | .phone => phoneTake (handDeep k) .taken 1 m s
    | .alloc => allocTake (handDeep k) 1 m s

/-- The hand-over inside a master (R52). -/
def hand : Hand := handDeep 64

end Sys2Proof.Machine
end

