-- ==== Sys2Proof/Machine/ReachOps.lean ====
section
/-! DEFINITION. The line ports (01 sections 1.2, 1.3), reachability (01 section 1.5) and the
protection state (02): what a change of a port brings about, and what the end of a cycle makes of
the healths and of reachability. -/

namespace Sys2Proof.Machine

/-! ## The receive side of a port (R4 to R8) -/

/-- LOSS holds (R6). -/
def lossHolds (p : LinePort) : Bool := p.rx == .down

/-- ALIGN holds (R6). -/
def alignHolds (p : LinePort) : Bool :=
  p.rx == .aligning && (p.entryFrom == .fromUp || decide (5 ≤ p.alignCycles))

/-- HEADERS holds (R6). -/
def headersHolds (p : LinePort) : Bool := decide (3 ≤ p.errorRun)

/-- FAR_END holds (R6). -/
def farEndHolds (p : LinePort) : Bool := decide (3 ≤ p.farEndRun)

/-- The receive side of a port is faulted (R6, R34): FAR_END is not among its conditions. -/
def rxFaulted (p : LinePort) : Bool := lossHolds p || alignHolds p || headersHolds p

/-- The first condition of the table of R6 that holds. -/
def faultReason (p : LinePort) : Option PortReason :=
  if lossHolds p then some .loss
  else if alignHolds p then some .align
  else if headersHolds p then some .headers
  else if farEndHolds p then some .farEnd
  else none

/-- A port that is not faulted is clear when it is UP (R6). -/
def portClear (p : LinePort) : Bool := (faultReason p).isNone && p.rx == .up

/-- The far-end run after a valid header (R8). -/
def farEndAfter (flag : Bool) (p : LinePort) : Nat := if flag then p.farEndRun + 1 else 0

/-- A header examined in ALIGNING at the found position (R4). -/
def examineAligning (h : Option CycleHeader) (p : LinePort) : LinePort :=
  match h with
  | some h =>
    { p with
      rx := if 8 ≤ p.alignRun + 1 then .up else .aligning
      alignRun := min 8 (p.alignRun + 1), errorRun := 0, farEndRun := farEndAfter h.farEnd p }
  | none => { p with alignRun := 0, errorRun := p.errorRun + 1, markerFound := false }

/-- A header examined in UP (R4, R5). -/
def examineUp (number : Half) (h : Option CycleHeader) (p : LinePort) : LinePort :=
  match h with
  | some h => { p with errorRun := 0, farEndRun := farEndAfter h.farEnd p }
  | none =>
    let p := { p with errorRun := p.errorRun + 1, headerErrors := bump p.headerErrors }
    if 3 ≤ p.errorRun then
      { p with rx := .aligning, entryFrom := .fromUp, entryCycle := number, alignCycles := 0
               markerFound := false, alignRun := 0 }
    else p

/-- A received header as the receive side takes it (R4, R5, R8); during a marker search, and in
DOWN, none is examined. -/
def examineHeader (number : Half) (h : Option CycleHeader) (p : LinePort) : LinePort :=
  match p.rx with
  | .down => p
  | .aligning => if p.markerFound then examineAligning h p else p
  | .up => examineUp number h p

/-- Loss of the signal or of bit lock (R4). -/
def loseSignal (p : LinePort) : LinePort :=
  { p with rx := .down, markerFound := false, alignRun := 0, errorRun := 0, farEndRun := 0 }

/-- The signal regained with bit lock, in DOWN (R4). -/
def regainSignal (number : Half) (p : LinePort) : LinePort :=
  { p with rx := .aligning, entryFrom := .fromDown, entryCycle := number, alignCycles := 0
           markerFound := false, alignRun := 0 }

/-! ## Faulted status and health (R6, R9 to R11) -/

/-- A cycle in which the port is faulted, not clear or named by a request is none of the sixteen of
R11: a bring-up that has completed in it is taken back (log 49). -/
def takeBack (p : LinePort) : LinePort :=
  { p with
    everHealthy := p.everHealthy && p.completed.isNone
    portRecoveries := p.completed.getD p.portRecoveries, completed := none }

/-- A port with the conditions of R6 holding: PORT_FAULTS counts the passage, the health falls, the
timer and the bring-up count stop (R6, R9, R10, R11). -/
def faultPort (r : PortReason) (p : LinePort) : LinePort :=
  { takeBack p with
    faulted := true, reason := r
    portFaults := if p.faulted then p.portFaults else bump p.portFaults
    health := .unhealthy, wtrTimer := none, bringUp := 0 }

/-- A port on which no condition of R6 holds (R9 to R11): a clear UNHEALTHY port that no request
names runs its timer, or its bring-up count if it was never HEALTHY. -/
def unfaultPort (forced : Bool) (p : LinePort) : LinePort :=
  let p := { p with faulted := false }
  if p.health = .healthy ∧ forced = false then p
  else if forced then { takeBack p with health := .unhealthy, wtrTimer := none, bringUp := 0 }
  else if p.rx ≠ .up then { takeBack p with wtrTimer := none, bringUp := 0 }
  else if p.everHealthy then { p with wtrTimer := some (p.wtrTimer.getD 0) }
  else p

/-- The faulted status, the health and their timers follow the receive side and the forced-wrap
request (R6, R9). -/
def refreshPort (forced : Bool) (p : LinePort) : LinePort :=
  match faultReason p with
  | some r => faultPort r p
  | none => unfaultPort forced p

/-- A port becomes HEALTHY (R9): the timer stops, the flag stands, the recovery is counted. -/
def recoverPort (p : LinePort) : LinePort :=
  { p with health := .healthy, wtrTimer := none, bringUp := 0, everHealthy := true
           portRecoveries := bump p.portRecoveries, completed := none }

/-- The bring-up count of a port has reached 16 (R9, R11): the port is HEALTHY from this cycle on, if it
stays clear to the end of it (log 49). -/
def completeBringUp (p : LinePort) : LinePort :=
  { recoverPort p with completed := some p.portRecoveries }

/-- The bring-up count of a port is running (R11). -/
def bringingUp (forced : Bool) (p : LinePort) : Bool :=
  portClear p && p.health == .unhealthy && !p.everHealthy && !forced

/-- A port of the node. -/
def portAt (s : State) : Port → LinePort
  | .w => s.line.w
  | .e => s.line.e

/-- A change of one port. -/
def modPort (p : Port) (f : LinePort → LinePort) (s : State) : State :=
  match p with
  | .w => s.modLine fun l => { l with w := f l.w }
  | .e => s.modLine fun l => { l with e := f l.e }

/-- The forced-wrap request names the port (R35). -/
def forcedOn (s : State) (p : Port) : Bool := s.prot.forced == some p

/-- The other port. -/
def otherPort : Port → Port
  | .w => .e
  | .e => .w

/-! ## Reachability (R20 to R22) -/

/-- The condition of R20 and R21 for LINKED. -/
def shouldBeLinked (s : State) : Bool :=
  if s.isMaster then s.pins.uplinkUp else decide (s.prot.age < 16) && s.agent.address.isSome

/-- Reachability follows its causes (R20, R21). Its events are those of the cycle, handed as the
cycle ends (R22). -/
def updateReach (s : State) : State := s.modProt fun p => { p with linked := shouldBeLinked s }

/-- A detach (R22): the Phone Interface, the Toll Relay, the Toll Journal take it, then condition 48
rises (log 13). -/
def detach (s : State) : State :=
  let s := s.modProt fun p => { p with handed := false }
  changeCondition true condDetached true (journalAllWaiting (tollDetach (phoneDetach hand s)))

/-- A relink (R22): from here on the blocks see the node as LINKED; the Phone Interface takes it, the
relink report is offered, then condition 48 falls (R171, log 13). -/
def relink (s : State) : State :=
  let s := s.modProt fun p => { p with handed := true }
  changeCondition true condDetached false (reportTrigger (phoneRelink hand s))

/-- The change of reachability of a cycle is handed to the blocks; a node that is at its end where
it was hands none (R22). -/
def handReach (s : State) : State :=
  if s.prot.linked = s.prot.handed then s
  else if s.prot.linked then relink s
  else detach s

/-- The centre-header age takes a value (R20). -/
def setAge (n : Nat) (s : State) : State := s.modProt fun p => { p with age := n }

/-! ## Holdover and the processed stream (R13, R14) -/

/-- The port of the processed stream in a protection state (R13). -/
def processedPort : ProtState → Option Port
  | .ring => some .w
  | .wrapEast => some .w
  | .wrapWest => some .e
  | .isolated => none

/-- The port that carries the result of P processing (R26 to R30). -/
def outPort : ProtState → Option Port
  | .ring => some .e
  | .wrapEast => some .w
  | .wrapWest => some .e
  | .isolated => none

/-- A slave enters holdover (R14): the next processed header is an adoption (R16). -/
def enterHoldover (t : CycleTimer) : CycleTimer :=
  { t with holdover := true, adoptNext := true, holdoverEntries := bump t.holdoverEntries }

/-! ## The protection state (R24, R32, R33) -/

/-- The frames of a received S cycle, as a reader reads them (R31, log 17). -/
def cycleFrames (cycle : Octets) : List Frame :=
  match decodeCycleHeader cycle with
  | none => []
  | some h => (zoneItems (zoneOf h.u.toNat cycle)).filterMap fun i => match i with
    | .frame f => some f
    | _ => none

/-- The held S cycle is discarded with its frames (R31). -/
def dropHeldS (s : State) : State :=
  match s.prot.heldS with
  | none => s
  | some cycle =>
    (s.modSw (discardAll s.timer.number .noRoom (.port .e) (cycleFrames cycle))).modProt fun p =>
      { p with heldS := none }

/-- The frames of one queue are discarded with NO_PATH (R32). -/
def discardQueue (cycle : Half) (sw : FrameSwitch) (q : QueueName) : FrameSwitch :=
  setQueue q [] (discardAll cycle .noPath (.queue q) (queueFrames sw q) sw)

/-- Entry into ISOLATED as the Frame Switch takes it (R32, R60). The order of the discards, which
decides the records that remain, is the model's: the queues in R57's order, each from its head, then
the holding buffer (log 13). -/
def isolateSwitch (cycle : Half) (sw : FrameSwitch) : FrameSwitch :=
  let sw := allQueues.foldl (discardQueue cycle) sw
  { discardAll cycle .noPath .holding sw.holding sw with holding := [] }

/-- What entry into ISOLATED does on a slave's timing and age: it is DETACHED (R14, R20). -/
def isolateTiming (s : State) : State :=
  if s.isMaster then s
  else
    let s := if s.timer.holdover then s else s.modTimer enterHoldover
    updateReach (setAge 16 s)

/-- The state moves to `new` (R24, R25, R31, R32). -/
def moveProtection (new : ProtState) (s : State) : State :=
  let old := s.prot.state
  let s := if old = .ring then dropHeldS s else s
  let s := s.modProt fun p =>
    { p with state := new, changes := bump p.changes
             isolations := if new = .isolated then bump p.isolations else p.isolations }
  let s := if processedPort old = processedPort new then s
           else s.modTimer fun t => { t with adoptNext := true }
  if new = .isolated then isolateTiming (s.modSw (isolateSwitch s.timer.number)) else s

/-- The protection state moves once in a cycle, to what the two healths give as they stand after
every change of the cycle (R24, log 37). A node that left ISOLATED and is back in it within the cycle
discards the frames it queued in between (R32). -/
def settleProtection (s : State) : State :=
  let new := protectionOf s.line.w.health s.line.e.health
  if new = s.prot.state then
    if new = .isolated then s.modSw (isolateSwitch s.timer.number) else s
  else moveProtection new s

/-- WRAPPED and ISOLATED follow the protection state (R33). No rule orders the two changes of one cycle
(R161); the condition that the state leaves is handed first, as the telling of 9.7 has it at T = 300
and T = 700: a DESIGN CHOICE (log 13). -/
def protectionConditions (s : State) : State :=
  let wrapped := (condWrapped, s.prot.state == .wrapEast || s.prot.state == .wrapWest)
  let isolated := (condIsolated, s.prot.state == .isolated)
  changeConditions true
    (if s.prot.state = .isolated then [wrapped, isolated] else [isolated, wrapped]) s

/-- A change of a port: the faulted status and the health follow the receive side and the request
(R6, R9). -/
def changePort (p : Port) (f : LinePort → LinePort) (s : State) : State :=
  modPort p (fun x => refreshPort (forcedOn s p) (f x)) s

end Sys2Proof.Machine
end

