-- ==== Sys2Proof/Machine/AgentOps.lean ====
section
/-! DEFINITION. The Management Agent's operations (11): responses, the execution of a request, the
request queue, the address walk; and the sign frames of the centre (R179). -/

namespace Sys2Proof.Machine

/-! ## Responses (R199) -/

/-- The response of a request leaves by the path its origin and the node give it (R199). -/
def respond (h : Head) (r : Result) (s : State) : State :=
  let s := s.modAgent fun a => { a with responsesSent := bump a.responsesSent }
  let f := completeFrame s h.source svcMgmt h.channel (frameFlags (h.origin == .field) true) h.tag
    (encodeResult r)
  let s := s.spendOpen
  match h.origin with
  | .field => sendUplink f s
  | .centre =>
    if s.isMaster then
      if s.pins.uplinkUp then sendUplink f s
      else s.modSw (discardFrame s.timer.number .noPath .uplink f)
    else (offerOwn .mgmt f s).1

/-! ## The execution of a request (R198, R200) -/

/-- A field terminal may ask for it: READ, SIGN_TEST, WX_READ, COUNTS_CLEAR, IDENTIFY (R200). -/
def fieldAllowed (code : Nat) : Bool :=
  code == 1 || code == 9 || code == 21 || code == 22 || code == 23

/-- Master only: ASSIGN_ADDRESSES, SET_VOICE_CAPACITY (R200). -/
def masterOnly (code : Nat) : Bool := code == 24 || code == 26

/-- The checks before a request, in the order of R200; the last of them, on an unreadable request,
is the caller's. -/
def agentCheck (h : Head) (code : Nat) (s : State) : Option Reason :=
  if h.origin = .field ∧ s.agent.fieldLock = true then some .locked
  else if h.origin = .field ∧ fieldAllowed code = false then some .notPermitted
  else if masterOnly code ∧ s.isMaster = false then some .notMaster
  else none

/-- The request that an entry of the queue carries, as the command that executes it. -/
def entryInstr (r : QueuedRequest) : Option Instr := requestInstr r.head r.payload

/-- The queue without its head, when the head is the request executed (R198, log 5). -/
def leaveQueue (me : Instr) (rs : List QueuedRequest) : List QueuedRequest :=
  match rs with
  | [] => []
  | r :: rest => if entryInstr r = some me then rest else r :: rest

/-- The execution is counted (R198, R200). -/
def countRequest (h : Head) (s : State) : State :=
  s.modAgent fun a =>
    { a with requestsExecuted := bump a.requestsExecuted
             fieldRequests := if h.origin = .field then bump a.fieldRequests else a.fieldRequests }

/-- The execution of a request, whole (R198): counted, checked, executed by its own rule, out of the
queue at its end. -/
def execRequest (h : Head) (code : Nat) (me : Instr) (body : State → State) (s : State) : State :=
  let s := countRequest h s
  let s := match agentCheck h code s with
    | some r => respond h (refusal r) s
    | none => body s
  s.modAgent fun a => { a with requests := leaveQueue me a.requests }

/-- A request whose rule gives a result at once (R199). What it brings about is handed on before the
response, an alarm report of SET_MASK, SET_CENTRE_FLAG or a WRITE of channel entries too, which is the
model's order (log 13). -/
def answering (h : Head) (run : State → State × Result) (s : State) : State :=
  respond h (run s).2 (run s).1

/-- A request answered DONE in every case (R203). -/
def answeringDone (h : Head) (f : State → State) (s : State) : State :=
  respond h (.done 0) (f s)

/-- The head of the queue cannot be read as a request: it is refused by the checks of R200 and
leaves the queue (log 25). -/
def refuseUnreadable (r : QueuedRequest) (rest : List QueuedRequest) (s : State) : State :=
  let s := countRequest r.head s
  let reason := (agentCheck r.head (requestCode r.payload) s).getD .badValue
  (respond r.head (refusal reason) s).modAgent fun a => { a with requests := rest }

/-! ## The address walk (R206 to R208) -/

/-- The payload of an ADDRESS_OFFER (R214). -/
def encodeOffer (a : Octet) : Octets := [codeOffer, a]

/-- The payload of an ADDRESS_TAKEN (R214). -/
def encodeTaken (a : Octet) (serial : BitVec 48) : Octets :=
  [codeTaken, a] ++ octetsOf 6 serial.toNat

/-- An offer is made (R206): the frame is offered to MGMT, the walk timer starts from 0. -/
def makeOffer (a : Octet) (s : State) : State :=
  let s := s.modAgent fun g => { g with walk := { g.walk with onOffer := a, timer := some 0 } }
  (offerOwn .mgmt
    (completeFrame s 255 svcMgmt (openChannel s) (frameFlags false false) (openTag s) (encodeOffer a))
    s.spendOpen).1

/-- ASSIGN_ADDRESSES starts a walk (R206). -/
def startWalk (h : Head) (a : Octet) (s : State) : State :=
  makeOffer a (s.modAgent fun g =>
    { g with walk := { running := true, onOffer := a, given := 0, timer := some 0, head := h }
             walks := bump g.walks })

/-- The walk ends: IDLE, the timer stopped, the held response made (R208). -/
def endWalk (r : Result) (s : State) : State :=
  respond s.agent.walk.head r
    (s.modAgent fun g => { g with walk := { g.walk with running := false, timer := none } })

/-- The DONE of a walk: the count, then the end cause (R214). -/
def walkDone (s : State) (cause : Nat) : Result := .done (s.agent.walk.given * 256 + cause)

/-- A MGMT frame the agent ignores (R197, R208). -/
def ignoreMgmt (s : State) : State := s.modAgent fun g => { g with mgmtIgnored := bump g.mgmtIgnored }

/-- ADDRESS_TAKEN on the master (R208). -/
def takeTaken (a : Octet) (s : State) : State :=
  if s.agent.walk.running ∧ a = s.agent.walk.onOffer then
    let s := s.modAgent fun g => { g with walk := { g.walk with given := g.walk.given + 1 } }
    if a = 240 then endWalk (.refused .full s.agent.walk.given) s else makeOffer (a + 1) s
  else ignoreMgmt s

/-- An address offer has come back to the master untaken (R208). -/
def offerReturned (s : State) : State :=
  if s.agent.walk.running then endWalk (walkDone s 1) s else ignoreMgmt s

/-- The walk timer has reached its limit (R208). -/
def walkExpires (s : State) : State :=
  endWalk (walkDone s 2) (s.modAgent fun g => { g with walkTimeouts := bump g.walkTimeouts })

/-- A RESTART ends a running walk (R208). -/
def walkRestart (s : State) : State := if s.agent.walk.running then endWalk (walkDone s 3) s else s

/-- An address a slave may take from an offer (R207). -/
def offerLegal (a : Octet) : Bool := 2 ≤ a.toNat && a.toNat ≤ 240

/-- The slave has no address and takes offers (R48). -/
def awaitsAddress (s : State) : Bool := !s.isMaster && s.agent.address.isNone

/-- The ADDRESS_TAKEN frame of a slave that has just taken its address (R207). -/
def takenFrame (a : Octet) (s : State) : Frame :=
  completeFrame s 1 svcMgmt (openChannel s) (frameFlags false false) (openTag s)
    (encodeTaken a Config.serial)

/-- An unassigned slave takes an offered address (R207): the frame it gives back, and the state, in
which reachability has followed (R20). -/
def takeAddress (a : Octet) (s : State) : State × Frame :=
  let s := s.modAgent fun g =>
    { g with address := some a, addressesTaken := bump g.addressesTaken }
  let f := takenFrame a s
  (updateReach s.spendOpen, f)

/-- An offered address is taken: the ADDRESS_TAKEN leaves in the offer's place, or is offered to
MGMT when it cannot stand there (R48, R207). -/
def takeOffer (a : Octet) (fits : Bool) (s : State) : State :=
  let r := takeAddress a s
  if fits then r.1 else (offerOwn .mgmt r.2 r.1).1

/-- The node becomes unassigned (R209): DETACHED (R20). -/
def clearAddress (s : State) : State :=
  updateReach (s.modAgent fun g => { g with address := none })

/-! ## Frames for the agent (R197, R198) -/

/-- The frame carries a walk message, readable or not (R214). -/
def isWalkMessage (p : Octets) : Bool := requestCode p == 64 || requestCode p == 65

/-- The frame is a request: the response flag clear, no walk message (11 section 11.1). -/
def isRequestFrame (f : Frame) : Bool := !isResponse f && !isWalkMessage f.payload

/-- The head of the request a frame carries. -/
def headOf (origin : Origin) (f : Frame) : Head :=
  { origin, source := f.source, channel := f.channel, tag := f.tag }

/-- A request joins the queue, or is dropped when it holds four (R198). -/
def joinQueue (origin : Origin) (f : Frame) (s : State) : State :=
  s.modAgent fun g =>
    if 4 ≤ g.requests.length then { g with requestsDropped := bump g.requestsDropped }
    else { g with requests := g.requests ++ [{ head := headOf origin f, payload := f.payload }] }

/-- The address that a field terminal's ADDRESS_OFFER names on an unassigned slave (R55, R197). -/
def fieldOffer (origin : Origin) (f : Frame) (s : State) : Option Octet :=
  if origin == .field && awaitsAddress s && !isResponse f then decodeOffer f.payload else none

/-- An ADDRESS_OFFER of the field terminal, which has no place in a zone: its ADDRESS_TAKEN is
offered to MGMT; an illegal address is not taken (R197, R207, log 35). -/
def takeFieldOffer (a : Octet) (s : State) : State := if offerLegal a then takeOffer a false s else s

/-- A MGMT frame handed to the agent (R197). An address offer of the ring on an unassigned slave is
handed to it by the Frame Switch apart (R48). -/
def agentTake (origin : Origin) (f : Frame) (s : State) : State :=
  match fieldOffer origin f s with
  | some a => takeFieldOffer a s
  | none =>
    match (if s.isMaster && !isResponse f then decodeTaken f.payload else none) with
    | some t => takeTaken t.1 s
    | none =>
      if isRequestFrame f && (origin == .field || f.source == 0) then joinQueue origin f s
      else ignoreMgmt s

/-! ## SIGN frames (R179) -/

/-- A SIGN frame the Sign Controller ignores (R179). -/
def ignoreSign (s : State) : State := s.modSign fun g => { g with signIgnored := bump g.signIgnored }

/-- The page of a legal SHOW (R178). -/
def showPage (page priority lifetime : Nat) : Option (Fin 64) :=
  if showLegal page priority lifetime then pageNumber page else none

/-- A SIGN frame handed to the Sign Controller (R179). -/
def takeSignFrame (source : Octet) (payload : Octets) (s : State) : State :=
  match (if source = 0 then decodeSignRequest payload else none) with
  | some (.signShow page priority lifetime) =>
    match showPage page priority lifetime with
    | some p => s.modSign (centreShow s.cond.copy p priority lifetime)
    | none => ignoreSign s
  | some .signClear => s.modSign (centreClear s.cond.copy)
  | none => ignoreSign s

end Sys2Proof.Machine
end

