-- ==== Sys2Proof/Machine/ZoneOps.lean ====
section
/-! DEFINITION. The Frame Switch's work on packet zones (03): P processing, the uplink's frames, the
filling of an outgoing zone, the master's transit, the carrying of S (R31). -/

namespace Sys2Proof.Machine

/-! ## Handing a frame to its block (R44) -/

/-- A VSIG frame handed over: to the Slot Allocator on the master, else to the Phone Interface (R44,
R76, R92). -/
def handVsig (via : Via) (f : Frame) (s : State) : State :=
  match s.isMaster, decodeVsig f.payload with
  | true, some m => allocTake hand f.source m s
  | true, none => ignoreAlloc s
  | false, some m => phoneTake hand via f.source m s
  | false, none => ignoreVsig s

/-- A frame handed to the block its service names (R44). -/
def handFrame (via : Via) (f : Frame) (s : State) : State :=
  if f.service = svcMgmt then agentTake .centre f s
  else if f.service = svcAlarm then
    s.modCond fun u => { u with alarmIgnored := bump u.alarmIgnored }
  else if f.service = svcToll then takeTollFrame via f.channel f.payload s
  else if f.service = svcVsig then handVsig via f s
  else if f.service = svcSign then takeSignFrame f.source f.payload s
  else s.modWx fun w => { w with wxIgnored := bump w.wxIgnored }

/-! ## The checks of R42 -/

/-- The first of checks 3 to 5 of R42 that a frame fails. -/
def frameFault (f : Frame) : Option DiscardReason :=
  if 241 ≤ f.dest.toNat ∧ f.dest.toNat ≤ 254 then some .badAddress
  else if f.service = 0 ∨ 6 < f.service.toNat then some .badService
  else if f.check ≠ payloadCheck f.payload then some .payloadCheck
  else none

/-! ## Strip, take, copy, pass (R43 to R48) -/

/-- A frame kept for the outgoing zone; `inPlace` marks the ADDRESS_TAKEN that stands in an offer's
place (R48). -/
structure Kept where
  inPlace : Bool
  frame   : Frame
  deriving DecidableEq, Repr

/-- The frame comes home (R43). -/
def comesHome (s : State) (f : Frame) : Bool :=
  if s.isMaster then f.source == 1 || f.source == 0 else s.agent.address == some f.source

/-- The address an address offer carries (R48): service MGMT, destination 255, source 1. -/
def offerOf (f : Frame) : Option Octet :=
  if f.service = svcMgmt ∧ f.dest = 255 ∧ f.source = 1 ∧ isResponse f = false then
    decodeOffer f.payload
  else none

/-- A stripped frame (R43): the master reports a returning offer to its agent (R48). -/
def stripFrame (f : Frame) (s : State) : State :=
  let s := s.modSw fun sw => { sw with stripped := bump sw.stripped }
  if s.isMaster && (offerOf f).isSome then offerReturned s else s

/-- The master clears the absent flag of a frame's source (R92). -/
def notePresent (f : Frame) (s : State) : State := if s.isMaster then markPresent f.source s else s

/-- A taken frame (R44). -/
def takeFrame (f : Frame) (s : State) : State := handFrame .taken f (countTaken (notePresent f s))

/-- A frame for the centre, on the master (R45). -/
def frameToCentre (f : Frame) (s : State) : State :=
  let s := notePresent f s
  if s.pins.uplinkUp then
    sendUplink f (s.modSw fun sw => { sw with toCentre := bump sw.toCentre })
  else s.modSw (discardFrame s.timer.number .noPath .uplink f)

/-- The node takes a copy of a broadcast (R46); an assigned slave takes none of an address offer
(R48). -/
def copies (s : State) (f : Frame) : Bool :=
  (s.isMaster || (offerOf f).isNone) &&
    (f.service == svcMgmt || f.service == svcAlarm || decide ((f.service, f.channel) ∈ s.sw.accept))

/-- The copy of a broadcast, when the node takes one (R46). -/
def copyFrame (f : Frame) (s : State) : State :=
  if copies s f then
    handFrame .copy f
      ((notePresent f s).modSw fun sw => { sw with copies := bump sw.copies })
  else s

/-- The frame that a pass makes transit: one hop fewer (R47). -/
def hopped (f : Frame) : Frame := { f with hop := f.hop - 1 }

/-- A passed frame (R47): HOP_LIMIT, or transit. -/
def passFrame (p : Port) (f : Frame) (s : State) : State × List Kept :=
  if f.hop.toNat ≤ 1 then (s.modSw (discardFrame s.timer.number .hopLimit (.port p) f), [])
  else
    (s.modSw fun sw => { sw with passed := bump sw.passed },
     [{ inPlace := false, frame := hopped f }])

/-- A frame on a slave without an address (R48). The ADDRESS_TAKEN in an offer's place is no frame
that the node passed: it adds nothing to FRAMES_PASSED, which is the model's choice (log 35). -/
def unassignedFrame (p : Port) (f : Frame) (s : State) : State × List Kept :=
  match (offerOf f).filter offerLegal with
  | some a => ((takeAddress a s).1, [{ inPlace := true, frame := (takeAddress a s).2 }])
  | none => passFrame p f s

/-- A frame that has passed the checks of R42 (R43 to R48). -/
def handleFrame (p : Port) (f : Frame) (s : State) : State × List Kept :=
  if awaitsAddress s then unassignedFrame p f s
  else if comesHome s f then (stripFrame f s, [])
  else if s.agent.address = some f.dest then (takeFrame f s, [])
  else if s.isMaster ∧ f.dest = 0 then (frameToCentre f s, [])
  else if f.dest = 255 then passFrame p f (copyFrame f s)
  else passFrame p f s

/-- One item of a processed zone (R42). -/
def handleItem (p : Port) (i : ZoneItem) (s : State) : State × List Kept :=
  match i with
  | .badHeader => (s.modSw fun sw => loseZone (discardBadHeader s.timer.number (.port p) sw), [])
  | .tooLong h within =>
    (s.modSw fun sw =>
      let sw := discardFields s.timer.number .tooLong (.port p) h sw
      if within then sw else loseZone sw, [])
  | .truncated => (s.modSw loseZone, [])
  | .frame f =>
    match frameFault f with
    | some r => (s.modSw (discardFrame s.timer.number r (.port p) f), [])
    | none => handleFrame p f s

/-- The items of a zone, in zone order (R42). -/
def handleItems (p : Port) : List ZoneItem → State → State × List Kept
  | [], s => (s, [])
  | i :: rest, s =>
    let a := handleItem p i s
    let b := handleItems p rest a.1
    (b.1, a.2 ++ b.2)

/-- The extent of the transit of a zone. -/
def keptExtent (ks : List Kept) : Nat := extents (ks.map (·.frame))

/-- An ADDRESS_TAKEN that does not fit in the offer's place is offered to MGMT instead (R48); that it is
offered after the whole zone is read is the model's (log 13). -/
def placeTaken (zone : Nat) (r : State × List Kept) : State × List Frame :=
  if keptExtent r.2 ≤ zone then (r.1, r.2.map (·.frame))
  else
    ((r.2.filter (·.inPlace)).foldl (fun s k => (offerOwn .mgmt k.frame s).1) r.1,
     (r.2.filter fun k => !k.inPlace).map (·.frame))

/-- P processing of a packet zone received on port `p` (R42 to R48): the transit it leaves. -/
def processZone (p : Port) (zone : Octets) (s : State) : State × List Frame :=
  placeTaken zone.length (handleItems p (zoneItems zone) s)

/-! ## Frames on the uplink port (R54, R55) -/

/-- What the checks of R42 make of one frame received on an uplink port (R54, R55). -/
inductive UplinkItem where
  | badHeader
  | bad (reason : DiscardReason) (fields : FrameFields)
  | frame (f : Frame)
  deriving DecidableEq, Repr

/-- One frame received on an uplink port (R54, R55). Octets too few for the length fail the payload
check, and fewer than 12, no whole header, the header check: both are the model's reading (log 31). -/
def readUplink (os : Octets) : UplinkItem :=
  let len := (halfAt os 8).toNat
  if os.length < 12 ∨ checkHolds (os.take 12) = false then .badHeader
  else if 496 < len then .bad .tooLong (fieldsOf os)
  else
    match frameFault (frameOf os len) with
    | some .payloadCheck => .bad .payloadCheck (fieldsOf os)
    | some r => .bad r (fieldsOf os)
    | none => if os.length = 16 + len then .frame (frameOf os len) else .bad .payloadCheck (fieldsOf os)

/-- A frame of the centre offered to the queue of its service: hop count 250, source and tag kept
(R54). -/
def offerCentre (f : Frame) (s : State) : State :=
  s.modSw fun sw =>
    (offerFrame s.agent.address.isSome (isIsolated s) true s.timer.number (queueOf f.service)
      { f with hop := 250 } sw).1

/-- A good frame of the centre by its destination (R54). -/
def centreFrame (f : Frame) (s : State) : State :=
  if f.dest = 0 then s.modSw (discardFrame s.timer.number .badAddress .uplink f)
  else if f.dest = 1 then handFrame .taken f (countTaken s)
  else if f.dest = 255 then offerCentre f (copyFrame f s)
  else offerCentre f s

/-- A frame received on an uplink port, its discards with place UPLINK. -/
def takeUplink (os : Octets) (good : Frame → State → State) (s : State) : State :=
  match readUplink os with
  | .badHeader => s.modSw (discardBadHeader s.timer.number .uplink)
  | .bad r h => s.modSw (discardFields s.timer.number r .uplink h)
  | .frame f => good f s

/-- A good frame of a field terminal (R55). -/
def fieldTerminalFrame (f : Frame) (s : State) : State :=
  if f.service = svcMgmt then agentTake .field f s
  else s.modSw (discardFrame s.timer.number .notPermitted .uplink f)

/-! ## Adds (R57, R58) -/

/-- A fill in progress: the octets left in the zone, the budgeted octets used, the frames placed. -/
structure Fill where
  left   : Nat
  used   : Nat
  placed : List Frame
  sw     : FrameSwitch
  deriving DecidableEq, Repr

/-- The head of a queue passes both tests of R57. -/
def mayPlace (q : QueueName) (f : Frame) (x : Fill) : Bool :=
  decide (extent f ≤ x.left) && (!budgeted q || decide (x.used + extent f ≤ x.sw.budget))

/-- A frame is placed as an add (R57). -/
def placeAdd (q : QueueName) (f : Frame) (x : Fill) : Fill :=
  { left := x.left - extent f
    used := if budgeted q then x.used + extent f else x.used
    placed := x.placed ++ [f]
    sw := { x.sw with added := x.sw.added.modify (queueIndex q) bump } }

/-- The visit of one queue: what is left of it, and the fill (R57, R58). -/
def visitQueue (cycle : Half) (q : QueueName) : List Frame → Fill → List Frame × Fill
  | [], x => ([], x)
  | f :: rest, x =>
    if budgeted q && decide (x.sw.budget < extent f) then
      visitQueue cycle q rest { x with sw := discardFrame cycle .noRoom (.queue q) f x.sw }
    else if mayPlace q f x then visitQueue cycle q rest (placeAdd q f x)
    else (f :: rest, x)

/-- One queue of the fill (R57). -/
def fillQueue (cycle : Half) (x : Fill) (q : QueueName) : Fill :=
  let r := visitQueue cycle q (queueFrames x.sw q) x
  { r.2 with sw := setQueue q r.1 r.2.sw }

/-- The adds of a cycle: the queues once each, in order (R57). -/
def fillAdds (left : Nat) (s : State) : State × List Frame :=
  let x := allQueues.foldl (fillQueue s.timer.number) { left, used := 0, placed := [], sw := s.sw }
  (s.modSw fun _ => x.sw, x.placed)

/-! ## The master's transit (R59, R60) -/

/-- Frames from the head, for as long as the next fits: those placed, those left. -/
def placeWhile (left : Nat) : List Frame → List Frame × List Frame
  | [] => ([], [])
  | f :: rest =>
    if extent f ≤ left then
      let r := placeWhile (left - extent f) rest
      (f :: r.1, r.2)
    else ([], f :: rest)

/-- A frame kept back joins the holding buffer, or is discarded (R60). -/
def joinHolding (cycle : Half) (sw : FrameSwitch) (f : Frame) : FrameSwitch :=
  if extents sw.holding + extent f ≤ 2048 then { sw with holding := sw.holding ++ [f] }
  else discardFrame cycle .noRoom .holding f sw

/-- Steps 1 to 3 of R59 for a zone: the switch, the transit placed. -/
def placeTransit (cycle : Half) (zone : Nat) (sw : FrameSwitch) : FrameSwitch × List Frame :=
  let h := placeWhile zone sw.holding
  let p := if h.2 = [] then placeWhile (zone - extents h.1) sw.pool else ([], sw.pool)
  (p.2.foldl (joinHolding cycle) { sw with holding := h.2, pool := [] }, h.1 ++ p.1)

/-! ## The carrying of S (R31) -/

/-- A carrying in progress: the octets left, whether a frame has not fitted, the frames placed. -/
structure Carry where
  left   : Nat
  full   : Bool
  placed : List Frame
  sw     : FrameSwitch
  deriving DecidableEq, Repr

/-- A frame of the carried cycle (R31). It is placed or discarded as it is read, so that a NO_ROOM
record of one frame may stand before the HOP_LIMIT record of a later one: the model's choice (log 13).
-/
def carryFrame (cycle : Half) (f : Frame) (x : Carry) : Carry :=
  if f.hop.toNat ≤ 1 then { x with sw := discardFrame cycle .hopLimit (.port .e) f x.sw }
  else if x.full || decide (x.left < extent f) then
    { x with full := true, sw := discardFrame cycle .noRoom (.port .e) (hopped f) x.sw }
  else { x with left := x.left - extent f, placed := x.placed ++ [hopped f] }

/-- One item of the carried zone (R31). -/
def carryItem (cycle : Half) (x : Carry) (i : ZoneItem) : Carry :=
  match i with
  | .badHeader => { x with sw := loseZone (discardBadHeader cycle (.port .e) x.sw) }
  | .tooLong h within =>
    let sw := discardFields cycle .tooLong (.port .e) h x.sw
    { x with sw := if within then sw else loseZone sw }
  | .truncated => { x with sw := loseZone x.sw }
  | .frame f => carryFrame cycle f x

/-- The frames carried from a received zone into one of `left` octets (R31). The zone is judged in one
pass: the NO_ROOM records of frames that do not fit join the list among the HOP_LIMIT, TOO_LONG and
HEADER_CHECK records of what stands behind them, in zone order. R31 does not say whether the placing
waits for the end of the reading, and which records R51 keeps depends on it: a DESIGN CHOICE (log 13).
-/
def carryZone (cycle : Half) (left : Nat) (zone : Octets) (sw : FrameSwitch) :
    FrameSwitch × List Frame :=
  let x := (zoneItems zone).foldl (carryItem cycle) { left, full := false, placed := [], sw }
  (x.sw, x.placed)

/-- The voice slots carried: those both cycles have, silence above (R31). -/
def carryVoice (u : Nat) (received : List Octets) : List Octets :=
  (List.range u).map fun k => received.getD k silence

end Sys2Proof.Machine
end

