-- ==== Sys2Proof/Machine/CycleOps.lean ====
section
/-! DEFINITION. Cycles in and out (01 section 1.4, 02 sections 2.2 and 2.3, 04 section 4.4): timing
lock and judgement of headers, the speech exchange, the cycles a node transmits. -/

namespace Sys2Proof.Machine

/-! ## Cycles sent -/

/-- A port's transmitter sends a cycle (R2). -/
def transmit (p : Port) (cycle : Octets) (s : State) : State :=
  match p with
  | .w => (s.modOut fun o => { o with txW := cycle }).modPeriod fun x => { x with fedW := true }
  | .e => (s.modOut fun o => { o with txE := cycle }).modPeriod fun x => { x with fedE := true }

/-- A cycle out of a port: FAR_END_FAULT reports the port's own receive side (R7). -/
def sendCycle (p : Port) (h : CycleHeader) (voice : List Octets) (fs : List Frame) (s : State) :
    State :=
  transmit p (encodeCycle { h with farEnd := rxFaulted (portAt s p) } voice fs) s

/-- The HOLDOVER header (R15). -/
def holdoverHeader (s : State) : CycleHeader :=
  { number := s.timer.number, origin := .holdover, masterAddr := s.timer.record.masterAddr, u := 0
    centreUp := false, farEnd := false }

/-- The regenerated header: the header record with the current number (R14). -/
def regeneratedHeader (s : State) : CycleHeader :=
  { number := s.timer.number, origin := s.timer.record.origin
    masterAddr := s.timer.record.masterAddr, u := s.timer.record.u
    centreUp := s.timer.record.centreUp, farEnd := false }

/-- The master's originated header (R18). -/
def masterHeader (s : State) : CycleHeader :=
  { number := s.timer.number, origin := .master, masterAddr := 1, u := octet (currentU s.alloc)
    centreUp := s.pins.uplinkUp, farEnd := false }

/-- A slave's own header (R17). -/
def ownHeader (s : State) : CycleHeader :=
  if s.timer.holdover then holdoverHeader s else regeneratedHeader s

/-- A cycle with a header, silence in every voice slot, an empty packet zone (R17, R30). -/
def sendEmpty (p : Port) (h : CycleHeader) (s : State) : State :=
  sendCycle p h (silentVoice h.u.toNat) [] s

/-- A cycle that carries transit and then adds (R56). -/
def sendFilled (p : Port) (h : CycleHeader) (voice : List Octets) (transit : List Frame) (s : State) :
    State :=
  let r := fillAdds (zoneSize h.u.toNat - extents transit) s
  sendCycle p h voice (transit ++ r.2) r.1

/-- The port's transmitter already has its cycle of this period. -/
def isFed (s : State) : Port → Bool
  | .w => s.period.fedW
  | .e => s.period.fedE

/-- A cycle of the node's own for a port whose transmitter has none yet; one already begun is completed
with its content (R2, R25). -/
def unlessFed (p : Port) (send : State → State) (s : State) : State :=
  if isFed s p then s else send s

/-! ## Speech (R78) -/

/-- The octets sent to a position in a cycle of `u` slots (R78). -/
def heard (u : Nat) (voice : List Octets) (e : Option SlotPair) : Octets :=
  match e with
  | none => silence
  | some p => if p.down.val < u then voice.getD p.down.val silence else silence

/-- The voice region with the positions' octets written (R78). -/
def spoken (s : State) (u : Nat) (voice : List Octets) : List Octets :=
  (indices 4).foldl (fun v q =>
    match bankEntry s q with
    | none => v
    | some p => if p.up.val < u then v.set p.up.val (s.pins.speechIn.get q) else v) voice

/-- The speech exchange of a processed cycle (R78): what the positions hear. -/
def exchangeSpeech (u : Nat) (voice : List Octets) (s : State) : State :=
  s.modOut fun o =>
    { o with speech := ⟨(indices 4).map fun q => heard u voice (bankEntry s q), by simp [indices]⟩ }

/-- Silence to every position (R78). -/
def silencePhones (s : State) : State := s.modOut fun o => { o with speech := .fill 4 silence }

/-! ## The judgement of processed headers (R13, R16) -/

/-- The judgements of R16. -/
inductive Judgement where
  | adoption | fresh | repeated
  deriving DecidableEq, Repr

/-- The judgement of a processed header, against the timer as it stood before (R16). -/
def judge (t : CycleTimer) (h : CycleHeader) : Judgement :=
  if t.adoptNext || t.holdover then .adoption
  else if h.origin ≠ t.record.origin ∨ h.masterAddr ≠ t.record.masterAddr then .adoption
  else if ahead h.number t.highWater then .fresh
  else if (t.highWater - h.number).toNat ≤ 255 then .repeated
  else .adoption

/-- The record a header leaves (R13). -/
def recordOf (h : CycleHeader) : HeaderRecord :=
  { origin := h.origin, masterAddr := h.masterAddr, u := h.u, centreUp := h.centreUp }

/-- A processed header locks a slave's timing and is judged (R13, R16). -/
def lockTiming (h : CycleHeader) (t : CycleTimer) : CycleTimer :=
  let locked :=
    { t with number := h.number, record := recordOf h, missing := 0, holdover := false
             adoptNext := false }
  match judge t h with
  | .repeated => { locked with repeatRun := t.repeatRun + 1 }
  | _ => { locked with highWater := h.number, repeatRun := 0, recirculating := false }

/-- The header sets the centre-header age to 0 (R20): origin MASTER, CENTRE_UP, the recirculation
flag off, and not about to be set by a repeat run of 256. -/
def qualifies (t : CycleTimer) (h : CycleHeader) : Bool :=
  h.origin == .master && h.centreUp && !t.recirculating && decide (t.repeatRun < 256)

/-- A slave takes a processed header: timing, age, reachability, a switch that has come due (R13,
R20, R87). That the switch is taken before a PLAN_UPDATE of the same cycle is the model's (log 13).
-/
def slaveHeader (h : CycleHeader) (s : State) : State :=
  let s := s.modTimer (lockTiming h)
  let q := qualifies s.timer h
  let s := s.modPeriod fun x => { x with processed := true, qualified := x.qualified || q }
  let s := if q then setAge 0 s else s
  switchIfDue hand (updateReach s)

/-- A slave's P processing of a cycle received on port `p`, its result out of port `out` (R17, R26
to R28, R42, R56, R78). -/
def slaveCycle (p out : Port) (h : CycleHeader) (cycle : Octets) (s : State) : State :=
  let u := h.u.toNat
  let s := slaveHeader h s
  let voice := voiceOf u cycle
  let s := exchangeSpeech u voice s
  let r := processZone p (zoneOf u cycle) s
  sendFilled out h (spoken s u voice) r.2 r.1

/-- The pass-through of S (R26): the header repeated, the rest octet for octet. -/
def passThrough (h : CycleHeader) (cycle : Octets) (s : State) : State :=
  transmit .w
    (encodeCycleHeader { h with farEnd := rxFaulted s.line.w } ++ (cycle.drop 10).take 1014) s

/-! ## The master (R18, R19, R30, R97, R102) -/

/-- The header is one the master originated itself (R19, R97). -/
def ownOriginated (s : State) (h : CycleHeader) : Bool :=
  h.origin == .master && h.masterAddr == 1 && decide ((s.timer.number - h.number).toNat < 1000)

/-- A processed header on the master: a second master is told, a header of its own has come round
(R19, R97). -/
def masterSees (h : CycleHeader) (s : State) : State :=
  if h.origin = .holdover then s
  else if ownOriginated s h then
    s.modAlloc fun a => { a with plans := a.plans.map (seenPlan h.number) }
  else
    changeCondition true condDuplicate true
      (s.modTimer fun t => { t with duplicate := some 0 })

/-- The lanes toward the centre after a processed cycle (R102). -/
def sendLanes (u : Nat) (voice : List Octets) (s : State) : State :=
  s.modLanes fun l =>
    { l with toCentre := ⟨(indices 48).map fun k =>
        if k.val < u then voice.getD k.val silence else silence, by simp [indices]⟩ }

/-- Silence on every lane toward the centre (R102). -/
def silenceLanes (s : State) : State := s.modLanes fun l => { l with toCentre := .fill 48 silence }

/-- The master's P processing of a cycle received on port `p` (R30, R42, R59, R79, R102): the
transit joins the fresh-transit pool. The header record of the master stands, which is the model's choice
(R13, log 45). -/
def masterCycle (p : Port) (h : CycleHeader) (cycle : Octets) (s : State) : State :=
  let u := h.u.toNat
  let s := (masterSees h s).modPeriod fun x => { x with processed := true }
  let voice := voiceOf u cycle
  let s := sendLanes u (spoken s u voice) (exchangeSpeech u voice s)
  let r := processZone p (zoneOf u cycle) s
  r.1.modSw fun sw => { sw with pool := sw.pool ++ r.2 }

/-- The master holds a received S cycle for carrying; one already held is discarded (R31). -/
def holdS (cycle : Octets) (s : State) : State :=
  (dropHeldS s).modProt fun p => { p with heldS := some cycle }

/-- The voice slots the master originates on its P output (R102). -/
def laneVoice (u : Nat) (s : State) : List Octets :=
  if s.pins.uplinkUp then s.lanes.fromCentre.data.take u else silentVoice u

/-- The cycle the master originates on its P output port (R56, R59, R102). -/
def originateP (p : Port) (s : State) : State :=
  let h := masterHeader s
  let t := placeTransit s.timer.number (zoneSize h.u.toNat) s.sw
  sendFilled p h (laneVoice h.u.toNat s) t.2 (s.modSw fun _ => t.1)

/-- The cycle the master originates at W in RING (R31): it carries the held S cycle. -/
def originateCarry (s : State) : State :=
  let h := masterHeader s
  match s.prot.heldS with
  | none => sendEmpty .w h s
  | some cycle =>
    let s := s.modProt fun p => { p with heldS := none }
    let u' := ((decodeCycleHeader cycle).map (·.u.toNat)).getD 0
    let r := carryZone s.timer.number (zoneSize h.u.toNat) (zoneOf u' cycle) s.sw
    sendCycle .w h (carryVoice h.u.toNat (voiceOf u' cycle)) r.2 (s.modSw fun _ => r.1)

/-- The next cycle number of a node's own timing (R14, R15, R18). -/
def nextNumber (s : State) : State := s.modTimer fun t => { t with number := t.number + 1 }

/-- The number of the cycle the master originates (R18): that with which the period began, and the next
one for a further cycle in the same period (log 12). -/
def takeNumber (s : State) : State :=
  (if s.period.originated then nextNumber s else s).modPeriod fun x => { x with originated := true }

/-- The master sends its cycle on both ports (R30). That the fill of the P output is made before the
S cycle is carried, which decides the order of their discards, is the model's (log 13). -/
def sendOriginated (s : State) : State :=
  match s.prot.state with
  | .ring => originateCarry (originateP .e s)
  | .wrapEast => sendEmpty .e (masterHeader s) (originateP .w s)
  | .wrapWest => sendEmpty .w (masterHeader s) (originateP .e s)
  | .isolated => sendEmpty .e (masterHeader s) (sendEmpty .w (masterHeader s) s)

/-- The master originates its next cycle on both ports (R18, R30). -/
def originate (s : State) : State := sendOriginated (takeNumber s)

/-! ## Received cycles (R13, R25 to R31) -/

/-- A slave's steering of a cycle whose header is valid, received on a port that is UP (R26 to
R29). -/
def slaveReceive (p : Port) (h : CycleHeader) (cycle : Octets) (s : State) : State :=
  match s.prot.state, p with
  | .ring, .w => slaveCycle .w .e h cycle s
  | .ring, .e => passThrough h cycle s
  | .wrapEast, .w => slaveCycle .w .w h cycle s
  | .wrapWest, .e => slaveCycle .e .e h cycle s
  | _, _ => s

/-- The master's steering of such a cycle (R30, R31). -/
def masterReceive (p : Port) (h : CycleHeader) (cycle : Octets) (s : State) : State :=
  match s.prot.state, p with
  | .ring, .w => masterCycle .w h cycle s
  | .ring, .e => holdS cycle s
  | .wrapEast, .w => masterCycle .w h cycle s
  | .wrapWest, .e => masterCycle .e h cycle s
  | _, _ => s

/-- The content of a received cycle, used when its header is valid and its port is UP (R3). -/
def receiveContent (p : Port) (cycle : Octets) (s : State) : State :=
  match (portAt s p).rx, decodeCycleHeader cycle with
  | .up, some h => if s.isMaster then masterReceive p h cycle s else slaveReceive p h cycle s
  | _, _ => s

/-- A received cycle: its content under the state in force as its header is taken (R25), then the
receive side of its port, with what follows (R4 to R9, log 18). An entry into ALIGNING notes the
cycle by the number as it stood before the header; on a slave whose number for that cycle is still to
come, that is the number of the cycle before, which is the model's choice (log 42). -/
def receiveCycle (p : Port) (cycle : Octets) (s : State) : State :=
  let number := s.timer.number
  changePort p (examineHeader number (decodeCycleHeader cycle)) (receiveContent p cycle s)

/-! ## Cycles of a slave without a processed header (R14, R15) -/

/-- The cycle of P processing without a received cycle: no transit, the node's own adds (R14, R15,
R56); in ISOLATED both ports send an empty cycle (R29). A port that has passed a cycle on under the
state before keeps it, and the adds wait (R25). -/
def sendOwn (s : State) : State :=
  let h := ownHeader s
  match outPort s.prot.state with
  | some p => unlessFed p (sendFilled p h (silentVoice h.u.toNat) []) s
  | none => unlessFed .e (sendEmpty .e h) (unlessFed .w (sendEmpty .w h) s)

/-- A cycle of holdover (R15): the number adds one and the cycle carries it. That the first after a
power-on therefore carries 1, and not the 0 of R23, is the model's (DEDUCED, log 12). -/
def holdoverCycleOf (s : State) : State := sendOwn (silencePhones (nextNumber s))

/-- The missing-cycle count reaches 4: the slave enters holdover (R14). -/
def enterHoldoverNow (s : State) : State :=
  holdoverCycleOf (s.modTimer fun t => enterHoldover { t with missing := 4 })

/-- A missing cycle (R14). -/
def missCycle (s : State) : State :=
  if 3 ≤ s.timer.missing then enterHoldoverNow s
  else sendOwn (silencePhones (nextNumber
    (s.modTimer fun t => { t with missing := t.missing + 1 })))

end Sys2Proof.Machine
end

