-- ==== Sys2Proof/Machine/WeatherOps.lean ====
section
/-! DEFINITION. The Weather Sampler's operations (08): the seven stages of a sample, channel
restarts, reports, the inputs. -/

namespace Sys2Proof.Machine

/-! ## Stage 1: rail samples and FAULT (R144, R145) -/

/-- A code the converter gives at a rail (R144). -/
def isRail (code : Nat) : Bool := code == 0 || code == 4095

/-- A rail sample (R144): the third in a row sets FAULT (R145). -/
def railSample (w : ChannelState) : ChannelState :=
  let run := min 3 (w.railRun + 1)
  if w.fault then { w with railRun := run, goodRun := 0 }
  else if run = 3 then { w with railRun := run, fault := true, highCount := 0, lowCount := 0 }
  else { w with railRun := run }

/-- A good sample (R144): during FAULT the third in a row clears it and empties the window (R145).
-/
def goodSample (w : ChannelState) : ChannelState :=
  let w := { w with railRun := 0 }
  if !w.fault then w
  else if w.goodRun + 1 < 3 then { w with goodRun := w.goodRun + 1 }
  else { w with fault := false, window := [], goodRun := 0 }

/-! ## Stages 2 to 5 (R147 to R150) -/

/-- The engineering value before it is clamped (R147). -/
def engineering (t : ChannelEntry) (raw : Nat) : Int :=
  (((raw : Int) - t.zero) * t.gain + 512) / 1024 + t.offset

/-- The range of the weather values (00 section 6). -/
def clampWx (x : Int) : Int := clampInt (-32768) 32767 x

/-- The window after a value joins it (R148). -/
def joinWindow (n : Nat) (window : List Int) (v : Int) : List Int :=
  let w := window ++ [v]
  w.drop (w.length - n)

/-- The short mean of a window: the nearest whole number, halves upward (R148). -/
def shortMean (window : List Int) : Int :=
  (2 * window.sum + window.length) / (2 * window.length)

/-- The long average after a short mean (R149). -/
def longAverage (shift : Nat) (l : Option Int) (m : Int) : Int :=
  match l with
  | none => m
  | some l => if shift = 0 then m else l + (m - l + 2 ^ (shift - 1)) / 2 ^ shift

/-- The extremes after a short mean (R150). -/
def joinExtremes (e : Option Extremes) (m : Int) : Extremes :=
  match e with
  | none => { peak := m, trough := m }
  | some e => { peak := max e.peak m, trough := min e.trough m }

/-! ## Stage 6: thresholds (R151, R152) -/

/-- A threshold after one evaluation: its flag and its persistence counter (R151). -/
def evalThreshold (k : Nat) (flag : Bool) (count : Nat) (met : Bool) : Bool × Nat :=
  if !met then (flag, 0) else if k ≤ count + 1 then (!flag, 0) else (flag, count + 1)

/-- HIGH after an evaluation at `x`; a disabled threshold is clear (R151, R152). -/
def evalHigh (t : ChannelEntry) (w : ChannelState) (x : Int) : Bool × Nat :=
  if !t.highEnable then (false, 0)
  else evalThreshold t.persist w.high w.highCount
    (if w.high then decide (x ≤ t.highClear) else decide (t.highSet ≤ x))

/-- LOW after an evaluation at `x` (R152). -/
def evalLow (t : ChannelEntry) (w : ChannelState) (x : Int) : Bool × Nat :=
  if !t.lowEnable then (false, 0)
  else evalThreshold t.persist w.low w.lowCount
    (if w.low then decide (t.lowClear ≤ x) else decide (x ≤ t.lowSet))

/-- Stages 2 to 6 of a sample with its raw value (R147 to R152). -/
def processSample (t : ChannelEntry) (raw : Nat) (w : ChannelState) : ChannelState :=
  let e := engineering t raw
  let v := clampWx e
  let window := joinWindow t.window w.window v
  let m := shortMean window
  let l := longAverage t.shift w.long m
  let x := if t.compareLong then l else m
  let h := evalHigh t w x
  let o := evalLow t w x
  { w with
    window, mean := some m, long := some l, extremes := some (joinExtremes w.extremes m)
    saturated := v != e, high := h.1, highCount := h.2, low := o.1, lowCount := o.2 }

/-- What stages 1 to 6 make of a sample: the working state, and what is counted (R158). -/
structure Sampled where
  work      : ChannelState
  rail      : Bool
  processed : Bool
  deriving DecidableEq, Repr

/-- Stages 1 to 6 of a sample of an analog source (R144, R145). -/
def sampleAnalog (t : ChannelEntry) (code : Nat) (w : ChannelState) : Sampled :=
  if isRail code then { work := railSample w, rail := true, processed := false }
  else
    let g := goodSample w
    if g.fault then { work := g, rail := false, processed := false }
    else { work := processSample t code g, rail := false, processed := true }

/-- Stages 1 to 6 of a sample of a pulse source (R146). -/
def samplePulse (t : ChannelEntry) (count : Nat) (w : ChannelState) : Sampled :=
  { work := processSample t count { w with railRun := 0 }, rail := false, processed := true }

/-! ## The sample of a channel (R143) -/

/-- A change of one channel's working state. -/
def setWork (c : Fin 16) (w : ChannelState) (s : State) : State :=
  s.modWx fun x => { x with work := x.work.set c w }

/-- The counts of a channel after stages 1 to 6 (R143 to R147). -/
def countSample (before : ChannelState) (r : Sampled) (n : ChannelCounts) : ChannelCounts :=
  { n with
    samples := bump n.samples
    rails := if r.rail then bump n.rails else n.rails
    faults := if !before.fault && r.work.fault then bump n.faults else n.faults
    saturated := if r.processed && r.work.saturated then bump n.saturated else n.saturated }

/-- The conditions of a channel follow its flags (R145, R152). -/
def channelConditions (judged : Bool) (c : Fin 16) (w : ChannelState) (s : State) : State :=
  changeConditions judged
    [(condFault c, w.fault), (condHigh c, w.high), (condLow c, w.low)] s

/-- The samples-to-report counter counts down, stopping at 0 (R153). -/
def countDown (t : ChannelEntry) (w : ChannelState) : ChannelState :=
  if t.interval = 0 then w else { w with toReport := w.toReport - 1 }

/-- The channel reports now: the counter stands at 0 and the node is LINKED (R153, R154). -/
def reportsNow (t : ChannelEntry) (w : ChannelState) (linked : Bool) : Bool :=
  t.interval != 0 && w.toReport == 0 && linked

/-- Stage 7 (R153 to R155). -/
def reportStage (c : Fin 16) (s : State) : State :=
  let t := s.wx.table.get c
  let w := countDown t (s.wx.work.get c)
  if reportsNow t w (reachable s) then
    let s := (sendToCentre .wx svcWx (octet c.val) (encodeWxRecord c w) s).1
    (setWork c { w with extremes := none, toReport := t.interval, since := 0 } s).modWx fun x =>
      { x with counts := x.counts.modify c fun n => { n with reports := bump n.reports } }
  else setWork c w s

/-- The raw reading of a source, and stages 1 to 6 with it (R144, R146). -/
def readSource (t : ChannelEntry) (w : ChannelState) (x : WeatherSampler) : Option Sampled :=
  match t.source with
  | .none => none
  | .ain k => some (sampleAnalog t (x.analog.get k).code.toNat w)
  | .pin k => some (samplePulse t (x.pulses.get k).count w)

/-- A pulse source is cleared as it is read (R140, R146). -/
def clearSource (src : WxSource) (x : WeatherSampler) : WeatherSampler :=
  match src with
  | .pin k => { x with pulses := x.pulses.modify k fun p => { p with count := 0 } }
  | _ => x

/-- The working state as a sample begins: the tick count back at 0, one sample more since the last
report (R143). -/
def beginSample (w : ChannelState) : ChannelState :=
  { w with ticks := 0, since := min 65535 (w.since + 1) }

/-- An enabled channel takes a sample (R143). -/
def takeSample (c : Fin 16) (s : State) : State :=
  let t := s.wx.table.get c
  let w := beginSample (s.wx.work.get c)
  match readSource t w s.wx with
  | none => s
  | some r =>
    let s := s.modWx fun x =>
      { clearSource t.source x with
        work := x.work.set c r.work, counts := x.counts.modify c (countSample w r) }
    reportStage c (channelConditions true c r.work s)

/-- A channel is due (R143): enabled, its tick count at its period. -/
def channelDue (s : State) (c : Fin 16) : Bool :=
  (s.wx.table.get c).source != .none && decide ((s.wx.table.get c).period ≤ (s.wx.work.get c).ticks)

/-! ## Restarts (R142, R160) -/

/-- A channel restart (R142). That it hands FAULT, HIGH and LOW in this order is the model's (log 13). -/
def restartChannel (judged : Bool) (c : Fin 16) (s : State) : State :=
  let w := ChannelState.restarted (s.wx.table.get c).interval
  channelConditions judged c w (setWork c w s)

/-- Every channel restarts (R160). That the channels are taken in ascending order is the model's (log
13). -/
def restartWeather (s : State) : State :=
  (indices 16).foldl (fun s c => restartChannel false c s) s

/-! ## The inputs (R139, R140) -/

/-- The converter sequence: every analog input into its buffer (R139). -/
def convertAll (ain : Tab (BitVec 12) 12) (bs : Tab AnalogBuffer 12) : Tab AnalogBuffer 12 :=
  ⟨(indices 12).map fun k => { code := ain.get k, conversions := bump (bs.get k).conversions },
    by simp [indices]⟩

/-- An enabled channel's tick count adds one at a sample tick (R143). -/
def tickChannel (t : ChannelEntry) (w : ChannelState) : ChannelState :=
  if t.source = .none then w else { w with ticks := w.ticks + 1 }

/-- A sample tick (R139, R143): the clock starts its next hundred periods. -/
def sampleTickNow (ain : Tab (BitVec 12) 12) (x : WeatherSampler) : WeatherSampler :=
  { x with
    clock := x.clock - 100
    analog := convertAll ain x.analog
    work := ⟨(indices 16).map fun c => tickChannel (x.table.get c) (x.work.get c),
      by simp [indices]⟩ }

/-- A pulse input's debounced level changes; a rise is counted, up to 65535 (R140). -/
def turnPulse (p : PulseInput) : PulseInput :=
  { level := !p.level, differ := 0, count := if p.level then p.count else min 65535 (p.count + 1) }

end Sys2Proof.Machine
end

