-- ==== Sys2Proof/Machine/TableOps.lean ====
section
/-! DEFINITION. READ (11 section 11.3, R201, R214): the tables of R201 and their entries, octet for
octet. Log 15 says where the manual leaves an encoding open. -/

namespace Sys2Proof.Machine

/-! ## Fields (R214) -/

/-- A number of one octet. -/
def n1 (n : Nat) : Octets := [octet n]
/-- A number of two octets. -/
def n2 (n : Nat) : Octets := octetsOf 2 n
/-- A number of four octets. -/
def n4 (n : Nat) : Octets := octetsOf 4 n
/-- A flag: 1 when set, 0 when clear. R214 encodes no flag, and the octet is the model's choice
(log 15). -/
def flag (b : Bool) : Octets := [if b then 1 else 0]
/-- A setting of on or off: an enumeration, numbered from 0 in that order (log 15). -/
def onOff (b : Bool) : Octets := [if b then 0 else 1]
/-- A setting of SET or CLEAR: an enumeration, numbered from 0 in that order (log 15). -/
def setClear (b : Bool) : Octets := [if b then 0 else 1]
/-- An optional field of one octet. -/
def opt1 (o : Option Nat) : Octets := [octet (o.getD 255)]
/-- An optional field of two octets: absent, it holds the greatest value of its octets, 65535,
whatever range the field has (log 15). -/
def opt2 (o : Option Nat) : Octets := flag o.isSome ++ n2 (o.getD 65535)
/-- An optional field of four octets. -/
def opt4 (o : Option Nat) : Octets := flag o.isSome ++ n4 (o.getD countMax)
/-- An optional signed field of two octets. -/
def optSigned (o : Option Int) : Octets := flag o.isSome ++ signed2 (o.getD 32767)

/-- Items that a field lists: a count, `n` places of `size` octets, fill after the items. -/
def listField (n size : Nat) (items : List Octets) : Octets :=
  let body := (items.take n).flatten
  n1 (items.take n).length ++ body ++ List.replicate (n * size - body.length) 0

/-! ## Enumerations, numbered from 0 in the order their chapters list them -/

def rxCode : RxState → Nat
  | .down => 0
  | .aligning => 1
  | .up => 2

def reasonOfPort : PortReason → Nat
  | .loss => 0
  | .align => 1
  | .headers => 2
  | .farEnd => 3

def protCode : ProtState → Nat
  | .ring => 0
  | .wrapEast => 1
  | .wrapWest => 2
  | .isolated => 3

def forcedCode : Option Port → Nat
  | none => 0
  | some .w => 1
  | some .e => 2

def placeCode : Place → Nat
  | .port .w => 0
  | .port .e => 1
  | .uplink => 2
  | .queue q => 3 + (queueIndex q).val
  | .holding => 10
  | .allQueues => 11

def callCode : CallState → Nat
  | .idle => 0
  | .requesting => 1
  | .waiting => 2
  | .talking => 3
  | .held => 4
  | .ringing => 5
  | .clearing => 6
  | .dropped => 7

def toneCode : Tone → Nat
  | .none => 0
  | .hold => 1
  | .ended => 2
  | .ring => 3

def phaseCode : CallPhase → Nat
  | .planning => 0
  | .inForce => 1
  | .releasing => 2

/-- The verdicts a journal record may hold, in R126's order. -/
def journalVerdictCode : Verdict → Nat
  | .provisional => 0
  | .declinedLocal => 1
  | _ => 2

def sourceCode : WxSource → Nat
  | .none => 0
  | .ain k => 1 + k.val
  | .pin k => 13 + k.val

/-- The source of a selection in a SIGN status frame (R213). -/
def signSourceCode : SignSource → Nat
  | .default => 0
  | .centre => 1
  | .rule _ => 2
  | .test => 3

/-- The source of a selection in the sign status table, in R181's order (R214). -/
def selectionSource : SignSource → Nat
  | .centre => 0
  | .rule _ => 1
  | .test => 2
  | .default => 3

/-- The index of a RULE source. -/
def signRuleIndex : SignSource → Option Nat
  | .rule k => some k.val
  | _ => none

def senderCode : SenderState → Nat
  | .idle => 0
  | .sending => 1
  | .awaiting => 2

/-- The exchange in progress: a page transfer or a poll, in the order of 10 section 10.5; none is
absent (R214). -/
def exchangeCode : Exchange → Option Nat
  | .none => none
  | .transfer _ _ => some 0
  | .poll => some 1

/-! ## Entries -/

/-- Line status (01 section 1.2). No rule states a range for the error and far-end runs, and the four
octets of each are the model's reading (log 15). -/
def lineEntry (p : LinePort) : Octets :=
  n1 (rxCode p.rx) ++ octets2 p.entryCycle ++ n1 (if p.entryFrom = .fromDown then 0 else 1) ++
  n1 p.alignRun ++ n4 p.errorRun ++ n4 p.farEndRun ++ flag p.faulted ++
  n1 (reasonOfPort p.reason) ++ n4 p.headerErrors ++ n4 p.portFaults ++ n4 p.portRecoveries

/-- Protection status (R39). The centre-header age of a master, which R20 gives to slaves alone, reads
16: the model's choice (log 41). -/
def protectionEntry (s : State) : Octets :=
  n1 (protCode s.prot.state) ++ n1 (forcedCode s.prot.forced) ++
  n1 (if s.prot.linked then 0 else 1) ++ n1 s.prot.age ++ flag s.timer.holdover ++
  n4 s.prot.changes ++ n4 s.prot.isolations

/-- Frame Switch status (R61). The holding buffer's occupancy, which R61 gives on the master, reads 0
on a slave, whose buffer is always empty (R60): the model's choice (log 15). -/
def switchEntry (sw : FrameSwitch) : Octets :=
  sw.discards.data.flatMap n4 ++ n4 sw.zoneLost ++ n4 sw.stripped ++ n4 sw.taken ++
  n4 sw.toCentre ++ n4 sw.copies ++ n4 sw.passed ++ sw.added.data.flatMap n4 ++
  (allQueues.flatMap fun q => n1 (queueFrames sw q).length) ++ n2 sw.budget ++
  n2 (extents sw.holding) ++ n1 sw.holding.length

/-- A discard record (R50). No rule states a range for the number of frames flushed, and its two octets
are the model's reading (log 15). -/
def discardEntry (r : DiscardRecord) : Octets :=
  n1 (reasonIndex r.reason).val ++ n1 (placeCode r.place) ++ octets2 r.cycle ++
  opt1 (r.fields.map (·.dest.toNat)) ++ opt1 (r.fields.map (·.source.toNat)) ++
  opt1 (r.fields.map (·.service.toNat)) ++ opt1 (r.fields.map (·.channel.toNat)) ++
  opt1 (r.fields.map (·.hop.toNat)) ++ opt2 (r.fields.map (·.length)) ++ opt2 r.flushed

/-- Phone status of a position (R82). -/
def phoneEntry (s : State) (q : Fin 4) : Octets :=
  let p := posAt s q
  let e := bankEntry s q
  n1 (callCode p.call) ++ n1 (toneCode (toneOf p.call)) ++
  n1 (if p.debounced = .on then 0 else 1) ++ flag p.priority ++ flag p.resume ++ flag p.answer ++
  opt1 p.place ++ opt1 (e.map (·.up.val)) ++ opt1 (e.map (·.down.val))

/-- Plan status (R103). -/
def planStatusEntry (p : PhoneInterface) : Octets :=
  flag p.activeIsB ++ [p.active.version] ++ encodeEntries p.active.entries ++
  flag p.pendingAt.isSome ++ opt1 (p.pendingAt.map fun _ => p.standby.version.toNat) ++
  opt2 (p.pendingAt.map (·.toNat)) ++ flag p.cleared

/-- A slot of the slot table (R89, R103). -/
def slotEntry : SlotState → Octets
  | .free => n1 0 ++ opt1 none ++ opt1 none
  | .held n mark => n1 1 ++ opt1 (some (n.val + 1)) ++ onOff mark

/-- A place of the call table (R90, R103). An empty place has every field absent, which is the model's
reading (log 15). -/
def callTableEntry (e : Option CallEntry) : Octets :=
  opt1 (e.map (·.node.val + 1)) ++ opt1 (e.map (·.position.val)) ++
  opt1 (e.map (·.slots.up.val)) ++ opt1 (e.map (·.slots.down.val)) ++
  opt1 (e.map fun e => if e.priority then 0 else 1) ++ opt1 (e.map fun e => phaseCode e.phase) ++
  opt2 (e.map (·.age))

/-- A request of the waiting queue (R90). -/
def waitingEntry (w : WaitingEntry) : Octets :=
  n1 (w.node.val + 1) ++ n1 w.position.val ++ n1 (if w.priority then 0 else 1)

/-- A plan record (R91). A stopped absent quarantine timer reads as an absent field, presence octet 0
and then 65535, which R91, R103 and R104 do not say and is the model's reading (log 15). -/
def planRecordEntry (r : PlanRecord) : Octets :=
  [r.lastIssued, r.accepted.version] ++ octets2 r.accepted.switchCycle ++
  encodeEntries r.accepted.entries ++ flag r.comeRound ++
  opt1 (r.inFlight.map (·.plan.version.toNat)) ++ opt2 (r.inFlight.map (·.plan.switchCycle.toNat)) ++
  ((r.inFlight.map fun f => encodeEntries f.plan.entries).getD (List.replicate 8 0xFF)) ++
  opt1 (r.inFlight.map (·.sends)) ++ flag r.absent ++ opt2 r.quarantine

/-- A key: lane and transaction number. -/
def keyField (k : TollKey) : Octets := k.lane :: octets4 k.txn

/-- A pending entry in the toll status (R125). -/
def pendingField (p : PendingToll) : Octets := keyField p.key ++ octets2 p.arrival ++ n2 p.timer

/-- The counts of R125, in its order. -/
def tollCounts (t : TollRelay) : List Nat :=
  [t.receivedCharge, t.blockLength, t.blockCheck, t.blockKind, t.rejected, t.duplicates,
   t.forwarded, t.liveRefused, t.pendingFull, t.timeouts, t.localAnswers, t.detachAnswers,
   t.restartMoved, t.answeredByCentre, t.lateSettled, t.unmatched, t.tollIgnored,
   t.reportsForwarded, t.reportsDropped, t.answersDropped]

/-- The counts of R138, in its order. -/
def journalCounts (j : TollJournal) : List Nat :=
  [j.journalLost, j.settledFromJournal, j.settledUnmatched, j.deferredSent, j.drainRefused,
   j.inflightTimeouts, j.verdictSet]

/-- Toll status: the Toll Relay's part, then the journal's (R125, R138). -/
def tollStatusEntry (t : TollRelay) (j : TollJournal) : Octets :=
  listField 16 9 (t.pendingTable.map pendingField) ++ n1 t.answers.length ++ n2 t.tToll ++
  (tollCounts t).flatMap n4 ++ n2 j.records.length ++
  n2 (j.records.length - inFlightCount j) ++ n1 (inFlightCount j) ++
  opt4 (j.records.head?.map (·.journalledAt)) ++ n1 j.drain ++ (journalCounts j).flatMap n4

/-- A journal record (R126, R127). -/
def journalEntry (r : JournalRecord) : Octets :=
  keyField r.key ++ r.block ++ n1 (journalVerdictCode r.verdict) ++ n4 r.journalledAt ++
  n1 r.offers ++ flag r.inFlight.isSome ++ opt2 r.inFlight

/-- A channel table entry (R141). -/
def channelEntry (t : ChannelEntry) : Octets :=
  n1 (sourceCode t.source) ++ n2 t.period ++ n2 t.zero ++ signed2 t.gain ++ signed2 t.offset ++
  n1 t.window ++ n1 t.shift ++ flag t.compareLong ++ signed2 t.highSet ++ signed2 t.highClear ++
  signed2 t.lowSet ++ signed2 t.lowClear ++ onOff t.highEnable ++ onOff t.lowEnable ++
  n1 t.persist ++ n2 t.interval

/-- An analog input (R158); a pulse input's fields are absent. -/
def analogEntry (b : AnalogBuffer) : Octets :=
  opt2 (some b.code.toNat) ++ opt4 (some b.conversions) ++ opt1 none ++ opt2 none

/-- A pulse input (R158); an analog input's fields are absent. -/
def pulseEntry (p : PulseInput) : Octets :=
  opt2 none ++ opt4 none ++ opt1 (some (if p.level then 1 else 0)) ++ opt2 (some p.count)

/-- The weather status of a channel (R158). The window has 16 places on every channel, whatever its N,
which is the model's reading (log 15). -/
def weatherEntry (w : ChannelState) : Octets :=
  listField 16 2 (w.window.map signed2) ++ optSigned w.mean ++ optSigned w.long ++
  optSigned (w.extremes.map (·.peak)) ++ optSigned (w.extremes.map (·.trough)) ++
  flag w.high ++ flag w.low ++ n1 w.highCount ++ n1 w.lowCount ++ n1 w.railRun ++ n1 w.goodRun ++
  flag w.fault ++ flag w.saturated ++ n2 w.ticks ++ n2 w.toReport ++ n2 w.since

/-- An event table entry (R163). -/
def eventEntry (e : EventSetting) : Octets := n1 e.level ++ onOff e.fall

/-- A pending event (R164). -/
def pendingEventEntry (e : PendingEvent) : Octets :=
  n1 e.condition.val ++ n1 (if e.rise then 0 else 1) ++ n1 e.level ++ n4 e.stamp ++ n1 e.repeats

/-- A sign rule (R176). -/
def ruleEntry (r : SignRule) : Octets :=
  n1 r.condA.val ++ setClear r.senseA ++ opt1 (r.condB.map (·.val)) ++
  (if r.condB.isSome then setClear r.senseB else opt1 none) ++
  n1 r.page.val ++ n1 r.priority ++ onOff r.enabled

/-- A segment (R185). -/
def segmentField (g : Segment) : Octets := n2 g.block ++ n2 g.length ++ n1 g.endMark

/-- A page table entry: its segments, none for a page without descriptor (R185). -/
def pageEntry (d : Option Descriptor) : Octets := listField 8 5 ((d.getD []).map segmentField)

/-- Sign status (R194). While the hold timer is stopped the elapsed hold reads as an absent field, and
the test request is sent as its page and its elapsed time, without the priority 1 that every test
request has (R180): both are the model's readings (log 15). -/
def signStatusEntry (copy : Tab Bool 64) (g : SignController) : Octets :=
  let x := g.sender
  n1 g.selection.page.val ++ n1 g.selection.priority ++ n1 (selectionSource g.selection.source) ++
  opt1 (signRuleIndex g.selection.source) ++ opt4 g.hold ++ flag g.stale ++
  opt1 (g.centre.map (·.page.val)) ++ opt1 (g.centre.map (·.priority)) ++
  opt2 (g.centre.map (·.lifetime)) ++ opt4 (g.centre.map (·.elapsed)) ++
  opt1 (g.test.map (·.page.val)) ++ opt2 (g.test.map (·.elapsed)) ++
  (g.rules.data.flatMap fun r => flag (ruleActive copy g r)) ++
  n1 (senderCode x.state) ++ opt1 (exchangeCode x.exchange) ++
  (match x.exchange with
   | .transfer p a => opt1 (some p.val) ++ opt1 (some a)
   | _ => opt1 none ++ opt1 none) ++
  flag x.owed ++ flag x.undelivered ++ opt1 (x.displayed.map (·.val)) ++ octets2 x.faultFlags ++
  opt1 (x.lastReject.map (·.toNat)) ++ n1 x.missedPolls ++ flag x.signFail

/-- The walk record of the master (R210). No rule says how a walk that is IDLE reads: its stopped timer
is sent as an absent field, presence octet 0 and then 65535, and its other items as they last stood. Nor
does one say what stands there on a slave, which has no walk record: every item is absent. All of this
is the model's reading (log 15). -/
def walkField (s : State) : Octets :=
  let w := if s.isMaster then some s.agent.walk else none
  opt1 (w.map fun w => if w.running then 1 else 0) ++ opt1 (w.map (·.onOffer.toNat)) ++
  opt1 (w.map (·.given)) ++ opt2 (w.bind (·.timer)) ++ opt2 (w.map (·.head.tag.toNat)) ++
  opt1 (w.map (·.head.source.toNat))

/-- The counts of R210, in its order. -/
def agentCounts (a : Agent) : List Nat :=
  [a.requestsExecuted, a.requestsDropped, a.requestsFlushed, a.responsesSent, a.fieldRequests,
   a.mgmtIgnored, a.walks, a.walkTimeouts, a.addressesTaken]

/-- Agent status (R210). How its walk record reads on a slave, and while the walk is IDLE, is the
model's (log 15). -/
def agentEntry (s : State) : Octets :=
  let a := s.agent
  opt1 (a.address.map (·.toNat)) ++ flag a.address.isSome ++ flag a.fieldLock ++
  n1 a.requests.length ++ walkField s ++ (agentCounts a).flatMap n4

/-! ## The tables (R201) -/

/-- A table: its first index, the number of its indices, the entries present, its entries by
distance from the first index. -/
structure Table where
  lo      : Nat
  size    : Nat
  present : Nat
  entry   : Nat → Octets

/-- A table of one entry, index 0. -/
def single (e : Octets) : Table := { lo := 0, size := 1, present := 1, entry := fun _ => e }

/-- A table of a fixed number of entries. -/
def fixed {α : Type} (lo size : Nat) (xs : List α) (f : α → Octets) : Table :=
  { lo, size, present := size, entry := fun i => ((xs[i]?).map f).getD [] }

/-- A table that keeps a list of varying length. -/
def varying {α : Type} (size : Nat) (xs : List α) (f : α → Octets) : Table :=
  { lo := 0, size, present := xs.length, entry := fun i => ((xs[i]?).map f).getD [] }

/-- The tables, numbered from 1 in the order of R201 (R214). -/
def tableOf (s : State) (table : Nat) : Option Table :=
  match table with
  | 1 => some (fixed 0 2 [s.line.w, s.line.e] lineEntry)
  | 2 => some (single (n1 s.line.wtrSeconds ++ n2 s.sw.budget))
  | 3 => some (single (protectionEntry s))
  | 4 => some (single (switchEntry s.sw))
  | 5 => some (varying 8 s.sw.records discardEntry)
  | 6 => some (varying 32 s.sw.accept fun p => [p.1, p.2])
  | 7 => some (fixed 0 4 (indices 4) (phoneEntry s))
  | 8 => some (single (planStatusEntry s.phone))
  | 9 => some (fixed 0 48 s.alloc.slots.data slotEntry)
  | 10 => some (fixed 0 24 (List.range 24) fun i => callTableEntry s.alloc.calls[i]?)
  | 11 => some (varying 32 s.alloc.waiting waitingEntry)
  | 12 => some (fixed 1 240 s.alloc.plans.data planRecordEntry)
  | 13 => some (single (n1 s.alloc.capacity ++ n1 (currentU s.alloc)))
  | 14 => some (single (n2 s.toll.tToll ++ n1 s.journal.drain))
  | 15 => some (fixed 1 7 s.toll.classes.data flag)
  | 16 => some (single (tollStatusEntry s.toll s.journal))
  | 17 => some (varying 256 s.toll.deny fun t => octetsOf 12 t.toNat)
  | 18 => some (varying 512 s.journal.records journalEntry)
  | 19 => some (fixed 0 16 s.wx.table.data channelEntry)
  | 20 => some (fixed 0 16
      (s.wx.analog.data.map analogEntry ++ s.wx.pulses.data.map pulseEntry) id)
  | 21 => some (fixed 0 16 s.wx.work.data weatherEntry)
  | 22 => some (fixed 0 64 s.cond.copy.data flag)
  | 23 => some (fixed 0 64 s.cond.table.data eventEntry)
  | 24 => some (varying 128 s.cond.events pendingEventEntry)
  | 25 => some (single (n1 s.cond.mask))
  | 26 => some (fixed 0 16 s.sign.rules.data ruleEntry)
  | 27 => some (fixed 1 63 s.sign.pages.data pageEntry)
  | 28 => some (fixed 0 512 (List.range 512) fun b => storeSlice s.sign.store (b * 64) 64)
  | 29 => some (single (n1 s.sign.holdSeconds ++ n2 s.sign.answerLimit))
  | 30 => some (single (signStatusEntry s.cond.copy s.sign))
  | 31 => some (single (agentEntry s))
  | _ => none

/-- The entries that fit whole into `room` octets. -/
def takeFit (room : Nat) : List Octets → List Octets
  | [] => []
  | e :: rest => if e.length ≤ room then e :: takeFit (room - e.length) rest else []

/-- The octets of a READ_DATA payload that entries may fill: 496 less the eight before them
(R214). -/
def readRoom : Nat := 488

/-- READ_DATA with entries (R214). -/
def readData (table first present : Nat) (entries : List Octets) : Result :=
  .data (octet table) (BitVec.ofNat 16 first) entries.length present entries.flatten

/-- READ of a table that exists, from the distance `k` on (R201). -/
def readFrom (t : Table) (table first count : Nat) : Result :=
  let k := first - t.lo
  readData table first t.present
    (takeFit readRoom ((List.range (min count (t.present - k))).map fun i => t.entry (k + i)))

/-- READ (R201). -/
def readTable (s : State) (table first count : Nat) : Result :=
  match tableOf s table with
  | none => refusal .badTable
  | some t =>
    if first < t.lo ∨ t.lo + t.size ≤ first then refusal .badIndex
    else readFrom t table first count

/-! ## IDENTIFY and WX_READ (R204, R156) -/

/-- The entry of IDENTIFY (R214). -/
def identity (s : State) : Octets :=
  octetsOf 6 Config.serial.toNat ++ octets2 Config.modelCode ++ [Config.revision] ++
  [s.agent.address.getD 0,
   (if s.agent.address.isSome then 1 else 0) ||| (if s.isMaster then 2 else 0)]

/-- A READ_DATA of a command that names no table: the table and the first index are free values (log
8). -/
def untabled (entries : List Octets) (s : State) : Result :=
  .data (openChannel s) (Config.openHalf s.openIndex) entries.length entries.length entries.flatten

/-- The result of IDENTIFY (R204). -/
def identifyResult (s : State) : Result := untabled [identity s] s

/-- The report records of the enabled channels, ascending (R156). -/
def wxRecords (s : State) : List Octets :=
  (indices 16).filterMap fun c =>
    if (s.wx.table.get c).source = .none then none else some (encodeWxRecord c (s.wx.work.get c))

/-- The result of WX_READ (R156). -/
def wxReadResult (s : State) : Result := untabled (wxRecords s) s

end Sys2Proof.Machine
end

