-- ==== Sys2Proof/Machine/WriteOps.lean ====
section
/-! DEFINITION. WRITE (R202) as the owner of each table takes it, COUNTS_CLEAR (R204), RESTART
(R205). -/

namespace Sys2Proof.Machine

/-! ## The validation of a WRITE (R202) -/

/-- The first failing entry, with its index: each entry checked for its index, then by its owner
(R202 step 3). -/
def firstFailure {α : Type} (lo size : Nat) (check : Nat → α → Option Reason) :
    Nat → List α → Option (Reason × Nat)
  | _, [] => none
  | i, e :: rest =>
    if i < lo ∨ lo + size ≤ i then some (.badIndex, i)
    else match check i e with
      | some r => some (r, i)
      | none => firstFailure lo size check (i + 1) rest

/-- The result of a WRITE of entries from `first` on, and the state when it passes (R202). -/
def writeEntries {α : Type} (lo size first : Nat) (check : Nat → α → Option Reason)
    (store : State → State) (entries : List α) (s : State) : State × Result :=
  if entries.isEmpty then (s, refusal .badValue)
  else match firstFailure lo size check first entries with
    | some f => (s, .refused f.1 f.2)
    | none => (store s, .done 0)

/-- No entry is refused for its fields. -/
def noCheck {α : Type} : Nat → α → Option Reason := fun _ _ => none

/-- Entries stored one after another, from an index on. -/
def storeFrom {α : Type} (put : Nat → α → State → State) : Nat → List α → State → State
  | _, [], s => s
  | i, e :: rest, s => storeFrom put (i + 1) rest (put i e s)

/-- A table entry replaced at a number; a number outside the table changes nothing. -/
def setAt {α : Type} {n : Nat} (t : Tab α n) (i : Nat) (x : α) : Tab α n :=
  if h : i < n then t.set ⟨i, h⟩ x else t

/-- A number within a range, from what was written (00 section 6). -/
def clamped (lo hi : Nat) (x : Int) : Nat := (clampInt lo hi x).toNat

/-! ## Settings (R12, R58, R115, R132, R183, R187) -/

/-- WTR and B (R12, R58). An offer is judged against the new B at once, the fill of the next cycle
too: the first is the model's choice (log 48). -/
def putRing (e : Int × Int) (s : State) : State :=
  (s.modLine fun l => { l with wtrSeconds := clamped 1 60 e.1 }).modSw fun sw =>
    { sw with budget := clamped 64 1008 e.2 }

/-- A WRITE of the ring settings. -/
def writeRing (first : Nat) (entries : List (Int × Int)) (s : State) : State × Result :=
  writeEntries 0 1 first noCheck (storeFrom (fun _ => putRing) first entries) entries s

/-- T_toll and D (R115, R132). -/
def putToll (e : Int × Int) (s : State) : State :=
  (s.modToll fun t => { t with tToll := clamped 50 2000 e.1 }).modJournal fun j =>
    { j with drain := clamped 1 8 e.2 }

/-- A WRITE of the toll settings. -/
def writeToll (first : Nat) (entries : List (Int × Int)) (s : State) : State × Result :=
  writeEntries 0 1 first noCheck (storeFrom (fun _ => putToll) first entries) entries s

/-- H and A (R183, R187). -/
def putSign (e : Int × Int) (s : State) : State :=
  s.modSign fun g => { g with holdSeconds := clamped 0 255 e.1, answerLimit := clamped 100 2000 e.2 }

/-- A WRITE of the sign settings. -/
def writeSign (first : Nat) (entries : List (Int × Int)) (s : State) : State × Result :=
  writeEntries 0 1 first noCheck (storeFrom (fun _ => putSign) first entries) entries s

/-! ## The class table (R117) -/

/-- A class value that is neither verdict is refused (R117). -/
def checkClass (_ : Nat) (v : Nat) : Option Reason := if 1 < v then some .badValue else none

/-- The verdict of a class: 1 is DECLINED_LOCAL (log 15). -/
def putClass (i v : Nat) (s : State) : State :=
  s.modToll fun t => { t with classes := setAt t.classes (i - 1) (v == 1) }

/-- A WRITE of the class table. -/
def writeClasses (first : Nat) (entries : List Nat) (s : State) : State × Result :=
  writeEntries 1 7 first checkClass (storeFrom putClass first entries) entries s

/-! ## The channel table (R141, R142) -/

/-- The source a number names, in R141's order. -/
def sourceOf (n : Nat) : Option WxSource :=
  if n = 0 then some .none
  else if h : n - 1 < 12 then some (.ain ⟨n - 1, h⟩)
  else if h : n - 13 < 4 then some (.pin ⟨n - 13, h⟩)
  else none

/-- A channel entry's refused fields (R141). -/
def checkChannel (_ : Nat) (e : ChannelWrite) : Option Reason :=
  if (sourceOf e.source).isNone ∨ 1 < e.compare ∨ 1 < e.highEnable ∨ 1 < e.lowEnable then
    some .badValue
  else none

/-- A channel entry as it is stored: clamped, then crossed levels collapsed (R141). -/
def storedChannel (e : ChannelWrite) : ChannelEntry :=
  { source := (sourceOf e.source).getD .none
    period := clamped 1 600 e.period
    zero := clamped 0 4095 e.zero
    gain := clampWx e.gain
    offset := clampWx e.offset
    window := clamped 1 16 e.window
    shift := clamped 0 8 e.shift
    compareLong := e.compare == 1
    highSet := clampWx e.highSet
    highClear := min (clampWx e.highClear) (clampWx e.highSet)
    lowSet := clampWx e.lowSet
    lowClear := max (clampWx e.lowClear) (clampWx e.lowSet)
    highEnable := e.highEnable == 0
    lowEnable := e.lowEnable == 0
    persist := clamped 1 15 e.persist
    interval := clamped 0 65535 e.interval }

/-- A channel entry stored, and its channel restarted (R142). -/
def putChannel (i : Nat) (e : ChannelWrite) (s : State) : State :=
  if h : i < 16 then
    restartChannel true ⟨i, h⟩
      (s.modWx fun x => { x with table := x.table.set ⟨i, h⟩ (storedChannel e) })
  else s

/-- A WRITE of the channel table. -/
def writeChannels (first : Nat) (entries : List ChannelWrite) (s : State) : State × Result :=
  writeEntries 0 16 first checkChannel (storeFrom putChannel first entries) entries s

/-! ## The event table (R163) -/

/-- A FALL value other than on or off is refused (R163). -/
def checkEvent (_ : Nat) (e : Nat × Nat) : Option Reason :=
  if 1 < e.2 then some .badValue else none

/-- An event table entry as it is stored (R163). -/
def putEvent (i : Nat) (e : Nat × Nat) (s : State) : State :=
  s.modCond fun u =>
    let x : EventSetting :=
      { level := if 50 ≤ i ∧ i ≤ 55 then 7 else min e.1 7, fall := e.2 == 0 }
    { u with table := setAt u.table i x }

/-- A WRITE of the event table. -/
def writeEvents (first : Nat) (entries : List (Nat × Nat)) (s : State) : State × Result :=
  writeEntries 0 64 first checkEvent (storeFrom putEvent first entries) entries s

/-! ## Sign rules, pages, page store (R176, R185, R186) -/

/-- A condition number. -/
def condOf (n : Nat) : Option (Fin 64) := if h : n < 64 then some ⟨n, h⟩ else none

/-- The sense of B of a sign rule is refused: neither SET nor CLEAR, nor, where B is absent, the 0xFF
of an absent field (R176, R214, log 15). -/
def senseBRefused (e : RuleWrite) : Bool :=
  decide (1 < e.senseB) && (e.condB.isSome || e.senseB != 255)

/-- A sign rule's refused fields (R176). -/
def checkRule (_ : Nat) (e : RuleWrite) : Option Reason :=
  if 63 < e.condA ∨ 1 < e.senseA ∨ (e.condB.any fun c => decide (63 < c)) ∨ senseBRefused e ∨
      e.page = 0 ∨ 63 < e.page ∨ 1 < e.enabled then some .badValue
  else none

/-- A sign rule as it is stored (R176). -/
def storedRule (e : RuleWrite) : SignRule :=
  { condA := (condOf e.condA).getD 0
    senseA := e.senseA == 0
    condB := e.condB.bind condOf
    senseB := e.condB.isNone || e.senseB == 0
    page := (pageNumber e.page).getD 1
    priority := clamped 1 6 e.priority
    enabled := e.enabled == 0 }

/-- A sign rule stored. -/
def putRule (i : Nat) (e : RuleWrite) (s : State) : State :=
  s.modSign fun g => { g with rules := setAt g.rules i (storedRule e) }

/-- A re-evaluation of the sign that honours the hold (R184). -/
def reevaluateSign (s : State) : State := s.modSign (reevaluate s.cond.copy false)

/-- A WRITE of the sign rules: one re-evaluation (R176, R184). -/
def writeRules (first : Nat) (entries : List RuleWrite) (s : State) : State × Result :=
  writeEntries 0 16 first checkRule
    (fun s => reevaluateSign (storeFrom putRule first entries s)) entries s

/-- A page entry: a descriptor that is not valid is refused; so is one of the page being sent
(R185). -/
def checkPage (g : SignController) (i : Nat) (d : List Segment) : Option Reason :=
  if d ≠ [] ∧ descriptorValid d = false then some .badValue
  else if (pageBeingSent g).any fun p => p.val == i then some .busy
  else none

/-- A page's descriptor stored, or removed by an entry with no segments (R185). -/
def putPage (i : Nat) (d : List Segment) (s : State) : State :=
  s.modSign fun g =>
    { g with pages := setAt g.pages (i - 1) (if d = [] then none else some d) }

/-- The entries store a descriptor for a page. -/
def writesPage (first : Nat) (entries : List (List Segment)) (p : Fin 64) : Bool :=
  decide (first ≤ p.val) && decide (((entries[p.val - first]?).getD []) ≠ [])

/-- After the re-evaluation of a page table WRITE: a selected page that was written is stale and
owed again (R185). -/
def staleIfWritten (first : Nat) (entries : List (List Segment)) (before : Fin 64)
    (g : SignController) : SignController :=
  if writesPage first entries before ∧ g.selection.page = before then
    oweSelection { g with stale := true }
  else g

/-- A WRITE of the page table (R185). -/
def writePages (first : Nat) (entries : List (List Segment)) (s : State) : State × Result :=
  writeEntries 1 63 first (checkPage s.sign)
    (fun s =>
      let before := s.sign.selection.page
      (reevaluateSign (storeFrom putPage first entries s)).modSign
        (staleIfWritten first entries before))
    entries s

/-- A page store block: 64 octets, and not under the page being sent (R186). -/
def checkBlock (g : SignController) (i : Nat) (b : Octets) : Option Reason :=
  if b.length ≠ 64 then some .badValue else if blockBusy g i then some .busy else none

/-- A block stored (R186). -/
def putBlock (i : Nat) (b : Octets) (s : State) : State :=
  s.modSign fun g => { g with store := storeWriteAll g.store (i * 64) b }

/-- A WRITE of the page store (R186). -/
def writeBlocks (first : Nat) (blocks : List Octets) (s : State) : State × Result :=
  writeEntries 0 512 first (checkBlock s.sign) (storeFrom putBlock first blocks) blocks s

/-! ## WRITE of any table -/

/-- A command that carries the entries of a WRITE already read, taken by its table's owner. -/
def writeByRow (i : Instr) (s : State) : State × Result :=
  match i with
  | .writeRingSettings _ first es => writeRing first es s
  | .writeTollSettings _ first es => writeToll first es s
  | .writeClassTable _ first es => writeClasses first es s
  | .writeChannelTable _ first es => writeChannels first es s
  | .writeEventTable _ first es => writeEvents first es s
  | .writeSignRules _ first es => writeRules first es s
  | .writePageTable _ first es => writePages first es s
  | .writePageStore _ first bs => writeBlocks first bs s
  | .writeSignSettings _ first es => writeSign first es s
  | _ => (s, refusal .badTable)

/-- A WRITE by table number and octets: a table that is absent or not writable is refused with
BAD_TABLE (R202), octets that are no whole entries cannot be read (R200). -/
def writeTable (h : Head) (table first count : Nat) (raw : Octets) (s : State) : State × Result :=
  match writeEntrySize table with
  | none => (s, refusal .badTable)
  | some k =>
    if raw.length = k * count then writeByRow (writeInstr h table first count raw) s
    else (s, refusal .badValue)

/-! ## COUNTS_CLEAR (R204) -/

def clearPort (p : LinePort) : LinePort :=
  { p with headerErrors := 0, portFaults := 0, portRecoveries := 0
           completed := p.completed.map fun _ => 0 }

/-- The counts of 01 and 02 (R23, R39). -/
def clearLineCounts (s : State) : State :=
  ((s.modLine fun l => { l with w := clearPort l.w, e := clearPort l.e }).modTimer fun t =>
    { t with holdoverEntries := 0, recirculations := 0 }).modProt fun p =>
    { p with changes := 0, isolations := 0 }

/-- The counts of 03 (R61). -/
def clearSwitchCounts (sw : FrameSwitch) : FrameSwitch :=
  { sw with discards := .fill 11 0, zoneLost := 0, stripped := 0, taken := 0, toCentre := 0
            copies := 0, passed := 0, added := .fill 7 0 }

/-- The counts of 04 and of section 5.1 (R82, R103). -/
def clearPhoneCounts (p : PhoneInterface) : PhoneInterface :=
  { p with plansAccepted := 0, plansLate := 0, plansStale := 0, plansIgnored := 0
           planSwitches := 0, requestsSent := 0, releasesSent := 0, statusSent := 0
           priorityPresses := 0, callsAnswered := 0, callsDropped := 0, ringTimeouts := 0
           vsigIgnored := 0 }

/-- The counts of the Slot Allocator (R103). -/
def clearAllocCounts (a : SlotAllocator) : SlotAllocator :=
  { a with grants := 0, grantsFromQueue := 0, queueRefusals := 0, plansIssued := 0
           planResends := 0, staleAnswers := 0, nodesAbsent := 0, callsSupervised := 0
           statusUnmatched := 0, allocIgnored := 0 }

/-- The counts of the Toll Relay; RECEIVED_CHARGE starts from what is in custody (R125). -/
def clearTollCounts (records : Nat) (t : TollRelay) : TollRelay :=
  { t with receivedCharge := t.pendingTable.length + records
           blockLength := 0, blockCheck := 0, blockKind := 0, rejected := 0, duplicates := 0
           forwarded := 0, liveRefused := 0, pendingFull := 0, timeouts := 0, localAnswers := 0
           detachAnswers := 0, restartMoved := 0, answeredByCentre := 0, lateSettled := 0
           unmatched := 0, tollIgnored := 0, reportsForwarded := 0, reportsDropped := 0
           answersDropped := 0 }

/-- The counts of the Toll Journal (R138). -/
def clearJournalCounts (j : TollJournal) : TollJournal :=
  { j with journalLost := 0, settledFromJournal := 0, settledUnmatched := 0, deferredSent := 0
           drainRefused := 0, inflightTimeouts := 0, verdictSet := 0 }

/-- The counts of the Weather Sampler (R158). -/
def clearWxCounts (x : WeatherSampler) : WeatherSampler :=
  { x with analog := x.analog.map fun b => { b with conversions := 0 }
           counts := .fill 16 { samples := 0, rails := 0, saturated := 0, faults := 0, reports := 0 }
           wxIgnored := 0 }

/-- The counts of the Condition Unit (R173). -/
def clearCondCounts (u : ConditionUnit) : ConditionUnit :=
  { u with eventsMade := 0, eventRepeats := 0, eventsAcked := 0, alarmReports := 0
           alarmIgnored := 0 }

/-- The counts of the Sign Controller (R194). -/
def clearSignCounts (g : SignController) : SignController :=
  { g with selections := 0, transfersStarted := 0, transferAborts := 0, pagesAccepted := 0
           pagesRejected := 0, answerTimeouts := 0, deliveryFailures := 0, pollsSent := 0
           pollsMissed := 0, badAnswers := 0, signIgnored := 0 }

/-- The counts of the Management Agent (R210). -/
def clearAgentCounts (a : Agent) : Agent :=
  { a with requestsExecuted := 0, requestsDropped := 0, requestsFlushed := 0, responsesSent := 0
           fieldRequests := 0, mgmtIgnored := 0, walks := 0, walkTimeouts := 0
           addressesTaken := 0 }

/-- COUNTS_CLEAR (R204): every count of every block. -/
def clearCounts (s : State) : State :=
  let s := clearLineCounts s
  let s := ((s.modSw clearSwitchCounts).modPhone clearPhoneCounts).modAlloc clearAllocCounts
  let s := (s.modToll (clearTollCounts s.journal.records.length)).modJournal clearJournalCounts
  (((s.modWx clearWxCounts).modCond clearCondCounts).modSign clearSignCounts).modAgent
    clearAgentCounts

/-! ## RESTART (R205) -/

/-- The frames a flush removes: every queue, the holding buffer, the pool. -/
def flushedFrames (sw : FrameSwitch) : Nat :=
  (allQueues.map fun q => (queueFrames sw q).length).sum + sw.holding.length + sw.pool.length

/-- The flush of a RESTART (R63): `spared` stays in MGMT. -/
def flushSwitch (cycle : Half) (spared : List Frame) (sw : FrameSwitch) : FrameSwitch :=
  let n := flushedFrames sw - spared.length
  { sw with
    alarm := [], vsig := [], tollLive := [], mgmt := spared, tollDeferred := [], sign := []
    wx := [], holding := [], pool := []
    discards := sw.discards.modify (reasonIndex .restartFlush) (bumpBy n)
    records := ({ reason := .restartFlush, place := .allQueues, cycle, fields := none
                  flushed := some n } :: sw.records).take 8 }

/-- The DONE just offered on a slave: the frame at the tail of MGMT when the offer queued it (R63).
-/
def sparedDone (before after : FrameSwitch) : List Frame := after.mgmt.drop before.mgmt.length

/-- The sign's part of a RESTART (R196): the exchange ends, the test request is withdrawn, a
re-evaluation ignores the hold and leaves its selection owed, then a transfer starts. The marker of a
command cut off counts among the octets of that transfer, as R189 has it for a new selection: R196 does
not say so, and it is the model's choice (log 47). -/
def restartSign (copy : Tab Bool 64) (g : SignController) : SignController :=
  let lead := match g.sender.state with
    | .sending => abortMarker
    | _ => []
  let ended :=
    { g with
      test := none
      sender := { g.sender with state := .awaiting, exchange := .none, line := []
                                answerTimer := none } }
  let chosen := reevaluate copy true ended
  startSelected lead { chosen with sender := { chosen.sender with state := .idle } }

/-- Step 3 of a RESTART: the service blocks in the order the manual names them (log 13). Conditions 56
and 57 follow the journal as the cycle ends: what the Toll Relay hands over moves them then without an
event, a change that something else makes in the cycle is judged as usual (R130, R175, log 14). -/
def restartBlocks (s : State) : State :=
  let before := journalLevels s
  let s := journalRaised before (journalAllWaiting (tollRestart (phoneRestart hand s)))
  let s := (restartWeather s).modCond fun u => { u with events := [] }
  let s := s.modSign (restartSign s.cond.copy)
  if s.isMaster then walkRestart s else s

/-- RESTART after its checks (R205); the drain waits for the next cycle (R137). `me` is the command
itself, which leaves the queue at its end and is not flushed. -/
def restartNode (h : Head) (me : Instr) (s : State) : State :=
  let before := s.sw
  let s := respond h (.done 0) s
  let spared := if s.isMaster then [] else sparedDone before s.sw
  let s := restartBlocks (s.modSw (flushSwitch s.timer.number spared))
  let s := s.modPeriod fun x => { x with restarted := true }
  s.modAgent fun a =>
    { a with requests := []
             requestsFlushed := bumpBy (leaveQueue me a.requests).length a.requestsFlushed }

end Sys2Proof.Machine
end

