-- ==== Sys2Proof/Machine/Line.lean ====
section
/-! DEFINITION. Commands of the line ports, the Cycle Timer and reachability (01, 02). A row that
reports an event acts when its condition holds, and leaves the state as it is when it does not
(log 1). -/

namespace Sys2Proof.Machine

/-- What a meaning of this model answers (log 26). -/
abbrev Answer := Host.Outcome State Fault Refusal

/-- The effect of an event whose condition is `c`. -/
def whenever (c : Bool) (f : State → State) (s : State) : Answer := .next (if c then f s else s)

/-- POWER_ON: every block to its power-on values, the strap sampled (R23, R40, R62, R83, R104, R124,
R137, R159, R174, R195, R210). -/
def execPowerOn (strap : Bool) (s : State) : Answer :=
  .next (State.poweredOn s.pending s.choices s.openIndex { s.pins with strap })

/-- SIGNAL_LOST (R4, R6, R9). -/
def execSignalLost (p : Port) (s : State) : Answer := .next (changePort p loseSignal s)

/-- SIGNAL_REGAINED, in DOWN (R4). -/
def execSignalRegained (p : Port) (s : State) : Answer :=
  whenever ((portAt s p).rx == .down) (changePort p (regainSignal s.timer.number)) s

/-- MARKER_FOUND, in the marker search of ALIGNING (R4). -/
def execMarkerFound (p : Port) (s : State) : Answer :=
  whenever ((portAt s p).rx == .aligning) (modPort p fun x => { x with markerFound := true }) s

/-- HEADER_RECEIVED (R3 to R9, R13 to R17, R19, R20, R25 to R31, R42 to R48, R56 to R58, R78). -/
def execHeaderReceived (p : Port) (cycle : Octets) (s : State) : Answer :=
  .next (receiveCycle p cycle s)

/-- An ALIGNING entered from DOWN is in its fifth or a later cycle (R6). -/
def alignFaultDue (p : LinePort) : Bool :=
  p.rx == .aligning && p.entryFrom == .fromDown && decide (5 ≤ p.alignCycles)

/-- ALIGN_FAULT_COUNT (R6). -/
def execAlignFaultCount (p : Port) (s : State) : Answer :=
  whenever (alignFaultDue (portAt s p)) (changePort p id) s

/-- The wait-to-restore timer of a port has reached the WTR of this cycle (R10). -/
def wtrDue (s : State) (p : Port) : Bool :=
  (portAt s p).wtrTimer.any fun t => decide (s.period.inForce.wtrSeconds * 1000 ≤ t)

/-- The bring-up count of a port has reached 16 (R11). -/
def bringUpDue (s : State) (p : Port) : Bool :=
  bringingUp (forcedOn s p) (portAt s p) && decide (16 ≤ (portAt s p).bringUp)

/-- WTR_EXPIRY (R9, R10). -/
def execWtrExpiry (p : Port) (s : State) : Answer := whenever (wtrDue s p) (modPort p recoverPort) s

/-- BRING_UP_COMPLETE (R9, R11); a fault of the same cycle takes it back (log 49). -/
def execBringUpComplete (p : Port) (s : State) : Answer :=
  whenever (bringUpDue s p) (modPort p completeBringUp) s

/-- The repeat run has reached 256 with the flag off (R16). -/
def recirculationDue (s : State) : Bool :=
  !s.isMaster && decide (256 ≤ s.timer.repeatRun) && !s.timer.recirculating

/-- The recirculation flag is set: the age is forced to 16 (R16, R20). -/
def recirculate (s : State) : State :=
  updateReach (setAge 16 (s.modTimer fun t =>
    { t with recirculating := true, recirculations := bump t.recirculations }))

/-- RECIRCULATION (R16, R20). -/
def execRecirculation (s : State) : Answer := whenever (recirculationDue s) recirculate s

/-- The 1000-cycle timer of DUPLICATE_MASTER has expired (R19). -/
def duplicateDue (s : State) : Bool := s.timer.duplicate.any fun t => decide (1000 ≤ t)

/-- DUPLICATE_MASTER_CLEAR (R19). -/
def execDuplicateMasterClear (s : State) : Answer :=
  whenever (duplicateDue s)
    (fun s => changeCondition true condDuplicate false (s.modTimer fun t =>
      { t with duplicate := none })) s

/-- A slave has had no processed header in this period (R14). -/
def unprocessed (s : State) : Bool := !s.isMaster && !s.period.processed

/-- MISSING_CYCLE (R14, R17, R56). -/
def execMissingCycle (s : State) : Answer :=
  whenever (unprocessed s && !s.timer.holdover) missCycle s

/-- HOLDOVER_ENTRY (R14). -/
def execHoldoverEntry (s : State) : Answer :=
  whenever (unprocessed s && !s.timer.holdover && decide (3 ≤ s.timer.missing)) enterHoldoverNow s

/-- HOLDOVER_CYCLE (R15, R17, R29). -/
def execHoldoverCycle (s : State) : Answer :=
  whenever (unprocessed s && s.timer.holdover) holdoverCycleOf s

/-- ORIGINATE_CYCLE (R18, R30, R31, R56 to R60, R102). -/
def execOriginateCycle (s : State) : Answer := whenever s.isMaster originate s

/-- CENTRE_HEADER_AGE_EXPIRY: the age reaches 16 (R20, R22). -/
def execCentreHeaderAgeExpiry (s : State) : Answer :=
  whenever (!s.isMaster && s.prot.linked && decide (15 ≤ s.prot.age))
    (fun s => updateReach (setAge 16 s)) s

end Sys2Proof.Machine
end

