-- ==== Sys2Proof/Machine/Uplink.lean ====
section
/-! DEFINITION. Commands of the uplink port (01 R18, R21; 03 R54, R55). -/

namespace Sys2Proof.Machine

/-- The uplink's signal and frame lock take a level; on the master reachability follows (R18, R21), and
its event falls at the end of the cycle (R22). -/
def setUplink (up : Bool) (s : State) : State :=
  let s := s.modPins fun p => { p with uplinkUp := up }
  if s.isMaster then updateReach s else s

/-- UPLINK_DOWN (R18, R21, R22). -/
def execUplinkDown (s : State) : Answer := .next (setUplink false s)

/-- UPLINK_UP (R18, R21, R22). -/
def execUplinkUp (s : State) : Answer := .next (setUplink true s)

/-- UPLINK_FRAME, while the master's uplink is up (R54). -/
def execUplinkFrame (octets : Octets) (s : State) : Answer :=
  whenever (s.isMaster && s.pins.uplinkUp) (takeUplink octets centreFrame) s

/-- FIELD_FRAME, on a slave (R55). -/
def execFieldFrame (octets : Octets) (s : State) : Answer :=
  whenever (!s.isMaster) (takeUplink octets fieldTerminalFrame) s

end Sys2Proof.Machine
end

