-- ==== Sys2Proof/Machine/Phone.lean ====
section
/-! DEFINITION. Commands of the Phone Interface and its plan banks (04, 05 section 5.1). -/

namespace Sys2Proof.Machine

/-- The debounce of a position is complete: 20 periods with the raw hook at `raw` (R65). -/
def hookDue (s : State) (q : Fin 4) (raw : Hook) : Bool :=
  s.pins.hooks.get q == raw && (posAt s q).debounced != raw && decide (20 ≤ (posAt s q).hookCount)

/-- The debounced hook takes the raw state, and OFFHOOK follows it (R65). OFF_HOOK and ON_HOOK take this
before the call state's effect, an order that R65 leaves open and the model chooses (log 13). -/
def turnHook (q : Fin 4) (raw : Hook) (s : State) : State :=
  changeCondition true (condOffhook q) (raw == .off)
    (modPos q (fun p => { p with debounced := raw, hookCount := 0 }) s)

/-- OFF_HOOK (R65, R68). -/
def execOffHook (q : Fin 4) (s : State) : Answer :=
  whenever (hookDue s q .off) (fun s => takeOffHook hand q (turnHook q .off s)) s

/-- ON_HOOK (R65, R69). -/
def execOnHook (q : Fin 4) (s : State) : Answer :=
  whenever (hookDue s q .on) (fun s => takeOnHook hand q (turnHook q .on s)) s

/-- The button hold count is about to reach 4000 (R66). -/
def pressDue (s : State) (q : Fin 4) : Bool :=
  s.pins.buttons.get q && (posAt s q).holdCount == 3999

/-- PRIORITY_PRESS (R66). -/
def execPriorityPress (q : Fin 4) (s : State) : Answer :=
  whenever (pressDue s q)
    (fun s => takePress hand q (modPos q (fun p => { p with holdCount := 4000 }) s)) s

/-- The period of the resend timer: 2000 cycles in REQUESTING, 10 000 in WAITING (R71, R72). -/
def requestPeriod : CallState → Option Nat
  | .requesting => some 2000
  | .waiting => some 10000
  | _ => none

/-- The resend timer of a request has expired (R72). -/
def requestDue (p : Position) : Bool :=
  match requestPeriod p.call, p.resend with
  | some limit, some t => decide (limit ≤ t)
  | _, _ => false

/-- CALL_REQUEST_RESEND (R72). -/
def execCallRequestResend (q : Fin 4) (s : State) : Answer :=
  whenever (requestDue (posAt s q)) (offerRequest hand q) s

/-- The resend timer of a release has expired while the bank holds slots (R73). -/
def releaseDue (s : State) (q : Fin 4) : Bool :=
  (posAt s q).call == .clearing && holdsSlots s q &&
    (posAt s q).resend.any fun t => decide (2000 ≤ t)

/-- CALL_RELEASE_RESEND (R73). -/
def execCallReleaseResend (q : Fin 4) (s : State) : Answer :=
  whenever (releaseDue s q)
    (fun s => offerRelease hand q (modPos q (fun p => { p with resend := some 0 }) s)) s

/-- The ring timer has expired (R74). -/
def ringDue (p : Position) : Bool := p.call == .ringing && p.ring.any fun t => decide (60000 ≤ t)

/-- RING_TIMEOUT (R74). -/
def execRingTimeout (q : Fin 4) (s : State) : Answer :=
  whenever (ringDue (posAt s q))
    (fun s => (modPos q idlePosition s).modPhone fun p =>
      { p with ringTimeouts := bump p.ringTimeouts }) s

/-- The positions TALKING, ascending (R77). -/
def talkingPositions (s : State) : List (Fin 4) :=
  (indices 4).filter fun q => (posAt s q).call == .talking

/-- One CALL_STATUS listing the TALKING positions (R77). -/
def offerStatus (s : State) : State :=
  match talkingPositions s with
  | [] => s
  | qs =>
    sendVsig hand .alloc 1 (.callStatus (qs.map (ownRef s)))
      (s.modPhone fun p => { p with statusSent := bump p.statusSent })

/-- STATUS_TIMER_EXPIRY (R77). -/
def execStatusTimerExpiry (s : State) : Answer :=
  whenever (decide (1000 ≤ s.phone.statusTimer))
    (fun s => offerStatus (s.modPhone fun p => { p with statusTimer := p.statusTimer - 1000 })) s

/-- CALL_QUEUED (R71). -/
def execCallQueued (ref : CallRef) (place : Nat) (s : State) : Answer :=
  .next (takeCallQueued hand ref place s)

/-- PLAN_UPDATE (R86). -/
def execPlanUpdate (via : Via) (source version : Octet) (switchCycle : Half) (slots : Octets)
    (s : State) : Answer :=
  .next (takePlanUpdate hand via source version switchCycle slots s)

/-- PLAN_SWITCH (R87, R70). -/
def execPlanSwitch (s : State) : Answer := whenever (switchDue s) (switchBanks hand) s

/-- VSIG_FRAME_IGNORED: a message the Phone Interface cannot use (R76). -/
def execVsigFrameIgnored (payload : Octets) (s : State) : Answer :=
  whenever (!(decodeVsig payload).any phoneCanUse) ignoreVsig s

/-- CALL_BACK by its table (R74). -/
def callBack (position : Nat) (s : State) : State × Result :=
  match positionOf position with
  | none => (s, refusal .badValue)
  | some q =>
    if (posAt s q).call = .idle then
      (modPos q (fun p => { p with call := .ringing, ring := some 0 }) s, .done 0)
    else (s, refusal .busy)

/-- CALL_BACK (R74). -/
def execCallBack (h : Head) (position : Nat) (s : State) : Answer :=
  .next (execRequest h 20 (.callBack h position) (answering h (callBack position)) s)

end Sys2Proof.Machine
end

