-- ==== Sys2Proof/Machine/Allocator.lean ====
section
/-! DEFINITION. Commands of the Slot Allocator (05). It works on the master alone. -/

namespace Sys2Proof.Machine

/-- CALL_REQUEST (R92, R93). -/
def execCallRequest (source : Octet) (ref : CallRef) (priority resume answer : Bool) (s : State) :
    Answer :=
  whenever s.isMaster (allocTake hand source (.callRequest ref priority resume answer)) s

/-- CALL_RELEASE (R92, R95). -/
def execCallRelease (source : Octet) (ref : CallRef) (s : State) : Answer :=
  whenever s.isMaster (allocTake hand source (.callRelease ref)) s

/-- CALL_STATUS (R92, R100). -/
def execCallStatus (source : Octet) (refs : List CallRef) (s : State) : Answer :=
  whenever s.isMaster (allocTake hand source (.callStatus refs)) s

/-- PLAN_ACCEPT (R92, R96). -/
def execPlanAccept (source node version : Octet) (s : State) : Answer :=
  whenever s.isMaster (allocTake hand source (.planAccept node version)) s

/-- PLAN_LATE (R92, R98). -/
def execPlanLate (source node version : Octet) (s : State) : Answer :=
  whenever s.isMaster (allocTake hand source (.planLate node version)) s

/-- The accepted plan of a node comes round (R97). -/
def comeRoundDue (s : State) (n : Fin 240) : Bool :=
  let r := s.alloc.plans.get n
  s.isMaster && !r.comeRound && roundDone s.timer.number r.accepted r.acceptedSeen

/-- The switch cycle has come round: all the slots no plan holds are freed, then the queue is granted
(R97, R94). That the frees stand before the grants is the model's (log 13); plans of several nodes
that come round in one period are rows of their own, in the order of log 3. -/
def comeRoundNow (n : Fin 240) (s : State) : State :=
  grantAfter hand s (freeNodeSlots n (modPlan n (fun r => { r with comeRound := true }) s))

/-- PLAN_COME_ROUND (R97, R94). -/
def execPlanComeRound (n : Fin 240) (s : State) : Answer :=
  whenever (comeRoundDue s n) (comeRoundNow n) s

/-- PLAN_UNANSWERED (R98, R99). -/
def execPlanUnanswered (n : Fin 240) (s : State) : Answer :=
  whenever (s.isMaster && unanswered s n) (resendPlan hand n) s

/-- The absent quarantine of a node has run 5000 cycles (R99). -/
def quarantineDue (s : State) (n : Fin 240) : Bool :=
  s.isMaster && (s.alloc.plans.get n).quarantine.any fun t => decide (5000 ≤ t)

/-- ABSENT_QUARANTINE_EXPIRY (R99). -/
def execAbsentQuarantineExpiry (n : Fin 240) (s : State) : Answer :=
  whenever (quarantineDue s n) (endQuarantine hand n) s

/-- The supervision age of a call has reached 3000 (R100). -/
def supervisionDue (s : State) (n : Fin 240) (q : Fin 4) : Bool :=
  s.isMaster && ((callOf s.alloc n q).filter isLive).any fun e => decide (3000 ≤ e.age)

/-- CALL_SUPERVISION_EXPIRY (R100). -/
def execCallSupervisionExpiry (n : Fin 240) (q : Fin 4) (s : State) : Answer :=
  whenever (supervisionDue s n q) (superviseCall hand n q) s

/-- SET_VOICE_CAPACITY (R101). -/
def execSetVoiceCapacity (h : Head) (capacity : Nat) (s : State) : Answer :=
  .next (execRequest h 26 (.setVoiceCapacity h capacity) (answering h (setCapacity hand capacity)) s)

/-- A VSIG payload the Slot Allocator acts on (R92). -/
def allocReads (source : Octet) (payload : Octets) : Bool :=
  (decodeVsig payload).any (allocCanUse source)

/-- ALLOC_FRAME_IGNORED (R92). -/
def execAllocFrameIgnored (source : Octet) (payload : Octets) (s : State) : Answer :=
  whenever (s.isMaster && !allocReads source payload) (fun s => ignoreAlloc (markPresent source s)) s

end Sys2Proof.Machine
end

