-- ==== Sys2Proof/Machine/Toll.lean ====
section
/-! DEFINITION. Commands of the Toll Relay and the Toll Journal (06, 07). -/

namespace Sys2Proof.Machine

/-- The octets of the run that closes: those collected and those the command brings, the first 40
kept (R105, log 27). -/
def closedRun (t : TollRelay) (octets : Octets) : Octets := (t.run ++ octets).take 40

/-- The number of octets of the run that closes (R105). -/
def closedTotal (t : TollRelay) (octets : Octets) : Nat := (t.run ++ octets).length + t.runExtra

/-- A run closes and is judged (R105). -/
def closeRun (octets : Octets) (s : State) : State :=
  judgeRun (closedRun s.toll octets) (closedTotal s.toll octets)
    (s.modToll fun t => { t with run := [], runExtra := 0, runFresh := false })

/-- TOLL_RUN_CLOSE (R105 to R113). -/
def execTollRunClose (octets : Octets) (s : State) : Answer :=
  whenever (!(s.toll.run ++ octets).isEmpty) (closeRun octets) s

/-- The pending timer has reached the T_toll of this cycle (R114, R115). -/
def pendingDue (s : State) (p : PendingToll) : Bool := decide (s.period.inForce.tToll ≤ p.timer)

/-- The pending entries whose timers have expired, oldest first (R114). -/
def pendingExpired (s : State) : List PendingToll := s.toll.pendingTable.filter (pendingDue s)

/-- A pending timer expires (R114). -/
def expirePending (s : State) (p : PendingToll) : State :=
  endPending p (s.modToll fun t => { t with timeouts := bump t.timeouts })

/-- PENDING_TIMEOUT: all that have expired, oldest first (R114). -/
def execPendingTimeout (s : State) : Answer := .next ((pendingExpired s).foldl expirePending s)

/-- TOLL_ANSWER (R119, R120). -/
def execTollAnswer (via : Via) (lane : Octet) (txn : Quad) (verdict : Octet) (balance : Quad)
    (s : State) : Answer :=
  .next (takeTollAnswer via { lane, txn } verdict balance s)

/-- SETTLED (R119, R134). -/
def execSettled (via : Via) (lane : Octet) (txn : Quad) (s : State) : Answer :=
  .next (takeSettled via { lane, txn } s)

/-- ANSWER_BLOCK_SENT: one answer leaves the list in a cycle period (R107). -/
def execAnswerBlockSent (s : State) : Answer :=
  match s.toll.answers with
  | [] => .next s
  | a :: rest =>
    .next ((s.modToll fun t => { t with answers := rest }).modOut fun o =>
      { o with tollLine := encodeAnswer a })

/-- JOURNAL_DRAIN, while LINKED (R131, R133); not in the cycle of a RESTART (R137). -/
def execJournalDrain (s : State) : Answer :=
  whenever (reachable s && !s.period.restarted) (fun s => drainLoop (drainKeys s.journal) s) s

/-- The in-flight timer of a record has reached 2000 cycles (R135). -/
def inFlightDue (r : JournalRecord) : Bool := r.inFlight.any fun t => decide (2000 ≤ t)

/-- INFLIGHT_TIMEOUT: every record whose timer has expired returns to WAITING (R135). -/
def execInflightTimeout (s : State) : Answer :=
  .next (s.modJournal fun j =>
    { j with
      records := j.records.map fun r => if inFlightDue r then backToWaiting r else r
      inflightTimeouts := bumpBy (j.records.filter inFlightDue).length j.inflightTimeouts })

/-- SECONDS_CLOCK: 1000 cycles have passed (R126). -/
def execSecondsClock (s : State) : Answer :=
  whenever (decide (1000 ≤ s.journal.subSecond))
    (fun s => s.modJournal fun j =>
      { j with seconds := bump j.seconds, subSecond := j.subSecond - 1000 }) s

/-- TOLL_FRAME_IGNORED (R119). -/
def execTollFrameIgnored (via : Via) (channel : Octet) (payload : Octets) (s : State) : Answer :=
  whenever (decodeToll via channel payload).isNone ignoreToll s

/-- A tag identity put in its place, ascending (R118). -/
def insertTag (t : TagId) : List TagId → List TagId
  | [] => [t]
  | x :: rest => if t < x then t :: x :: rest else x :: insertTag t rest

/-- DENY_ADD by its table (R118). -/
def denyAdd (tag : TagId) (s : State) : State × Result :=
  if tag = 0 then (s, refusal .badValue)
  else if tag ∈ s.toll.deny then (s, .done 0)
  else if s.toll.deny.length < 256 then
    (s.modToll fun t => { t with deny := insertTag tag t.deny }, .done 0)
  else (s, refusal .full)

/-- DENY_ADD (R118). -/
def execDenyAdd (h : Head) (tag : TagId) (s : State) : Answer :=
  .next (execRequest h 10 (.denyAdd h tag) (answering h (denyAdd tag)) s)

/-- DENY_REMOVE (R118). -/
def execDenyRemove (h : Head) (tag : TagId) (s : State) : Answer :=
  .next (execRequest h 11 (.denyRemove h tag)
    (answeringDone h fun s => s.modToll fun t => { t with deny := t.deny.filter (· != tag) }) s)

/-- DENY_CLEAR (R118). -/
def execDenyClear (h : Head) (s : State) : Answer :=
  .next (execRequest h 12 (.denyClear h)
    (answeringDone h fun s => s.modToll fun t => { t with deny := [] }) s)

/-- WRITE of the toll settings (R115, R132, R202). -/
def execWriteTollSettings (h : Head) (first : Nat) (entries : List (Int × Int)) (s : State) : Answer :=
  .next (execRequest h 2 (.writeTollSettings h first entries)
    (answering h (writeToll first entries)) s)

/-- WRITE of the class table (R117, R202). -/
def execWriteClassTable (h : Head) (first : Nat) (entries : List Nat) (s : State) : Answer :=
  .next (execRequest h 2 (.writeClassTable h first entries)
    (answering h (writeClasses first entries)) s)

end Sys2Proof.Machine
end

