-- ==== Sys2Proof/Machine/Weather.lean ====
section
/-! DEFINITION. Commands of the Weather Sampler (08). -/

namespace Sys2Proof.Machine

/-- SAMPLE_TICK: a hundred periods have passed (R139, R143). -/
def execSampleTick (s : State) : Answer :=
  whenever (decide (100 ≤ s.wx.clock)) (fun s => s.modWx (sampleTickNow s.pins.ain)) s

/-- The raw level has differed in two consecutive examinations (R140). -/
def pulseDue (s : State) (k : Fin 4) : Bool := decide (2 ≤ (s.wx.pulses.get k).differ)

/-- PULSE_EDGE (R140). -/
def execPulseEdge (k : Fin 4) (s : State) : Answer :=
  whenever (pulseDue s k)
    (fun s => s.modWx fun x => { x with pulses := x.pulses.modify k turnPulse }) s

/-- CHANNEL_SAMPLE (R143 to R155). -/
def execChannelSample (c : Fin 16) (s : State) : Answer :=
  whenever (channelDue s c) (takeSample c) s

/-- WX_FRAME_IGNORED (R157). -/
def execWxFrameIgnored (s : State) : Answer :=
  .next (s.modWx fun x => { x with wxIgnored := bump x.wxIgnored })

/-- WRITE of the channel table (R141, R142, R202). -/
def execWriteChannelTable (h : Head) (first : Nat) (entries : List ChannelWrite) (s : State) : Answer :=
  .next (execRequest h 2 (.writeChannelTable h first entries)
    (answering h (writeChannels first entries)) s)

/-- WX_READ (R156). -/
def execWxRead (h : Head) (s : State) : Answer :=
  .next (execRequest h 21 (.wxRead h) (fun s => respond h (wxReadResult s) s.spendOpen) s)

end Sys2Proof.Machine
end

