-- ==== Sys2Proof/Machine/Conditions.lean ====
section
/-! DEFINITION. Commands of the Condition Unit (09). -/

namespace Sys2Proof.Machine

/-- ALARM_FRAME_IGNORED (R172). -/
def execAlarmFrameIgnored (s : State) : Answer :=
  .next (s.modCond fun u => { u with alarmIgnored := bump u.alarmIgnored })

/-- A centre flag takes a value, and the change is handed to the Condition Unit (R162). -/
def putCentreFlag (k : Fin 5) (v : Bool) (s : State) : State :=
  if s.agent.centreFlags.get k = v then s
  else
    changeCondition true (condCentreFlag k) v
      (s.modAgent fun a => { a with centreFlags := a.centreFlags.set k v })

/-- SET_CENTRE_FLAG by its table: 1 is SET, 2 is CLEAR (R162, R214). -/
def setCentreFlag (k value : Nat) (s : State) : State × Result :=
  if h : k < 5 then
    if value = 1 then (putCentreFlag ⟨k, h⟩ true s, .done 0)
    else if value = 2 then (putCentreFlag ⟨k, h⟩ false s, .done 0)
    else (s, refusal .badValue)
  else (s, refusal .badValue)

/-- SET_CENTRE_FLAG (R162). -/
def execSetCentreFlag (h : Head) (k value : Nat) (s : State) : Answer :=
  .next (execRequest h 17 (.setCentreFlag h k value) (answering h (setCentreFlag k value)) s)

/-- A pending event becomes reportable as the mask falls from `old` to `new` (R166). -/
def becomesReportable (old new : Nat) (e : PendingEvent) : Bool :=
  reportable new e && !reportable old e

/-- SET_MASK by its table (R166, R167). -/
def setMask (value : Nat) (s : State) : State × Result :=
  if 7 < value then (s, refusal .badValue)
  else
    let asks := decide (value < s.cond.mask) && s.cond.events.any (becomesReportable s.cond.mask value)
    let s := s.modCond fun u => { u with mask := value }
    (if asks then reportTrigger s else s, .done 0)

/-- SET_MASK (R166). -/
def execSetMask (h : Head) (value : Nat) (s : State) : Answer :=
  .next (execRequest h 16 (.setMask h value) (answering h (setMask value)) s)

/-- The conditions an EVENT_ACK names: `none` is ALL (R170). -/
def ackNames (cs : Option (List Nat)) (e : PendingEvent) : Bool :=
  match cs with
  | none => true
  | some cs => decide (e.condition.val ∈ cs)

/-- EVENT_ACK by its table (R170). -/
def eventAck (cs : Option (List Nat)) (s : State) : State × Result :=
  if (cs.getD []).any fun c => decide (63 < c) then (s, refusal .badValue)
  else
    let n := (s.cond.events.filter (ackNames cs)).length
    (s.modCond fun u =>
      { u with events := u.events.filter fun e => !ackNames cs e
               eventsAcked := bumpBy n u.eventsAcked }, .done n)

/-- EVENT_ACK (R170). -/
def execEventAck (h : Head) (conditions : Option (List Nat)) (s : State) : Answer :=
  .next (execRequest h 15 (.eventAck h conditions) (answering h (eventAck conditions)) s)

/-- WRITE of the event table (R163, R202). -/
def execWriteEventTable (h : Head) (first : Nat) (entries : List (Nat × Nat)) (s : State) : Answer :=
  .next (execRequest h 2 (.writeEventTable h first entries)
    (answering h (writeEvents first entries)) s)

end Sys2Proof.Machine
end

