-- ==== Sys2Proof/Machine/Sign.lean ====
section
/-! DEFINITION. Commands of the Sign Controller (10). -/

namespace Sys2Proof.Machine

/-! ## Requests for the sign -/

/-- SIGN_SHOW by its table (R178). -/
def signShow (page priority lifetime : Nat) (s : State) : State × Result :=
  match showPage page priority lifetime with
  | some p => (s.modSign (centreShow s.cond.copy p priority lifetime), .done 0)
  | none => (s, refusal .badValue)

/-- SIGN_SHOW (R178). -/
def execSignShow (h : Head) (page priority lifetime : Nat) (s : State) : Answer :=
  .next (execRequest h 6 (.signShow h page priority lifetime)
    (answering h (signShow page priority lifetime)) s)

/-- SIGN_CLEAR (R178). -/
def execSignClear (h : Head) (s : State) : Answer :=
  .next (execRequest h 7 (.signClear h)
    (answeringDone h fun s => s.modSign (centreClear s.cond.copy)) s)

/-- SIGN_FRAME (R179). -/
def execSignFrame (source : Octet) (payload : Octets) (s : State) : Answer :=
  .next (takeSignFrame source payload s)

/-- SIGN_TEST by its rule (R180). -/
def signTest (page : Nat) (s : State) : State × Result :=
  match pageNumber page with
  | none => (s, refusal .badValue)
  | some p =>
    (reevaluateSign (s.modSign fun g => { g with test := some { page := p, elapsed := 0 } }), .done 0)

/-- SIGN_TEST (R180). -/
def execSignTest (h : Head) (page : Nat) (s : State) : Answer :=
  .next (execRequest h 9 (.signTest h page) (answering h (signTest page)) s)

/-- TEST_TIMER_EXPIRY (R180). -/
def execTestTimerExpiry (s : State) : Answer :=
  whenever (s.sign.test.any fun t => decide (60000 ≤ t.elapsed))
    (fun s => reevaluateSign (s.modSign fun g => { g with test := none })) s

/-- The centre request's lifetime has expired; a lifetime of 0 does not (R178). -/
def lifetimeDue (c : CentreRequest) : Bool :=
  c.lifetime != 0 && decide (c.lifetime * 1000 ≤ c.elapsed)

/-- CENTRE_LIFETIME_EXPIRY (R178). -/
def execCentreLifetimeExpiry (s : State) : Answer :=
  whenever (s.sign.centre.any lifetimeDue)
    (fun s => reevaluateSign (s.modSign fun g => { g with centre := none })) s

/-- The hold timer has reached the H of this cycle (R183). -/
def holdDue (s : State) : Bool :=
  s.sign.hold.any fun t => decide (s.period.inForce.holdSeconds * 1000 ≤ t)

/-- HOLD_EXPIRY (R183). -/
def execHoldExpiry (s : State) : Answer :=
  whenever (holdDue s)
    (fun s => s.modSign fun g => reevaluate s.cond.copy true { g with hold := none }) s

/-! ## The sign link -/

/-- SIGN_RESEND's effect (R188). -/
def resendSign (g : SignController) : SignController :=
  if pageBeingSent g = some g.selection.page then g else oweSelection g

/-- SIGN_RESEND (R188). -/
def execSignResend (h : Head) (s : State) : Answer :=
  .next (execRequest h 8 (.signResend h) (answeringDone h fun s => s.modSign resendSign) s)

/-- The last octet of the command has been sent (R188). -/
def commandDone (x : Sender) : Bool :=
  x.state == .sending && decide (lineCycles x.line.length ≤ x.sentCycles)

/-- COMMAND_SENT (R188). -/
def execCommandSent (s : State) : Answer :=
  whenever (commandDone s.sign.sender)
    (fun s => s.modSign fun g =>
      { g with sender := { g.sender with
          state := .awaiting, line := [], sentCycles := 0, answerTimer := some 0 } }) s

/-- SIGN_FAIL takes a value, and condition 58 follows it (R192). -/
def setSignFail (v : Bool) (s : State) : State :=
  changeCondition true condSignFail v
    (s.modSign fun g => { g with sender := { g.sender with signFail := v } })

/-- Every valid answer clears the missed-poll count and SIGN_FAIL (R187, R192). -/
def validAnswer (s : State) : State :=
  setSignFail false (s.modSign fun g => { g with sender := { g.sender with missedPolls := 0 } })

/-- The exchange awaited (R190 to R192). -/
def awaited (g : SignController) : Exchange :=
  match g.sender.state with
  | .awaiting => g.sender.exchange
  | _ => .none

/-- The payload of a SIGN status frame (R190, R213). That SIGN_FAIL is sent as 1 when set and 0 when
clear is the model's (DEDUCED, log 15). -/
def signStatus (g : SignController) : Octets :=
  [3, octet ((g.sender.displayed.map (·.val)).getD 255), octet g.selection.page.val,
   octet g.selection.priority, octet (signSourceCode g.selection.source),
   octet ((signRuleIndex g.selection.source).getD 255)] ++ octets2 g.sender.faultFlags ++
  [if g.sender.signFail then 1 else 0]

/-- One SIGN status frame for the centre; the master sends none while its uplink is down (R190). -/
def offerSignStatus (s : State) : State :=
  if s.isMaster && !s.pins.uplinkUp then s
  else (sendToCentre .sign svcSign (openChannel s) (signStatus s.sign) s).1

/-- The end of an exchange: a transfer of the selected page when it is owed, else IDLE (R190,
R192). -/
def endExchange (g : SignController) : SignController :=
  if g.sender.owed then startSelected [] g else enterIdle g

/-- The awaited page is accepted (R190). -/
def acceptPage (p : Fin 64) (s : State) : State :=
  let s := s.modSign fun g =>
    { g with pagesAccepted := bump g.pagesAccepted
             sender := { g.sender with displayed := some p, undelivered := false
                                       answerTimer := none } }
  (offerSignStatus s).modSign endExchange

/-- A valid ACCEPT (R190). That SIGN_FAIL clears, with the re-evaluation its fall calls for, before the
answer's own effects is the model's order (log 13). -/
def takeAccept (p : Fin 64) (s : State) : State :=
  match awaited s.sign with
  | .transfer q _ => if q = p then acceptPage p (validAnswer s) else (validAnswer s).modSign badAnswer
  | _ => (validAnswer s).modSign badAnswer

/-- SIGN_ACCEPT (R187, R190): a page above 63 fails the framing (R215). -/
def execSignAccept (page : Nat) (s : State) : Answer :=
  match pageNumber page with
  | some p => .next (takeAccept p s)
  | none => .next (s.modSign badAnswer)

/-- A REJECT of an awaited transfer (R191). -/
def rejectPage (p : Fin 64) (attempt : Nat) (reason : Octet) (g : SignController) : SignController :=
  endAttempt p attempt
    { g with pagesRejected := bump g.pagesRejected
             sender := { g.sender with lastReject := some reason } }

/-- SIGN_REJECT (R187, R190, R191). -/
def execSignReject (reason : Octet) (s : State) : Answer :=
  match awaited s.sign with
  | .transfer p a => .next ((validAnswer s).modSign (rejectPage p a reason))
  | _ => .next ((validAnswer s).modSign badAnswer)

/-- A STATUS that answers an awaited poll (R192). -/
def answerPoll (page : Fin 64) (faults : Half) (g : SignController) : SignController :=
  let g := { g with sender := { g.sender with answerTimer := none, faultFlags := faults } }
  if g.sender.owed || g.sender.undelivered || page != g.selection.page then startSelected [] g
  else enterIdle g

/-- A valid STATUS (R192). -/
def takeStatus (page : Fin 64) (faults : Half) (s : State) : State :=
  match awaited s.sign with
  | .poll => (validAnswer s).modSign (answerPoll page faults)
  | _ => (validAnswer s).modSign badAnswer

/-- SIGN_STATUS_ANSWER (R187, R192): a page above 63 fails the framing (R215). -/
def execSignStatusAnswer (page : Nat) (faults : Half) (s : State) : Answer :=
  match pageNumber page with
  | some p => .next (takeStatus p faults s)
  | none => .next (s.modSign badAnswer)

/-- SIGN_BAD_ANSWER: octets that fail the framing or the check (R187, R215). -/
def execSignBadAnswer (octets : Octets) (s : State) : Answer :=
  whenever (decodeSignAnswer octets).isNone (fun s => s.modSign badAnswer) s

/-- The answer timer has reached the A of this cycle (R188, R187). -/
def answerDue (s : State) : Bool :=
  s.sign.sender.state == .awaiting &&
    s.sign.sender.answerTimer.any fun t => decide (s.period.inForce.answerLimit ≤ t)

/-- A poll has gone unanswered (R192). That the rise of SIGN_FAIL, with the re-evaluation it may bring,
comes before the end of the exchange is the model's order (log 13). -/
def missPoll (s : State) : State :=
  let s := s.modSign fun g =>
    { g with pollsMissed := bump g.pollsMissed
             sender := { g.sender with missedPolls := min 3 (g.sender.missedPolls + 1) } }
  let s := if 3 ≤ s.sign.sender.missedPolls then setSignFail true s else s
  s.modSign endExchange

/-- The expiry of the answer timer ends the exchange (R191, R192). -/
def answerExpires (s : State) : State :=
  match s.sign.sender.exchange with
  | .transfer p a =>
    s.modSign fun g => endAttempt p a { g with answerTimeouts := bump g.answerTimeouts }
  | .poll => missPoll s
  | .none => s.modSign endExchange

/-- ANSWER_TIMEOUT (R191, R192). -/
def execAnswerTimeout (s : State) : Answer := whenever (answerDue s) answerExpires s

/-- The poll timer has expired in IDLE (R192). -/
def pollDue (x : Sender) : Bool := x.state == .idle && decide (10000 ≤ x.pollTimer)

/-- A POLL is sent (R192). -/
def sendPoll (g : SignController) : SignController :=
  { g with
    pollsSent := bump g.pollsSent
    sender := { g.sender with state := .sending, exchange := .poll, line := encodePoll
                              sentCycles := 0 } }

/-- POLL_TIMER_EXPIRY (R192). -/
def execPollTimerExpiry (s : State) : Answer :=
  whenever (pollDue s.sign.sender) (fun s => s.modSign sendPoll) s

/-! ## WRITEs -/

/-- WRITE of the sign rules (R176, R184, R202). -/
def execWriteSignRules (h : Head) (first : Nat) (entries : List RuleWrite) (s : State) : Answer :=
  .next (execRequest h 2 (.writeSignRules h first entries)
    (answering h (writeRules first entries)) s)

/-- WRITE of the page table (R185, R202). -/
def execWritePageTable (h : Head) (first : Nat) (entries : List (List Segment)) (s : State) : Answer :=
  .next (execRequest h 2 (.writePageTable h first entries)
    (answering h (writePages first entries)) s)

/-- WRITE of the page store (R186, R202). -/
def execWritePageStore (h : Head) (first : Nat) (blocks : List Octets) (s : State) : Answer :=
  .next (execRequest h 2 (.writePageStore h first blocks)
    (answering h (writeBlocks first blocks)) s)

/-- WRITE of the sign settings (R183, R187, R202). -/
def execWriteSignSettings (h : Head) (first : Nat) (entries : List (Int × Int)) (s : State) : Answer :=
  .next (execRequest h 2 (.writeSignSettings h first entries)
    (answering h (writeSign first entries)) s)

end Sys2Proof.Machine
end

