-- ==== Sys2Proof/Machine/Management.lean ====
section
/-! DEFINITION. Commands of the Management Agent, with those it executes for the Protection
Controller, the Frame Switch and the ring settings (02, 03, 11). -/

namespace Sys2Proof.Machine

/-! ## Frames and tables -/

/-- A MGMT frame handed to the agent, an address offer on an unassigned slave among them (R48,
R197). The row names no zone, so the ADDRESS_TAKEN of an offer that comes by it has no place to stand
in and is offered to MGMT, which is the model's choice (log 35). -/
def takeMgmtFrame (origin : Origin) (f : Frame) (s : State) : State :=
  match (if awaitsAddress s && origin == .centre then offerOf f else none) with
  | some a => if offerLegal a then takeOffer a false s else s
  | none => agentTake origin f s

/-- MGMT_FRAME_RECEIVED (R197, R198). -/
def execMgmtFrameReceived (origin : Origin) (frame : Frame) (s : State) : Answer :=
  .next (takeMgmtFrame origin frame s)

/-- READ (R201). -/
def execRead (h : Head) (table first count : Nat) (s : State) : Answer :=
  .next (execRequest h 1 (.read h table first count)
    (fun s => respond h (readTable s table first count) s) s)

/-- WRITE to a table without a row of its own (R202). -/
def execWrite (h : Head) (table first count : Nat) (entries : Octets) (s : State) : Answer :=
  .next (execRequest h 2 (.write h table first count entries)
    (answering h (writeTable h table first count entries)) s)

/-- WRITE of the ring settings (R12, R58, R202). -/
def execWriteRingSettings (h : Head) (first : Nat) (entries : List (Int × Int)) (s : State) : Answer :=
  .next (execRequest h 2 (.writeRingSettings h first entries)
    (answering h (writeRing first entries)) s)

/-! ## Commands -/

/-- RESTART (R205). -/
def execRestart (h : Head) (s : State) : Answer :=
  .next (execRequest h 3 (.restart h) (restartNode h (.restart h)) s)

/-- The side a FORCE_WRAP names (R214). -/
def sideOf (n : Nat) : Option Port := if n = 1 then some .w else if n = 2 then some .e else none

/-- FORCE_WRAP by its table (R35). -/
def forceWrap (side : Nat) (s : State) : State × Result :=
  match sideOf side with
  | none => (s, refusal .badValue)
  | some x =>
    if s.prot.forced = some x then (s, .done 0)
    else if (portAt s (otherPort x)).health = .unhealthy then (s, refusal .conflict)
    else (changePort x id (s.modProt fun p => { p with forced := some x }), .done 0)

/-- FORCE_WRAP (R35). -/
def execForceWrap (h : Head) (side : Nat) (s : State) : Answer :=
  .next (execRequest h 4 (.forceWrap h side) (answering h (forceWrap side)) s)

/-- CLEAR_FORCE's effect (R36): the port follows its line again (R9). -/
def clearForce (s : State) : State :=
  match s.prot.forced with
  | none => s
  | some x => changePort x id (s.modProt fun p => { p with forced := none })

/-- CLEAR_FORCE (R36). -/
def execClearForce (h : Head) (s : State) : Answer :=
  .next (execRequest h 5 (.clearForce h) (answeringDone h clearForce) s)

/-- A pair before another, by service and then channel (R49). -/
def pairBefore (x y : Octet × Octet) : Bool :=
  decide (x.1 < y.1) || (x.1 == y.1 && decide (x.2 < y.2))

/-- A pair put among the pairs, kept ascending for READ (R49). -/
def insertPair (x : Octet × Octet) : List (Octet × Octet) → List (Octet × Octet)
  | [] => [x]
  | y :: rest => if pairBefore x y then x :: y :: rest else y :: insertPair x rest

/-- ACCEPT_ADD by its table (R49). -/
def acceptAdd (service channel : Nat) (s : State) : State × Result :=
  let pair := (octet service, octet channel)
  if service = 0 ∨ 6 < service ∨ 255 < channel then (s, refusal .badValue)
  else if pair ∈ s.sw.accept then (s, .done 0)
  else if s.sw.accept.length < 32 then
    (s.modSw fun sw => { sw with accept := insertPair pair sw.accept }, .done 0)
  else (s, refusal .full)

/-- ACCEPT_ADD (R49). -/
def execAcceptAdd (h : Head) (service channel : Nat) (s : State) : Answer :=
  .next (execRequest h 13 (.acceptAdd h service channel) (answering h (acceptAdd service channel)) s)

/-- A pair is the one a command names. -/
def namesPair (service channel : Nat) (x : Octet × Octet) : Bool :=
  x.1.toNat == service && x.2.toNat == channel

/-- ACCEPT_REMOVE (R49). -/
def execAcceptRemove (h : Head) (service channel : Nat) (s : State) : Answer :=
  .next (execRequest h 14 (.acceptRemove h service channel)
    (answeringDone h fun s => s.modSw fun sw =>
      { sw with accept := sw.accept.filter fun x => !namesPair service channel x }) s)

/-- FIELD_LOCK (R200). -/
def execFieldLock (h : Head) (s : State) : Answer :=
  .next (execRequest h 18 (.fieldLock h)
    (answeringDone h fun s => s.modAgent fun a => { a with fieldLock := true }) s)

/-- FIELD_UNLOCK (R200). -/
def execFieldUnlock (h : Head) (s : State) : Answer :=
  .next (execRequest h 19 (.fieldUnlock h)
    (answeringDone h fun s => s.modAgent fun a => { a with fieldLock := false }) s)

/-- COUNTS_CLEAR (R204). -/
def execCountsClear (h : Head) (s : State) : Answer :=
  .next (execRequest h 22 (.countsClear h) (answeringDone h clearCounts) s)

/-- IDENTIFY (R204). -/
def execIdentify (h : Head) (s : State) : Answer :=
  .next (execRequest h 23 (.identify h) (fun s => respond h (identifyResult s) s.spendOpen) s)

/-! ## The address walk -/

/-- The first address a request names: 0 for none stands for 2 (R206, R214). -/
def firstAddress (first : Nat) : Nat := if first = 0 then 2 else first

/-- ASSIGN_ADDRESSES by its table: the response of a walk that starts is held (R206). -/
def assignAddresses (h : Head) (first : Nat) (s : State) : State :=
  let a := firstAddress first
  if a < 2 ∨ 240 < a then respond h (refusal .badValue) s
  else if s.agent.walk.running then respond h (refusal .busy) s
  else startWalk h (octet a) s

/-- ASSIGN_ADDRESSES (R206). -/
def execAssignAddresses (h : Head) (first : Nat) (s : State) : Answer :=
  .next (execRequest h 24 (.assignAddresses h first) (assignAddresses h first) s)

/-- ADDRESS_CLEAR by its rule: the response goes while the node still holds its address (R209). -/
def addressClear (h : Head) (s : State) : State :=
  if s.isMaster then respond h (refusal .conflict) s
  else clearAddress (respond h (.done 0) s)

/-- ADDRESS_CLEAR (R209). -/
def execAddressClear (h : Head) (s : State) : Answer :=
  .next (execRequest h 25 (.addressClear h) (addressClear h) s)

/-- ADDRESS_OFFER, read by an unassigned slave (R48, R207). -/
def execAddressOffer (address : Octet) (fits : Bool) (s : State) : Answer :=
  whenever (awaitsAddress s && offerLegal address) (takeOffer address fits) s

/-- ADDRESS_TAKEN (R197, R208): on a slave it is a walk message in another case. -/
def execAddressTaken (address : Octet) (_serial : BitVec 48) (s : State) : Answer :=
  .next (if s.isMaster then takeTaken address s else ignoreMgmt s)

/-- ADDRESS_OFFER_RETURNED, on the master (R208). -/
def execAddressOfferReturned (s : State) : Answer := whenever s.isMaster offerReturned s

/-- The walk timer has reached 2000 cycles (R208). -/
def walkDue (s : State) : Bool :=
  s.agent.walk.running && s.agent.walk.timer.any fun t => decide (2000 ≤ t)

/-- WALK_TIMEOUT (R208). -/
def execWalkTimeout (s : State) : Answer := whenever (walkDue s) walkExpires s

end Sys2Proof.Machine
end

