-- ==== Sys2Proof/Machine/Tick.lean ====
section
/-! DEFINITION. The passing of one cycle period when no command waits (log 2), in three parts: what
the end of the period's inputs brings about is queued; when it has been taken the cycle is settled,
protection and reachability once for the whole of it, and a slave's own cycle is queued; when that
has been sent the next period opens with the master's cycle, timers advance and the rows that have come
due are queued. The table has no row for any of the three. -/

namespace Sys2Proof.Machine

/-! ## Settling a cycle -/

/-- The cycle last sent out of a port. -/
def sentAt (s : State) : Port → Octets
  | .w => s.out.txW
  | .e => s.out.txE

/-- The flags of a header that leaves port `p`, as the cycle leaves them: FAR_END_FAULT of the port,
and on the master CENTRE_UP of the uplink (R7, R18). -/
def flagged (p : Port) (s : State) (h : CycleHeader) : CycleHeader :=
  { h with farEnd := rxFaulted (portAt s p)
           centreUp := if s.isMaster then s.pins.uplinkUp else h.centreUp }

/-- A sent cycle with its header's flags as the cycle leaves them, the header check recomputed. Its
voice slots stay as they were sent, on the master also when the uplink moves after that (R102), which is
the model's choice (log 50). -/
def reflag (p : Port) (s : State) (cycle : Octets) : Octets :=
  match decodeCycleHeader cycle with
  | some h => encodeCycleHeader (flagged p s h) ++ cycle.drop 10
  | none => cycle

/-- The flags of a cycle that its port already has: FAR_END_FAULT is set in every cycle in which the
receive side is faulted (R7), CENTRE_UP in every cycle in which the uplink is up (R18, log 18). -/
def reflagPort (p : Port) (s : State) : State :=
  if isFed s p then transmit p (reflag p s (sentAt s p)) s else s

/-- A slave's port that nothing has fed sends the node's own header, silence and an empty zone (R2,
R17, R26 to R28). -/
def feedPort (p : Port) (s : State) : State :=
  if s.isMaster then s else unlessFed p (sendEmpty p (ownHeader s)) s

/-- What a period without a processed cycle sends inward: silence to the phones and on the lanes
(R78, R102). -/
def quiet (s : State) : State :=
  if s.period.processed then s else silenceLanes (silencePhones s)

/-- The end of a cycle for what follows a level of the whole cycle: the protection state has moved
once (R24), the change of reachability is handed (R22), conditions 49 and 50 follow the state (R33),
56 and 57 the journal (R130). A detach is thus taken after an answer of its cycle, which R121 leaves
open and is the model's choice (log 13). -/
def settleCycle (s : State) : State :=
  journalConditions (protectionConditions (handReach (settleProtection s)))

/-! ## Timers and counters -/

def later (o : Option Nat) : Option Nat := o.map (· + 1)

/-- A line port one cycle later (R6, R10, R11). The bring-up count takes the cycle that begins for one in
which the port stays clear; one in which it does not sets the count back (log 49). -/
def laterPort (forced : Bool) (p : LinePort) : LinePort :=
  { p with
    alignCycles := if p.rx = .aligning then min 5 (p.alignCycles + 1) else p.alignCycles
    wtrTimer := later p.wtrTimer
    bringUp := if bringingUp forced p then min 16 (p.bringUp + 1) else p.bringUp
    completed := none }

/-- A phone position one period later: the hook compared, the button timed, the timers (R65, R66,
R72, R74). -/
def laterPosition (raw : Hook) (pressed : Bool) (p : Position) : Position :=
  { p with
    hookCount := if raw = p.debounced then 0 else min 20 (p.hookCount + 1)
    holdCount :=
      if !pressed then 0 else if p.holdCount < 3999 then p.holdCount + 1 else p.holdCount
    resend := later p.resend
    ring := later p.ring }

/-- The Phone Interface one period later (R65, R66, R77). -/
def laterPhone (pins : Pins) (p : PhoneInterface) : PhoneInterface :=
  { p with
    positions := ⟨(indices 4).map fun q =>
      laterPosition (pins.hooks.get q) (pins.buttons.get q) (p.positions.get q), by simp [indices]⟩
    statusTimer := p.statusTimer + 1 }

/-- A call one cycle later (R100). -/
def laterCall (e : CallEntry) : CallEntry := if isLive e then { e with age := min 3000 (e.age + 1) } else e

/-- The Slot Allocator one cycle later (R99, R100). -/
def laterAlloc (a : SlotAllocator) : SlotAllocator :=
  { a with calls := a.calls.map laterCall
           plans := a.plans.map fun r => { r with quarantine := later r.quarantine } }

/-- The Toll Relay one cycle later (R105, R112). -/
def laterToll (t : TollRelay) : TollRelay :=
  { t with pendingTable := t.pendingTable.map fun p => { p with timer := p.timer + 1 }
           runFresh := false }

/-- The Toll Journal one cycle later (R126, R135). -/
def laterJournal (j : TollJournal) : TollJournal :=
  { j with records := j.records.map fun r => { r with inFlight := later r.inFlight }
           subSecond := j.subSecond + 1 }

/-- A pulse input examined (R140). -/
def examinePulse (raw : Bool) (p : PulseInput) : PulseInput :=
  { p with differ := if raw = p.level then 0 else p.differ + 1 }

/-- The Weather Sampler one period later (R139, R140). -/
def laterWx (pins : Pins) (x : WeatherSampler) : WeatherSampler :=
  { x with
    clock := x.clock + 1
    pulses := ⟨(indices 4).map fun k => examinePulse (pins.pulses.get k) (x.pulses.get k),
      by simp [indices]⟩ }

/-- The sender one cycle later (R188, R192). -/
def laterSender (x : Sender) : Sender :=
  { x with
    sentCycles := if x.state = .sending then x.sentCycles + 1 else x.sentCycles
    answerTimer := later x.answerTimer
    pollTimer := if x.state = .idle then x.pollTimer + 1 else x.pollTimer }

/-- The Sign Controller one cycle later (R178, R180, R183). That the elapsed time of a centre request
with lifetime 0 stops at 4294967295 is the model's choice (log 46). -/
def laterSign (g : SignController) : SignController :=
  { g with
    hold := later g.hold
    centre := g.centre.map fun c => { c with elapsed := min countMax (c.elapsed + 1) }
    test := g.test.map fun t => { t with elapsed := t.elapsed + 1 }
    sender := laterSender g.sender }

/-- The settings that the timers of the next period are compared with (R10, R115, R183, R187). -/
def settingsNow (s : State) : TimerSettings :=
  { wtrSeconds := s.line.wtrSeconds, tToll := s.toll.tToll, holdSeconds := s.sign.holdSeconds
    answerLimit := s.sign.answerLimit }

/-- Every timer and counter of the node one cycle later, the number of the cycle that the master now
originates (R18), and a fresh period; what a RESTART has raised since the cycle was settled is kept. -/
def advance (s : State) : State :=
  { s with
    line := { s.line with w := laterPort (forcedOn s .w) s.line.w
                          e := laterPort (forcedOn s .e) s.line.e }
    timer := { s.timer with duplicate := later s.timer.duplicate
                            number := if s.isMaster then s.timer.number + 1 else s.timer.number }
    phone := laterPhone s.pins s.phone
    alloc := if s.isMaster then laterAlloc s.alloc else s.alloc
    toll := laterToll s.toll
    journal := laterJournal s.journal
    wx := laterWx s.pins s.wx
    sign := laterSign s.sign
    agent := { s.agent with walk := { s.agent.walk with timer := later s.agent.walk.timer } }
    out := { s.out with uplink := [] }
    period := { Period.fresh (settingsNow s) with raised := s.period.raised } }

/-! ## Rows that have come due -/

/-- A row, when its condition holds. -/
def row (due : Bool) (i : Instr) : List Instr := if due then [i] else []

/-- The fifth cycle of ALIGNING makes ALIGN hold: a port not faulted becomes faulted, a faulted one
takes the reason (R6). -/
def alignRowDue (p : LinePort) : Bool :=
  alignFaultDue p && (!p.faulted || p.reason != .align)

/-- Rows of the line ports. They stand before the others: a frame of the cycle in which a port
recovers is offered after the recovery (R32, log 3). A bring-up that completes is taken back when the
port does not stay clear in the cycle (R11, log 49). -/
def lineRows (s : State) : List Instr :=
  [Port.w, Port.e].flatMap fun p =>
    row (alignRowDue (portAt s p)) (.alignFaultCount p) ++
    row (wtrDue s p) (.wtrExpiry p) ++ row (bringUpDue s p) (.bringUpComplete p)

/-- The positions whose button hold count reaches 4000 in the period that begins: it stood at 3999
before it, and the button still reads pressed (R66). -/
def pressing (s : State) : List (Fin 4) := (indices 4).filter (pressDue s)

/-- Rows of one phone position; `pressed` lists the positions that complete a press. -/
def positionRows (pressed : List (Fin 4)) (s : State) (q : Fin 4) : List Instr :=
  row (hookDue s q .off) (.offHook q) ++ row (hookDue s q .on) (.onHook q) ++
  row (decide (q ∈ pressed)) (.priorityPress q) ++ row (requestDue (posAt s q)) (.callRequestResend q) ++
  row (releaseDue s q) (.callReleaseResend q) ++ row (ringDue (posAt s q)) (.ringTimeout q)

/-- Rows of the Phone Interface. -/
def phoneRows (pressed : List (Fin 4)) (s : State) : List Instr :=
  row (switchDue s) .planSwitch ++ (indices 4).flatMap (positionRows pressed s) ++
  row (decide (1000 ≤ s.phone.statusTimer)) .statusTimerExpiry

/-- Rows of one node of the plan records. -/
def nodeRows (s : State) (n : Fin 240) : List Instr :=
  row (comeRoundDue s n) (.planComeRound n) ++ row (unanswered s n) (.planUnanswered n) ++
  row (quarantineDue s n) (.absentQuarantineExpiry n)

/-- Rows of the Slot Allocator. -/
def allocRows (s : State) : List Instr :=
  if s.isMaster then
    (indices 240).flatMap (nodeRows s) ++
    s.alloc.calls.flatMap fun e =>
      row (isLive e && decide (3000 ≤ e.age)) (.callSupervisionExpiry e.node e.position)
  else []

/-- The drain has something to offer in the period, or an expiry of the period may give it something
(R131, R135). A record that an input of the period, or a relink, leaves to offer waits for the next
period, and a drain is taken before a detach of its cycle: both are the model's choice (log 3). -/
def drainRowDue (s : State) : Bool :=
  reachable s && (!(drainKeys s.journal).isEmpty || !(pendingExpired s).isEmpty ||
    s.journal.records.any inFlightDue)

/-- Rows of the Toll Relay and the journal. The answer of a period leaves before the answers that its
inputs make, and an answer made into a list that was empty as the period opened, one of PENDING_TIMEOUT
among them, waits for the next period: R107 leaves both open, and they are the model's choice (log 3).
-/
def tollRows (s : State) : List Instr :=
  row (!(pendingExpired s).isEmpty) .pendingTimeout ++
  row (!s.toll.answers.isEmpty) .answerBlockSent ++
  row (s.journal.records.any inFlightDue) .inflightTimeout ++
  row (drainRowDue s) .journalDrain ++
  row (decide (1000 ≤ s.journal.subSecond)) .secondsClock

/-- Rows of the pulse inputs. -/
def wxRows (s : State) : List Instr :=
  (indices 4).flatMap fun k => row (pulseDue s k) (.pulseEdge k)

/-- Rows of the Sign Controller. -/
def signRows (s : State) : List Instr :=
  row (s.sign.test.any fun t => decide (60000 ≤ t.elapsed)) .testTimerExpiry ++
  row (s.sign.centre.any lifetimeDue) .centreLifetimeExpiry ++
  row (holdDue s) .holdExpiry ++
  row (commandDone s.sign.sender) .commandSent ++ row (answerDue s) .answerTimeout ++
  row (pollDue s.sign.sender) .pollTimerExpiry

/-- The request at the head of the queue, as the row that executes it (R198). -/
def requestRows (s : State) : List Instr :=
  match s.agent.requests with
  | [] => []
  | r :: _ => (entryInstr r).toList

/-- The rows that have come due as a period opens, in the order that `choices` gives; the rows of
the line ports and the sample tick stand apart. -/
def dueRows (pressed : List (Fin 4)) (s : State) : List Instr :=
  phoneRows pressed s ++ allocRows s ++ tollRows s ++ wxRows s ++ signRows s ++
  row (walkDue s) .walkTimeout

/-- A slave's centre-header age reaches 16 in this cycle (R20). -/
def ageEnds (s : State) : Bool :=
  !s.isMaster && s.prot.linked && !s.period.qualified && decide (15 ≤ s.prot.age)

/-- The centre-header age counts a cycle without a qualifying header (R20); a LINKED slave's last
step, to 16, is the row CENTRE_HEADER_AGE_EXPIRY's. It counts as the inputs of the cycle are in, so
that a READ executed in the cycle sees it counted, which is the model's choice (log 2). A master's age
stands (log 41). -/
def countedAge (s : State) : Nat :=
  if s.isMaster || s.period.qualified then s.prot.age
  else if s.prot.linked then max s.prot.age (min 15 (s.prot.age + 1))
  else min 16 (s.prot.age + 1)

/-- The rows of reachability, which stand before the others that the inputs have brought about: the
cycle is DETACHED from its sixteenth without a header of the centre (R16, R20, log 3). -/
def reachRows (s : State) : List Instr :=
  row (recirculationDue s) .recirculation ++ row (ageEnds s) .centreHeaderAgeExpiry

/-- What else the inputs of a period have brought about, once all of them are in: 1000 cycles without
a header of a second master, a plan that has come round, the end of a toll run, the request at the
head of the queue (R19, R97, R105, R198); in the cycle of a power-on the first POLL (R195). -/
def broughtRows (s : State) : List Instr :=
  row (duplicateDue s) .duplicateMasterClear ++
  (if s.isMaster then
    (indices 240).flatMap fun n => row (comeRoundDue s n) (.planComeRound n) else []) ++
  row (!s.toll.run.isEmpty && !s.toll.runFresh) (.tollRunClose []) ++
  row (pollDue s.sign.sender) .pollTimerExpiry ++ requestRows s

/-- A list in the order that a choice gives: its next element is the one at the choice modulo the
number left, the rest of the choice decides the rest (log 3). -/
def arrange {α : Type} : Nat → Nat → List α → List α × Nat
  | 0, c, xs => (xs, c)
  | k + 1, c, xs =>
    match xs[c % xs.length]? with
    | none => (xs, c)
    | some x =>
      let r := arrange k (c / xs.length) (xs.eraseIdx (c % xs.length))
      (x :: r.1, r.2)

/-- A sample tick and the samples that fall to it, in an order of their own (R139, R143). They stay
together: a WRITE or a RESTART of the same cycle is taken before the tick or after its samples
(R142). A channel that is not due takes no sample. -/
def sampleBlock (choice : Nat) : List Instr × Nat :=
  let r := arrange 16 choice ((indices 16).map .channelSample)
  (.sampleTick :: r.1, r.2)

/-- The rows of a period in the order that a choice gives; a sample tick goes with its samples
(log 3). -/
def orderRows (tickDue : Bool) (choice : Nat) (due : List Instr) : List Instr × Nat :=
  let block := if tickDue then sampleBlock choice else ([], choice)
  let parts := (if tickDue then [block.1] else []) ++ due.map fun i => [i]
  let r := arrange parts.length block.2 parts
  (r.1.flatten, r.2)

/-- An unreadable request at the head of the queue is refused in its period (R198, R200, log 25). -/
def refuseHead (s : State) : State :=
  match s.agent.requests with
  | [] => s
  | r :: rest => if (entryInstr r).isNone then refuseUnreadable r rest s else s

/-- The inputs of the period have all come: the centre-header age counts the cycle, and what they
brought about is queued (log 2, log 3). A queued WRITE or RESTART is thus taken after the samples of
its cycle, and a queued FORCE_WRAP after a port fault or a WTR_EXPIRY of it: R142, R37 and R198 leave
either order open, and it is the model's choice (log 3). -/
def closePeriod (s : State) : State :=
  let r := orderRows false s.choices (broughtRows s)
  let rows := reachRows s ++ r.1
  let s := (setAge (countedAge s) (refuseHead s)).modPeriod fun x => { x with stage := .closing }
  { s with pending := s.pending ++ rows, choices := r.2 }

/-- The cycle the node sends of its own timing, as the settled state steers it (R25): that of a slave
without a processed header (R14, R15), and the master's in the period of its power-on, which had no
opening (R2, R18, R23). -/
def ownCycle (s : State) : List Instr :=
  if s.isMaster then row (!s.period.originated) .originateCycle
  else if s.period.processed then []
  else if s.timer.holdover then [.holdoverCycle]
  else if 3 ≤ s.timer.missing then [.holdoverEntry]
  else [.missingCycle]

/-- A bank switch that a slave's own number brings about, once its cycle has given the number
(R87). -/
def ownSwitch (s : State) : List Instr :=
  row (!s.isMaster && !s.period.processed && switchDue (nextNumber s)) .planSwitch

/-- The events of the inputs have been taken: the cycle is settled, and the node's own cycle queued
(log 2). -/
def settlePeriod (s : State) : State :=
  let s := quiet (reflagPort .e (reflagPort .w (settleCycle s)))
  let s := s.modPeriod fun x => { x with stage := .sending, raised := [] }
  { s with pending := s.pending ++ ownCycle s ++ ownSwitch s }

/-- The node's own cycle has been sent: every transmitter of a slave has its cycle (R2), the next
period opens, timers and counters advance, the master originates its cycle, which carries what was
offered before it (05 section 5.7), and the rows that have come due are queued (log 2, log 3). The
rows are thus taken before every input of the period: an expiry before an answer of its cycle (R121),
an on-hook before the bank switch that a slave's header brings (R70), the answer that leaves before
those that inputs make (R107), the drain before a detach (R136). The manual leaves each open, and it
is the model's choice (log 3). -/
def openPeriod (s : State) : State :=
  let pressed := pressing s
  let s := advance (feedPort .e (feedPort .w s))
  let r := orderRows (decide (100 ≤ s.wx.clock)) s.choices (dueRows pressed s)
  { s with
    pending := s.pending ++ row s.isMaster .originateCycle ++ lineRows s ++ r.1, choices := r.2 }

/-- What a step does when no command waits (log 2): the three parts of the end of a cycle period, one
after another. -/
def tick (s : State) : State :=
  match s.period.stage with
  | .inputs => closePeriod s
  | .closing => settlePeriod s
  | .sending => openPeriod s

end Sys2Proof.Machine
end

