-- ==== Sys2Proof/Machine/Dispatch.lean ====
section
/-! DEFINITION. The meaning of every command: one arm per row of spec/opcode_table.json. -/

namespace Sys2Proof.Machine

def exec (i : Instr) (s : State) : Host.Outcome State Fault Refusal :=
  match i with
  | .powerOn strap => Sys2Proof.Machine.execPowerOn strap s
  | .signalLost p => Sys2Proof.Machine.execSignalLost p s
  | .signalRegained p => Sys2Proof.Machine.execSignalRegained p s
  | .markerFound p => Sys2Proof.Machine.execMarkerFound p s
  | .headerReceived p cycle => Sys2Proof.Machine.execHeaderReceived p cycle s
  | .alignFaultCount p => Sys2Proof.Machine.execAlignFaultCount p s
  | .wtrExpiry p => Sys2Proof.Machine.execWtrExpiry p s
  | .bringUpComplete p => Sys2Proof.Machine.execBringUpComplete p s
  | .recirculation => Sys2Proof.Machine.execRecirculation s
  | .duplicateMasterClear => Sys2Proof.Machine.execDuplicateMasterClear s
  | .missingCycle => Sys2Proof.Machine.execMissingCycle s
  | .holdoverEntry => Sys2Proof.Machine.execHoldoverEntry s
  | .holdoverCycle => Sys2Proof.Machine.execHoldoverCycle s
  | .originateCycle => Sys2Proof.Machine.execOriginateCycle s
  | .centreHeaderAgeExpiry => Sys2Proof.Machine.execCentreHeaderAgeExpiry s
  | .uplinkDown => Sys2Proof.Machine.execUplinkDown s
  | .uplinkUp => Sys2Proof.Machine.execUplinkUp s
  | .uplinkFrame octets => Sys2Proof.Machine.execUplinkFrame octets s
  | .fieldFrame octets => Sys2Proof.Machine.execFieldFrame octets s
  | .offHook q => Sys2Proof.Machine.execOffHook q s
  | .onHook q => Sys2Proof.Machine.execOnHook q s
  | .priorityPress q => Sys2Proof.Machine.execPriorityPress q s
  | .callRequestResend q => Sys2Proof.Machine.execCallRequestResend q s
  | .callReleaseResend q => Sys2Proof.Machine.execCallReleaseResend q s
  | .ringTimeout q => Sys2Proof.Machine.execRingTimeout q s
  | .statusTimerExpiry => Sys2Proof.Machine.execStatusTimerExpiry s
  | .callQueued ref place => Sys2Proof.Machine.execCallQueued ref place s
  | .planUpdate via source version switchCycle slots => Sys2Proof.Machine.execPlanUpdate via source version switchCycle slots s
  | .planSwitch => Sys2Proof.Machine.execPlanSwitch s
  | .vsigFrameIgnored payload => Sys2Proof.Machine.execVsigFrameIgnored payload s
  | .callRequest source ref priority resume answer => Sys2Proof.Machine.execCallRequest source ref priority resume answer s
  | .callRelease source ref => Sys2Proof.Machine.execCallRelease source ref s
  | .callStatus source refs => Sys2Proof.Machine.execCallStatus source refs s
  | .planAccept source node version => Sys2Proof.Machine.execPlanAccept source node version s
  | .planLate source node version => Sys2Proof.Machine.execPlanLate source node version s
  | .planComeRound n => Sys2Proof.Machine.execPlanComeRound n s
  | .planUnanswered n => Sys2Proof.Machine.execPlanUnanswered n s
  | .absentQuarantineExpiry n => Sys2Proof.Machine.execAbsentQuarantineExpiry n s
  | .callSupervisionExpiry n q => Sys2Proof.Machine.execCallSupervisionExpiry n q s
  | .setVoiceCapacity h capacity => Sys2Proof.Machine.execSetVoiceCapacity h capacity s
  | .tollRunClose octets => Sys2Proof.Machine.execTollRunClose octets s
  | .pendingTimeout => Sys2Proof.Machine.execPendingTimeout s
  | .tollAnswer via lane txn verdict balance => Sys2Proof.Machine.execTollAnswer via lane txn verdict balance s
  | .settled via lane txn => Sys2Proof.Machine.execSettled via lane txn s
  | .answerBlockSent => Sys2Proof.Machine.execAnswerBlockSent s
  | .journalDrain => Sys2Proof.Machine.execJournalDrain s
  | .inflightTimeout => Sys2Proof.Machine.execInflightTimeout s
  | .secondsClock => Sys2Proof.Machine.execSecondsClock s
  | .tollFrameIgnored via channel payload => Sys2Proof.Machine.execTollFrameIgnored via channel payload s
  | .sampleTick => Sys2Proof.Machine.execSampleTick s
  | .pulseEdge k => Sys2Proof.Machine.execPulseEdge k s
  | .channelSample c => Sys2Proof.Machine.execChannelSample c s
  | .wxFrameIgnored => Sys2Proof.Machine.execWxFrameIgnored s
  | .alarmFrameIgnored => Sys2Proof.Machine.execAlarmFrameIgnored s
  | .setCentreFlag h k value => Sys2Proof.Machine.execSetCentreFlag h k value s
  | .setMask h value => Sys2Proof.Machine.execSetMask h value s
  | .eventAck h conditions => Sys2Proof.Machine.execEventAck h conditions s
  | .signShow h page priority lifetime => Sys2Proof.Machine.execSignShow h page priority lifetime s
  | .signClear h => Sys2Proof.Machine.execSignClear h s
  | .signFrame source payload => Sys2Proof.Machine.execSignFrame source payload s
  | .signTest h page => Sys2Proof.Machine.execSignTest h page s
  | .testTimerExpiry => Sys2Proof.Machine.execTestTimerExpiry s
  | .centreLifetimeExpiry => Sys2Proof.Machine.execCentreLifetimeExpiry s
  | .holdExpiry => Sys2Proof.Machine.execHoldExpiry s
  | .signResend h => Sys2Proof.Machine.execSignResend h s
  | .commandSent => Sys2Proof.Machine.execCommandSent s
  | .signAccept page => Sys2Proof.Machine.execSignAccept page s
  | .signReject reason => Sys2Proof.Machine.execSignReject reason s
  | .signStatusAnswer page faults => Sys2Proof.Machine.execSignStatusAnswer page faults s
  | .signBadAnswer octets => Sys2Proof.Machine.execSignBadAnswer octets s
  | .answerTimeout => Sys2Proof.Machine.execAnswerTimeout s
  | .pollTimerExpiry => Sys2Proof.Machine.execPollTimerExpiry s
  | .mgmtFrameReceived origin frame => Sys2Proof.Machine.execMgmtFrameReceived origin frame s
  | .read h table first count => Sys2Proof.Machine.execRead h table first count s
  | .write h table first count entries => Sys2Proof.Machine.execWrite h table first count entries s
  | .writeRingSettings h first entries => Sys2Proof.Machine.execWriteRingSettings h first entries s
  | .writeTollSettings h first entries => Sys2Proof.Machine.execWriteTollSettings h first entries s
  | .writeClassTable h first entries => Sys2Proof.Machine.execWriteClassTable h first entries s
  | .writeChannelTable h first entries => Sys2Proof.Machine.execWriteChannelTable h first entries s
  | .writeEventTable h first entries => Sys2Proof.Machine.execWriteEventTable h first entries s
  | .writeSignRules h first entries => Sys2Proof.Machine.execWriteSignRules h first entries s
  | .writePageTable h first entries => Sys2Proof.Machine.execWritePageTable h first entries s
  | .writePageStore h first blocks => Sys2Proof.Machine.execWritePageStore h first blocks s
  | .writeSignSettings h first entries => Sys2Proof.Machine.execWriteSignSettings h first entries s
  | .restart h => Sys2Proof.Machine.execRestart h s
  | .forceWrap h side => Sys2Proof.Machine.execForceWrap h side s
  | .clearForce h => Sys2Proof.Machine.execClearForce h s
  | .denyAdd h tag => Sys2Proof.Machine.execDenyAdd h tag s
  | .denyRemove h tag => Sys2Proof.Machine.execDenyRemove h tag s
  | .denyClear h => Sys2Proof.Machine.execDenyClear h s
  | .acceptAdd h service channel => Sys2Proof.Machine.execAcceptAdd h service channel s
  | .acceptRemove h service channel => Sys2Proof.Machine.execAcceptRemove h service channel s
  | .fieldLock h => Sys2Proof.Machine.execFieldLock h s
  | .fieldUnlock h => Sys2Proof.Machine.execFieldUnlock h s
  | .callBack h position => Sys2Proof.Machine.execCallBack h position s
  | .wxRead h => Sys2Proof.Machine.execWxRead h s
  | .countsClear h => Sys2Proof.Machine.execCountsClear h s
  | .identify h => Sys2Proof.Machine.execIdentify h s
  | .assignAddresses h first => Sys2Proof.Machine.execAssignAddresses h first s
  | .addressClear h => Sys2Proof.Machine.execAddressClear h s
  | .addressOffer address fits => Sys2Proof.Machine.execAddressOffer address fits s
  | .addressTaken address serial => Sys2Proof.Machine.execAddressTaken address serial s
  | .addressOfferReturned => Sys2Proof.Machine.execAddressOfferReturned s
  | .walkTimeout => Sys2Proof.Machine.execWalkTimeout s
  | .allocFrameIgnored source payload => Sys2Proof.Machine.execAllocFrameIgnored source payload s

end Sys2Proof.Machine
end

