-- ==== Sys2Proof/WellFormed.lean ====
section
/-! DEFINITION. Well-formed commands: the operands lie within the fields that carry them (12, R211 to
R215), and a command whose row names a message carries one that its format can hold. `exec` does not
ask for it: a command that is not well formed has a meaning too, but nothing outside the node can
bring it about. -/

namespace Sys2Proof

/-- A number that one octet carries. -/
def fits1 (n : Nat) : Bool := decide (n ≤ 255)

/-- A number that two octets carry. -/
def fits2 (n : Nat) : Bool := decide (n ≤ 65535)

/-- A number of one octet, written in a signed form. -/
def intFits1 (x : Int) : Bool := decide (0 ≤ x ∧ x ≤ 255)

/-- A number of two octets without sign. -/
def intFits2 (x : Int) : Bool := decide (0 ≤ x ∧ x ≤ 65535)

/-- A signed number of two octets. -/
def signedFits2 (x : Int) : Bool := decide (-32768 ≤ x ∧ x ≤ 32767)

/-- A request of the centre comes from source 0 (R197). -/
def Head.wellFormed (h : Head) : Bool := h.origin == .field || h.source == 0

/-- A frame's payload holds at most 496 octets (R41). -/
def Frame.wellFormed (f : Frame) : Bool := decide (f.payload.length ≤ 496)

/-- A WRITE's entries fit into the payload of a frame after the six octets before them (R41, R214).
-/
def entriesFit (size count : Nat) : Bool := decide (6 + size * count ≤ 496)

/-- The fields of a written channel entry fit their octets (R141, R214). -/
def ChannelWrite.wellFormed (e : ChannelWrite) : Bool :=
  fits1 e.source && intFits2 e.period && intFits2 e.zero && signedFits2 e.gain &&
  signedFits2 e.offset && intFits1 e.window && intFits1 e.shift && fits1 e.compare &&
  signedFits2 e.highSet && signedFits2 e.highClear && signedFits2 e.lowSet &&
  signedFits2 e.lowClear && fits1 e.highEnable && fits1 e.lowEnable && intFits1 e.persist &&
  intFits2 e.interval

/-- The fields of a written sign rule fit their octets; 0xFF names no condition B (R176, R214). -/
def RuleWrite.wellFormed (e : RuleWrite) : Bool :=
  fits1 e.condA && fits1 e.senseA && (e.condB.all fun c => decide (c < 255)) && fits1 e.senseB &&
  fits1 e.page && intFits1 e.priority && fits1 e.enabled

/-- The fields of a segment fit their octets (R185, R214). -/
def Segment.wellFormed (g : Segment) : Bool := fits2 g.block && fits2 g.length && fits1 g.endMark

/-- A WRITE command: its head, first index and number of entries. -/
def writeFits (h : Head) (first size count : Nat) : Bool :=
  h.wellFormed && fits2 first && entriesFit size count

/-- A command that can be brought about. -/
def Instr.wellFormed : Instr → Bool
  | .powerOn _ => true
  | .signalLost _ => true
  | .signalRegained _ => true
  | .markerFound _ => true
  | .headerReceived _ cycle => decide (cycle.length = 1024)
  | .alignFaultCount _ => true
  | .wtrExpiry _ => true
  | .bringUpComplete _ => true
  | .recirculation => true
  | .duplicateMasterClear => true
  | .missingCycle => true
  | .holdoverEntry => true
  | .holdoverCycle => true
  | .originateCycle => true
  | .centreHeaderAgeExpiry => true
  | .uplinkDown => true
  | .uplinkUp => true
  | .uplinkFrame octets => !octets.isEmpty
  | .fieldFrame octets => !octets.isEmpty
  | .offHook _ => true
  | .onHook _ => true
  | .priorityPress _ => true
  | .callRequestResend _ => true
  | .callReleaseResend _ => true
  | .ringTimeout _ => true
  | .statusTimerExpiry => true
  | .callQueued _ place => fits1 place
  | .planUpdate _ _ _ _ slots => decide (slots.length = 8)
  | .planSwitch => true
  | .vsigFrameIgnored payload => decide (payload.length ≤ 496)
  | .callRequest _ _ _ _ _ => true
  | .callRelease _ _ => true
  | .callStatus _ refs => decide (1 ≤ refs.length ∧ refs.length ≤ 4)
  | .planAccept _ _ _ => true
  | .planLate _ _ _ => true
  | .planComeRound _ => true
  | .planUnanswered _ => true
  | .absentQuarantineExpiry _ => true
  | .callSupervisionExpiry _ _ => true
  | .setVoiceCapacity h capacity => h.wellFormed && fits1 capacity
  | .tollRunClose _ => true
  | .pendingTimeout => true
  | .tollAnswer _ _ _ _ _ => true
  | .settled _ _ _ => true
  | .answerBlockSent => true
  | .journalDrain => true
  | .inflightTimeout => true
  | .secondsClock => true
  | .tollFrameIgnored _ _ payload => decide (payload.length ≤ 496)
  | .sampleTick => true
  | .pulseEdge _ => true
  | .channelSample _ => true
  | .wxFrameIgnored => true
  | .alarmFrameIgnored => true
  | .setCentreFlag h k value => h.wellFormed && fits1 k && fits1 value
  | .setMask h value => h.wellFormed && fits1 value
  | .eventAck h conditions =>
    h.wellFormed && conditions.all fun cs => decide (1 ≤ cs.length ∧ cs.length ≤ 64) && cs.all fits1
  | .signShow h page priority lifetime =>
    h.wellFormed && fits1 page && fits1 priority && fits2 lifetime
  | .signClear h => h.wellFormed
  | .signFrame _ payload => decide (payload.length ≤ 496)
  | .signTest h page => h.wellFormed && fits1 page
  | .testTimerExpiry => true
  | .centreLifetimeExpiry => true
  | .holdExpiry => true
  | .signResend h => h.wellFormed
  | .commandSent => true
  | .signAccept page => decide (page ≤ 63)
  | .signReject _ => true
  | .signStatusAnswer page _ => decide (page ≤ 63)
  | .signBadAnswer octets => !octets.isEmpty
  | .answerTimeout => true
  | .pollTimerExpiry => true
  | .mgmtFrameReceived _ frame => frame.wellFormed && frame.service == 1
  | .read h table first count => h.wellFormed && fits1 table && fits2 first && fits2 count
  | .write h table first count entries =>
    h.wellFormed && fits1 table && fits2 first && fits2 count && entriesFit 1 entries.length
  | .writeRingSettings h first es =>
    writeFits h first 3 es.length && es.all fun e => intFits1 e.1 && intFits2 e.2
  | .writeTollSettings h first es =>
    writeFits h first 3 es.length && es.all fun e => intFits2 e.1 && intFits1 e.2
  | .writeClassTable h first es => writeFits h first 1 es.length && es.all fits1
  | .writeChannelTable h first es =>
    writeFits h first 25 es.length && es.all ChannelWrite.wellFormed
  | .writeEventTable h first es =>
    writeFits h first 2 es.length && es.all fun e => fits1 e.1 && fits1 e.2
  | .writeSignRules h first es => writeFits h first 7 es.length && es.all RuleWrite.wellFormed
  | .writePageTable h first es =>
    writeFits h first 41 es.length && es.all fun d => fits1 d.length && d.all Segment.wellFormed
  | .writePageStore h first bs =>
    writeFits h first 64 bs.length && bs.all fun b => decide (b.length = 64)
  | .writeSignSettings h first es =>
    writeFits h first 3 es.length && es.all fun e => intFits1 e.1 && intFits2 e.2
  | .restart h => h.wellFormed
  | .forceWrap h side => h.wellFormed && fits1 side
  | .clearForce h => h.wellFormed
  | .denyAdd h _ => h.wellFormed
  | .denyRemove h _ => h.wellFormed
  | .denyClear h => h.wellFormed
  | .acceptAdd h service channel => h.wellFormed && fits1 service && fits1 channel
  | .acceptRemove h service channel => h.wellFormed && fits1 service && fits1 channel
  | .fieldLock h => h.wellFormed
  | .fieldUnlock h => h.wellFormed
  | .callBack h position => h.wellFormed && fits1 position
  | .wxRead h => h.wellFormed
  | .countsClear h => h.wellFormed
  | .identify h => h.wellFormed
  | .assignAddresses h first => h.wellFormed && fits1 first
  | .addressClear h => h.wellFormed
  | .addressOffer _ _ => true
  | .addressTaken _ _ => true
  | .addressOfferReturned => true
  | .walkTimeout => true
  | .allocFrameIgnored _ payload => decide (payload.length ≤ 496)

/-- The head of a request, for the commands that execute one (R198). -/
def Instr.head? : Instr → Option Head
  | .powerOn _ => none
  | .signalLost _ => none
  | .signalRegained _ => none
  | .markerFound _ => none
  | .headerReceived _ _ => none
  | .alignFaultCount _ => none
  | .wtrExpiry _ => none
  | .bringUpComplete _ => none
  | .recirculation => none
  | .duplicateMasterClear => none
  | .missingCycle => none
  | .holdoverEntry => none
  | .holdoverCycle => none
  | .originateCycle => none
  | .centreHeaderAgeExpiry => none
  | .uplinkDown => none
  | .uplinkUp => none
  | .uplinkFrame _ => none
  | .fieldFrame _ => none
  | .offHook _ => none
  | .onHook _ => none
  | .priorityPress _ => none
  | .callRequestResend _ => none
  | .callReleaseResend _ => none
  | .ringTimeout _ => none
  | .statusTimerExpiry => none
  | .callQueued _ _ => none
  | .planUpdate _ _ _ _ _ => none
  | .planSwitch => none
  | .vsigFrameIgnored _ => none
  | .callRequest _ _ _ _ _ => none
  | .callRelease _ _ => none
  | .callStatus _ _ => none
  | .planAccept _ _ _ => none
  | .planLate _ _ _ => none
  | .planComeRound _ => none
  | .planUnanswered _ => none
  | .absentQuarantineExpiry _ => none
  | .callSupervisionExpiry _ _ => none
  | .setVoiceCapacity h _ => some h
  | .tollRunClose _ => none
  | .pendingTimeout => none
  | .tollAnswer _ _ _ _ _ => none
  | .settled _ _ _ => none
  | .answerBlockSent => none
  | .journalDrain => none
  | .inflightTimeout => none
  | .secondsClock => none
  | .tollFrameIgnored _ _ _ => none
  | .sampleTick => none
  | .pulseEdge _ => none
  | .channelSample _ => none
  | .wxFrameIgnored => none
  | .alarmFrameIgnored => none
  | .setCentreFlag h _ _ => some h
  | .setMask h _ => some h
  | .eventAck h _ => some h
  | .signShow h _ _ _ => some h
  | .signClear h => some h
  | .signFrame _ _ => none
  | .signTest h _ => some h
  | .testTimerExpiry => none
  | .centreLifetimeExpiry => none
  | .holdExpiry => none
  | .signResend h => some h
  | .commandSent => none
  | .signAccept _ => none
  | .signReject _ => none
  | .signStatusAnswer _ _ => none
  | .signBadAnswer _ => none
  | .answerTimeout => none
  | .pollTimerExpiry => none
  | .mgmtFrameReceived _ _ => none
  | .read h _ _ _ => some h
  | .write h _ _ _ _ => some h
  | .writeRingSettings h _ _ => some h
  | .writeTollSettings h _ _ => some h
  | .writeClassTable h _ _ => some h
  | .writeChannelTable h _ _ => some h
  | .writeEventTable h _ _ => some h
  | .writeSignRules h _ _ => some h
  | .writePageTable h _ _ => some h
  | .writePageStore h _ _ => some h
  | .writeSignSettings h _ _ => some h
  | .restart h => some h
  | .forceWrap h _ => some h
  | .clearForce h => some h
  | .denyAdd h _ => some h
  | .denyRemove h _ => some h
  | .denyClear h => some h
  | .acceptAdd h _ _ => some h
  | .acceptRemove h _ _ => some h
  | .fieldLock h => some h
  | .fieldUnlock h => some h
  | .callBack h _ => some h
  | .wxRead h => some h
  | .countsClear h => some h
  | .identify h => some h
  | .assignAddresses h _ => some h
  | .addressClear h => some h
  | .addressOffer _ _ => none
  | .addressTaken _ _ => none
  | .addressOfferReturned => none
  | .walkTimeout => none
  | .allocFrameIgnored _ _ => none

end Sys2Proof
end

