-- ==== Sys2Proof/Safety.lean ====
section
/-! DEFINITION. What a safe run keeps, said of one state: the relations between blocks that the
manual gives as standing ones, the capacities of its tables and lists, the ranges of its settings; and, of two states, what a command leaves alone. -/

namespace Sys2Proof.Machine

/-! ## What a command changes -/

/-- The parts of the state, for saying what a command leaves alone. -/
inductive Part where
  | pending | choices | openIndex | isMaster | pins | line | timer | prot | sw | phone | alloc
  | lanes | toll | journal | wx | cond | sign | agent | out | period
  deriving DecidableEq, Repr

/-- A part stands the same in two states. -/
def SamePart (s t : State) : Part → Prop
  | .pending => t.pending = s.pending
  | .choices => t.choices = s.choices
  | .openIndex => t.openIndex = s.openIndex
  | .isMaster => t.isMaster = s.isMaster
  | .pins => t.pins = s.pins
  | .line => t.line = s.line
  | .timer => t.timer = s.timer
  | .prot => t.prot = s.prot
  | .sw => t.sw = s.sw
  | .phone => t.phone = s.phone
  | .alloc => t.alloc = s.alloc
  | .lanes => t.lanes = s.lanes
  | .toll => t.toll = s.toll
  | .journal => t.journal = s.journal
  | .wx => t.wx = s.wx
  | .cond => t.cond = s.cond
  | .sign => t.sign = s.sign
  | .agent => t.agent = s.agent
  | .out => t.out = s.out
  | .period => t.period = s.period

/-- From `s` to `t` nothing changes but the parts listed. -/
def Changes (ps : List Part) (s t : State) : Prop := ∀ p, p ∉ ps → SamePart s t p

/-- The parts that a change of a condition may reach (09). -/
def condParts : List Part := [.cond, .sign, .sw, .out, .openIndex]

/-- The parts that the Toll Relay and the journal may reach (06, 07). -/
def tollParts : List Part := [.toll, .journal] ++ condParts

/-- The parts that call signalling may reach (04, 05). -/
def callParts : List Part := [.phone, .alloc, .sw, .openIndex]

/-- The parts that a change of reachability may reach as it is handed (R22). -/
def reachParts : List Part := [.prot, .phone, .alloc] ++ tollParts

/-- The parts that the end of a cycle may reach through protection, reachability and the conditions
(R22, R24, R33, R130). -/
def settleParts : List Part := .timer :: reachParts

/-- The parts that a response may reach (R199). -/
def respondParts : List Part := [.agent, .sw, .out, .openIndex]

/-! ## Requests and frames of the node -/

/-- A request passes the first three checks of R200. -/
def Permitted (h : Head) (code : Nat) (s : State) : Prop :=
  (h.origin = .field → s.agent.fieldLock = false ∧ fieldAllowed code = true) ∧
  (masterOnly code = true → s.isMaster = true)

/-- The end of a request's execution: its response is made, and it leaves the queue (R198, R199). -/
def answered (me : Instr) (h : Head) (r : Result) (s : State) : State :=
  (respond h r s).modAgent fun a => { a with requests := leaveQueue me a.requests }

/-- A request has had an effect in the listed parts and is answered DONE: it is counted, takes its
effect, its response is made, and it leaves the queue (R198, R199). -/
def DoneAfter (me : Instr) (h : Head) (ps : List Part) (s t : State) : Prop :=
  ∃ u, Changes ps (countRequest h s) u ∧ t = answered me h (.done 0) u

/-- The code of the request that a command executes (R214). -/
def requestCodeOf : Instr → Option Nat
  | .read _ _ _ _ => some 1
  | .write _ _ _ _ _ => some 2
  | .writeRingSettings _ _ _ => some 2
  | .writeTollSettings _ _ _ => some 2
  | .writeClassTable _ _ _ => some 2
  | .writeChannelTable _ _ _ => some 2
  | .writeEventTable _ _ _ => some 2
  | .writeSignRules _ _ _ => some 2
  | .writePageTable _ _ _ => some 2
  | .writePageStore _ _ _ => some 2
  | .writeSignSettings _ _ _ => some 2
  | .restart _ => some 3
  | .forceWrap _ _ => some 4
  | .clearForce _ => some 5
  | .signShow _ _ _ _ => some 6
  | .signClear _ => some 7
  | .signResend _ => some 8
  | .signTest _ _ => some 9
  | .denyAdd _ _ => some 10
  | .denyRemove _ _ => some 11
  | .denyClear _ => some 12
  | .acceptAdd _ _ _ => some 13
  | .acceptRemove _ _ _ => some 14
  | .eventAck _ _ => some 15
  | .setMask _ _ => some 16
  | .setCentreFlag _ _ _ => some 17
  | .fieldLock _ => some 18
  | .fieldUnlock _ => some 19
  | .callBack _ _ => some 20
  | .wxRead _ => some 21
  | .countsClear _ => some 22
  | .identify _ => some 23
  | .assignAddresses _ _ => some 24
  | .addressClear _ => some 25
  | .setVoiceCapacity _ _ => some 26
  | _ => none

/-- The octets of a WRITE (R214). -/
def writeOctets (table first : Nat) (entries : List Octets) : Option Octets :=
  some ([2, octet table] ++ octetsOf 2 first ++ octetsOf 2 entries.length ++ entries.flatten)

/-- The octets of a channel table entry: its fields in the order of R141 (R214). -/
def channelOctets (e : ChannelWrite) : Octets :=
  [octet e.source] ++ octetsOf 2 e.period.toNat ++ octetsOf 2 e.zero.toNat ++ signed2 e.gain ++
  signed2 e.offset ++ [octet e.window.toNat, octet e.shift.toNat, octet e.compare] ++
  signed2 e.highSet ++ signed2 e.highClear ++ signed2 e.lowSet ++ signed2 e.lowClear ++
  [octet e.highEnable, octet e.lowEnable, octet e.persist.toNat] ++ octetsOf 2 e.interval.toNat

/-- The octets of a sign rule: its fields in the order of R176, 0xFF for no condition B (R214). -/
def ruleOctets (e : RuleWrite) : Octets :=
  [octet e.condA, octet e.senseA, octet (e.condB.getD 255), octet e.senseB, octet e.page,
   octet e.priority.toNat, octet e.enabled]

/-- The octets of a page descriptor: a count, eight segment places (R185, R214). -/
def pageOctets (d : List Segment) : Octets :=
  [octet d.length] ++
  (d.flatMap fun g => octetsOf 2 g.block ++ octetsOf 2 g.length ++ [octet g.endMark]) ++
  List.replicate (40 - 5 * d.length) 0

/-- The octets of a request, from the table of R214: its code, then its arguments. A descriptor of
more than eight segments has none, nor has a plain WRITE to a table with a row of its own. -/
def requestOctets : Instr → Option Octets
  | .read _ t f n => some ([1, octet t] ++ octetsOf 2 f ++ octetsOf 2 n)
  | .write _ t f n raw =>
    if (writeEntrySize t).isSome then none
    else some ([2, octet t] ++ octetsOf 2 f ++ octetsOf 2 n ++ raw)
  | .writeRingSettings _ f es =>
    writeOctets 2 f (es.map fun e => [octet e.1.toNat] ++ octetsOf 2 e.2.toNat)
  | .writeTollSettings _ f es =>
    writeOctets 14 f (es.map fun e => octetsOf 2 e.1.toNat ++ [octet e.2.toNat])
  | .writeClassTable _ f es => writeOctets 15 f (es.map fun e => [octet e])
  | .writeChannelTable _ f es => writeOctets 19 f (es.map channelOctets)
  | .writeEventTable _ f es => writeOctets 23 f (es.map fun e => [octet e.1, octet e.2])
  | .writeSignRules _ f es => writeOctets 26 f (es.map ruleOctets)
  | .writePageTable _ f es =>
    if es.all fun d => decide (d.length ≤ 8) then writeOctets 27 f (es.map pageOctets) else none
  | .writePageStore _ f bs => writeOctets 28 f bs
  | .writeSignSettings _ f es =>
    writeOctets 29 f (es.map fun e => [octet e.1.toNat] ++ octetsOf 2 e.2.toNat)
  | .restart _ => some [3]
  | .forceWrap _ side => some [4, octet side]
  | .clearForce _ => some [5]
  | .signShow _ page priority lifetime =>
    some ([6, octet page, octet priority] ++ octetsOf 2 lifetime)
  | .signClear _ => some [7]
  | .signResend _ => some [8]
  | .signTest _ page => some [9, octet page]
  | .denyAdd _ tag => some (10 :: octetsOf 12 tag.toNat)
  | .denyRemove _ tag => some (11 :: octetsOf 12 tag.toNat)
  | .denyClear _ => some [12]
  | .acceptAdd _ v c => some [13, octet v, octet c]
  | .acceptRemove _ v c => some [14, octet v, octet c]
  | .eventAck _ none => some [15, 0]
  | .eventAck _ (some cs) => some ([15, octet cs.length] ++ cs.map octet)
  | .setMask _ v => some [16, octet v]
  | .setCentreFlag _ k v => some [17, octet k, octet v]
  | .fieldLock _ => some [18]
  | .fieldUnlock _ => some [19]
  | .callBack _ q => some [20, octet q]
  | .wxRead _ => some [21]
  | .countsClear _ => some [22]
  | .identify _ => some [23]
  | .assignAddresses _ a => some [24, octet a]
  | .addressClear _ => some [25]
  | .setVoiceCapacity _ c => some [26, octet c]
  | _ => none

/-- The VSIG row that a message is on the node that takes it: the Slot Allocator's on the master, the
Phone Interface's on a slave (R76, R92). -/
def vsigRow (master : Bool) (via : Via) (source : Octet) (p : Octets) : Instr :=
  match master, decodeVsig p with
  | true, some (.callRequest ref priority resume answer) =>
    .callRequest source ref priority resume answer
  | true, some (.callRelease ref) => .callRelease source ref
  | true, some (.callStatus refs) => .callStatus source refs
  | true, some (.planAccept node version) => .planAccept source node version
  | true, some (.planLate node version) => .planLate source node version
  | true, _ => .allocFrameIgnored source p
  | false, some (.callQueued ref place) => .callQueued ref place
  | false, some (.planUpdate version switchCycle slots) =>
    .planUpdate via source version switchCycle slots
  | false, _ => .vsigFrameIgnored p

/-- The row that a frame is once it is handed to the block of its service (R44, R46). -/
def handedRow (master : Bool) (via : Via) (f : Frame) : Instr :=
  let p := f.payload
  if f.service = svcMgmt then .mgmtFrameReceived .centre f
  else if f.service = svcAlarm then .alarmFrameIgnored
  else if f.service = svcToll then
    if f.channel = 4 ∧ p.length = 10 then
      .tollAnswer via (octetAt p 0) (quadAt p 1) (octetAt p 5) (quadAt p 6)
    else if f.channel = 5 ∧ p.length = 5 then .settled via (octetAt p 0) (quadAt p 1)
    else .tollFrameIgnored via f.channel p
  else if f.service = svcVsig then vsigRow master via f.source p
  else if f.service = svcSign then .signFrame f.source p
  else .wxFrameIgnored

/-- A slave whose address is not the master's: its signalling travels the ring (R52, R207). -/
def RingSlave (s : State) : Prop :=
  s.isMaster = false ∧ s.agent.address.isSome = true ∧ s.agent.address ≠ some 1

/-- A frame of the node as R52 completes it; its tag is left open. -/
def OwnFrame (s : State) (dest service channel : Octet) (payload : Octets) (f : Frame) : Prop :=
  f.dest = dest ∧ s.agent.address = some f.source ∧ f.service = service ∧ f.channel = channel ∧
  f.hop = 250 ∧ f.flags = 0 ∧ f.payload = payload ∧ f.check = payloadCheck payload

/-- A frame of the node to the centre travels: out of the master's uplink, or by the queue of a slave
(R113, R133, R155, R169, R190). -/
def ToCentre (q : QueueName) (s t : State) (service channel : Octet) (payload : Octets) : Prop :=
  ∃ f, OwnFrame s 0 service channel payload f ∧
    if s.isMaster then t.out.uplink = s.out.uplink ++ [encodeFrame f] ∧ t.sw = s.sw
    else queueFrames t.sw q = queueFrames s.sw q ++ [f] ∧ t.out = s.out

/-- One frame more has left by the uplink port, octet for octet with its checks (R18, R211). -/
def UplinkSent (s t : State) (P : Frame → Prop) : Prop :=
  ∃ f, t.out.uplink = s.out.uplink ++ [encodeFrame f] ∧ P f

/-- The frame that has left last by the uplink port (R18, R211): an alarm report of the same command
may have left before it (R169). -/
def UplinkLast (t : State) (P : Frame → Prop) : Prop :=
  ∃ f, t.out.uplink.getLast? = some (encodeFrame f) ∧ P f

/-- A frame of the node to the centre finds its way: the uplink of a master, or a queue that admits
`n` octets (R52, R53). -/
def CentreOpen (q : QueueName) (n : Nat) (s : State) : Prop :=
  s.agent.address.isSome = true ∧
  (s.isMaster = true ∨ isIsolated s = false ∧ (budgeted q = true → n ≤ s.sw.budget) ∧
    (queueFrames s.sw q).length < capacityOf q)

/-- The VSIG queue takes the next frame: the node is not ISOLATED and the queue has room (R52,
R53). -/
def VsigOpen (s : State) : Prop := isIsolated s = false ∧ s.sw.vsig.length < 16

/-- One VSIG frame to a node joins its queue (R52, R72, R91, R93). -/
def SentVsigTo (s t : State) (dest : Octet) (m : VsigMsg) : Prop :=
  VsigOpen s → ∃ f, t.sw.vsig = s.sw.vsig ++ [f] ∧ OwnFrame s dest svcVsig 0 (encodeVsig m) f

/-- One VSIG frame to the master joins its queue (R52, R72). -/
def SentVsig (s t : State) (m : VsigMsg) : Prop := SentVsigTo s t 1 m

/-- A plan with the given entries is issued to node `n` and offered as a PLAN_UPDATE (R91): the next
version, the switch cycle 32 ahead. -/
def PlanIssued (s t : State) (n : Fin 240) (sends : Nat) (es : PlanEntries) : Prop :=
  let v := nextVersion (s.alloc.plans.get n).lastIssued
  let c := s.timer.number + 32
  (t.alloc.plans.get n).lastIssued = v ∧
  (t.alloc.plans.get n).inFlight =
    some { plan := { version := v, switchCycle := c, entries := es }, sends, seen := false } ∧
  (t.alloc.plans.get n).accepted = (s.alloc.plans.get n).accepted ∧
  (∀ m, m ≠ n → t.alloc.plans.get m = s.alloc.plans.get m) ∧
  t.alloc.plansIssued = bump s.alloc.plansIssued ∧
  SentVsigTo s t (nodeAddr n) (.planUpdate v c (encodeEntries es))

/-- The grants from the queue have been made (R94): heads of the queue left it one by one, each
granted, until none waits or the next cannot be granted. -/
def QueueGranted (s t : State) : Prop :=
  (t.alloc.waiting = [] ∨ canGrant t.alloc = false) ∧ t.alloc.waiting <:+ s.alloc.waiting ∧
  t.alloc.grants = Nat.iterate bump (s.alloc.waiting.length - t.alloc.waiting.length)
    s.alloc.grants ∧
  t.alloc.grantsFromQueue = Nat.iterate bump (s.alloc.waiting.length - t.alloc.waiting.length)
    s.alloc.grantsFromQueue

/-- A VSIG message fits the format of R85. -/
def vsigFits : VsigMsg → Bool
  | .callStatus refs => decide (1 ≤ refs.length ∧ refs.length ≤ 4)
  | .callQueued _ place => decide (place ≤ 32)
  | .planUpdate _ _ slots => decide (slots.length = 8)
  | _ => true

/-- The raw reading a sample of a channel takes (R144, R146). -/
def sampleCode (s : State) (c : Fin 16) : Nat :=
  match (s.wx.table.get c).source with
  | .none => 0
  | .ain k => (s.wx.analog.get k).code.toNat
  | .pin k => (s.wx.pulses.get k).count

/-- The source of a channel is a pulse input. -/
def pulseChannel (s : State) (c : Fin 16) : Bool :=
  match (s.wx.table.get c).source with
  | .pin _ => true
  | _ => false

/-- The next sample of a channel is a rail sample (R144). -/
def sampleRails (s : State) (c : Fin 16) : Bool :=
  !pulseChannel s c && (sampleCode s c == 0 || sampleCode s c == 4095)

/-- The next sample of a channel is processed: no rail sample, and no FAULT or the third good sample
of one (R144 to R146). -/
def sampleRuns (s : State) (c : Fin 16) : Bool :=
  !sampleRails s c &&
    (pulseChannel s c || !(s.wx.work.get c).fault || decide (2 ≤ (s.wx.work.get c).goodRun))

/-- A transfer of a page has started: its command is on the line after `lead`, OWED and the stale flag
are clear, the sender is in SENDING (R188). -/
def TransferStarted (t : SignController) (lead : Octets) (page : Fin 64) (attempt : Nat) : Prop :=
  t.sender.state = .sending ∧ t.sender.exchange = .transfer page attempt ∧
  t.sender.line =
    lead ++ (if page = 0 then encodeBlank else encodeShow page attempt (pageBody t page)) ∧
  t.sender.sentCycles = 0 ∧ t.sender.owed = false ∧ t.sender.answerTimer = none ∧ t.stale = false

/-- The sender has entered IDLE (R190 to R192). -/
def SenderIdle (t : SignController) : Prop :=
  t.sender.state = .idle ∧ t.sender.exchange = .none ∧ t.sender.pollTimer = 0 ∧
  t.sender.answerTimer = none ∧ t.sender.owed = false

/-- An enabled rule of the Sign Controller names a condition as its A or its B (R176, R184). -/
def NamedByRule (g : SignController) (c : Fin 64) : Prop :=
  ∃ k, (g.rules.get k).enabled = true ∧
    ((g.rules.get k).condA = c ∨ (g.rules.get k).condB = some c)

/-- What a change of condition `c` makes of the Sign Controller `g`: one re-evaluation that honours
the hold, over the copy with the change in it, when an enabled rule names `c`, else nothing (R161,
R182, R184). -/
def SignFollows (copy : Tab Bool 64) (c : Fin 64) (g t : SignController) : Prop :=
  (NamedByRule g c → t = reevaluate copy false g) ∧ (¬ NamedByRule g c → t = g)

/-- The entry `k` of a WRITE is the first that fails, with its reason (R202). -/
def FirstRefused {α : Type} (fate : Nat → α → Option Reason) (first : Nat) (entries : List α)
    (k : Nat) (r : Reason) : Prop :=
  (∃ e ∈ entries[k]?, fate (first + k) e = some r) ∧
  ∀ j, j < k → ∀ e ∈ entries[j]?, fate (first + j) e = none

/-- An address offer joins the MGMT queue when it admits it (R206); its channel and tag are left
open. -/
def OfferMade (s t : State) (a : Octet) : Prop :=
  isIsolated s = false → s.sw.mgmt.length < 8 → 18 ≤ s.sw.budget →
  ∃ f, t.sw.mgmt = s.sw.mgmt ++ [f] ∧ OwnFrame s 255 svcMgmt f.channel [64, a] f

/-- The response to a request as the manual addresses it (R199). -/
def ResponseFrame (s : State) (h : Head) (r : Result) (f : Frame) : Prop :=
  f.dest = h.source ∧ (∀ a, s.agent.address = some a → f.source = a) ∧ f.service = svcMgmt ∧
  f.channel = h.channel ∧ f.tag = h.tag ∧ f.hop = 250 ∧
  f.flags = (if h.origin = .field then 0xC0 else 0x40) ∧ f.payload = encodeResult r ∧
  f.check = payloadCheck (encodeResult r)

/-- One discard (R50, R51): its reason's count adds one, its record is the newest of at most eight. -/
def Discarded (cycle : Half) (reason : DiscardReason) (place : Place) (fields : Option FrameFields)
    (sw sw' : FrameSwitch) : Prop :=
  sw' = { sw with
    discards := sw'.discards
    records := ({ reason, place, cycle, fields, flushed := none } :: sw.records).take 8 } ∧
  sw'.discards.get (reasonIndex reason) = bump (sw.discards.get (reasonIndex reason)) ∧
  ∀ r, r ≠ reason → sw'.discards.get (reasonIndex r) = sw.discards.get (reasonIndex r)

/-- The records that frames discarded one after another leave, newest first, at most eight (R50,
R51). -/
def recordsAfter (cycle : Half) (reason : DiscardReason) (lost : List (Place × Frame))
    (old : List DiscardRecord) : List DiscardRecord :=
  ((lost.map fun x =>
    { reason, place := x.1, cycle, flushed := none
      fields := some { dest := x.2.dest, source := x.2.source, service := x.2.service
                       channel := x.2.channel, hop := x.2.hop
                       length := x.2.payload.length } : DiscardRecord }).reverse ++ old).take 8

/-- Several of a saturating count. -/
def bumps (k n : Nat) : Nat := Nat.iterate bump k n

/-! ## Standing relations -/

/-- A port that a forced-wrap request names is UNHEALTHY with its timer stopped (R9). -/
def ForcedHeld (s : State) : Prop :=
  ∀ p, s.prot.forced = some p →
    (portAt s p).health = .unhealthy ∧ (portAt s p).wtrTimer = none

/-- The protection state is the one that the healths of the two ports give (R24), and a forced port
is UNHEALTHY (R9): so it stands at the end of every cycle. -/
def ProtectionFollows (s : State) : Prop :=
  s.prot.state = protectionOf s.line.w.health s.line.e.health ∧ ForcedHeld s

/-- The node is LINKED exactly while the condition of R20 (a slave) or R21 (the master) holds. -/
def ReachFollows (s : State) : Prop := s.prot.linked = shouldBeLinked s

/-- The master has address 1; a slave has none, or one of 2 to 240 (00 section 2, R207). -/
def AddressLegal (s : State) : Prop :=
  if s.isMaster then s.agent.address = some 1
  else s.agent.address.all offerLegal = true

/-- The page store is in canonical form (R186). -/
def StoreCanonical (s : State) : Prop := storeWf s.sign.store = true

/-- Every descriptor of the page table is valid (R185). -/
def PagesValid (s : State) : Prop := ∀ k, (s.sign.pages.get k).all descriptorValid = true

/-! ## Capacities -/

/-- No add queue holds more frames than its capacity, and the holding buffer holds at most 2048
octets (R53, R60). -/
def QueuesBounded (s : State) : Prop :=
  (∀ q, (queueFrames s.sw q).length ≤ capacityOf q) ∧ extents s.sw.holding ≤ 2048

/-- No list of the service blocks outgrows its capacity (R49, R51, R90, R107, R112, R118, R128,
R198). -/
def ListsBounded (s : State) : Prop :=
  s.sw.accept.length ≤ 32 ∧ s.sw.records.length ≤ 8 ∧ s.alloc.calls.length ≤ 24 ∧
  s.alloc.waiting.length ≤ 32 ∧ s.toll.answers.length ≤ 32 ∧ s.toll.pendingTable.length ≤ 16 ∧
  s.toll.deny.length ≤ 256 ∧ s.journal.records.length ≤ 512 ∧ s.agent.requests.length ≤ 4

/-- At most one event is pending for each condition and edge, so at most 128 (R164). -/
def EventsDistinct (s : State) : Prop :=
  (s.cond.events.map fun e => (e.condition, e.rise)).Nodup ∧
  ∀ e ∈ s.cond.events, 1 ≤ e.repeats ∧ e.repeats ≤ 255

/-! ## Settings -/

/-- A stored channel entry lies within the ranges of R141. -/
def channelInRange (t : ChannelEntry) : Bool :=
  decide (1 ≤ t.period ∧ t.period ≤ 600) && decide (t.zero ≤ 4095) &&
  decide (1 ≤ t.window ∧ t.window ≤ 16) && decide (t.shift ≤ 8) &&
  decide (t.highClear ≤ t.highSet) && decide (t.lowSet ≤ t.lowClear) &&
  decide (1 ≤ t.persist ∧ t.persist ≤ 15) && decide (t.interval ≤ 65535)

/-- Every setting lies within the range its rule gives it (R12, R58, R101, R115, R132, R141, R163,
R166, R176, R183, R187). -/
def SettingsInRange (s : State) : Prop :=
  (1 ≤ s.line.wtrSeconds ∧ s.line.wtrSeconds ≤ 60) ∧
  (64 ≤ s.sw.budget ∧ s.sw.budget ≤ 1008) ∧ s.alloc.capacity ≤ 48 ∧
  (50 ≤ s.toll.tToll ∧ s.toll.tToll ≤ 2000) ∧ (1 ≤ s.journal.drain ∧ s.journal.drain ≤ 8) ∧
  (∀ c, channelInRange (s.wx.table.get c) = true) ∧
  (∀ c, (s.cond.table.get c).level ≤ 7 ∧
    (50 ≤ c.val ∧ c.val ≤ 55 → (s.cond.table.get c).level = 7)) ∧
  s.cond.mask ≤ 7 ∧
  (∀ k, 1 ≤ (s.sign.rules.get k).priority ∧ (s.sign.rules.get k).priority ≤ 6) ∧
  s.sign.holdSeconds ≤ 255 ∧ (100 ≤ s.sign.answerLimit ∧ s.sign.answerLimit ≤ 2000)

/-- A value of a weather channel (R149). -/
def wxValue (x : Int) : Prop := -32768 ≤ x ∧ x ≤ 32767

/-- Every engineering value, short mean, long average, peak and trough of a weather channel lies in
-32768 to 32767 (R149); the window holds at most N values (R148), the runs of a channel stay within
their ranges (08 section 8.3), and the pulse counts within theirs (R140). -/
def WeatherInRange (s : State) : Prop :=
  (∀ c, let w := s.wx.work.get c
    (∀ v ∈ w.window, wxValue v) ∧ w.window.length ≤ (s.wx.table.get c).window ∧
    (∀ m ∈ w.mean, wxValue m) ∧ (∀ l ∈ w.long, wxValue l) ∧
    (∀ e ∈ w.extremes, wxValue e.peak ∧ wxValue e.trough) ∧ w.railRun ≤ 3 ∧ w.goodRun ≤ 3 ∧
    w.since ≤ 65535) ∧
  ∀ k, (s.wx.pulses.get k).count ≤ 65535

/-! ## Tolls -/

/-- No transaction is in custody twice: the pending keys are distinct, the journal's keys are
distinct, and none is in both (R112, R127). -/
def CustodyOnce (s : State) : Prop :=
  (s.toll.pendingTable.map (·.key) ++ s.journal.records.map (·.key)).Nodup

/-- The right-hand side of the accounting of R125. -/
def accounted (s : State) : Nat :=
  s.toll.pendingTable.length + s.journal.records.length + s.toll.answeredByCentre +
    s.toll.lateSettled + s.journal.settledFromJournal + s.journal.journalLost +
    s.toll.rejected + s.toll.duplicates

/-- Until a count saturates, RECEIVED_CHARGE accounts for every charge (R125). -/
def TollAccounts (s : State) : Prop :=
  s.toll.receivedCharge < countMax → s.toll.receivedCharge = accounted s

/-! ## Slots -/

/-- The slots of a call are HELD by its node, without quarantine mark (R89, R94). -/
def callHolds (a : SlotAllocator) (e : CallEntry) : Prop :=
  a.slots.get e.slots.up = .held e.node false ∧ a.slots.get e.slots.down = .held e.node false

/-- The slots the calls use, each call's two in turn. -/
def callSlots (a : SlotAllocator) : List (Fin 48) :=
  a.calls.flatMap fun e => [e.slots.up, e.slots.down]

/-- Every call's slots are HELD by its node, and no slot serves two calls (R89, R94). -/
def CallsHoldSlots (s : State) : Prop :=
  (∀ e ∈ s.alloc.calls, callHolds s.alloc e) ∧ (callSlots s.alloc).Nodup

/-- U never exceeds S, nor S 48 (R89). -/
def CapacityCovers (s : State) : Prop :=
  currentU s.alloc ≤ s.alloc.capacity ∧ s.alloc.capacity ≤ 48

/-- At most one call or queued request stands for a position (R90). -/
def CallKeysOnce (s : State) : Prop :=
  (s.alloc.calls.map (fun e => (e.node, e.position)) ++
    s.alloc.waiting.map fun w => (w.node, w.position)).Nodup

/-- The waiting queue is in its order: PRIORITY before ordinary, then by insertion (R90). -/
def WaitingOrdered (s : State) : Prop :=
  s.alloc.waiting.Pairwise (fun x y => goesBefore x y = true) ∧
  (s.alloc.waiting.map (·.arrival)).Nodup ∧
  ∀ w ∈ s.alloc.waiting, w.arrival < s.alloc.nextArrival

/-! ## Conditions -/

/-- The flags that the owners of the conditions stand at, by condition number (R161); DETACHED as its
change has been handed (R22). -/
def ownerFlag (s : State) (c : Nat) : Bool :=
  if h : c < 16 then (s.wx.work.get ⟨c, h⟩).high
  else if h : c - 16 < 16 then (s.wx.work.get ⟨c - 16, h⟩).low
  else if h : c - 32 < 16 then (s.wx.work.get ⟨c - 32, h⟩).fault
  else if c = 48 then !s.prot.handed
  else if c = 49 then s.prot.state == .wrapEast || s.prot.state == .wrapWest
  else if c = 50 then s.prot.state == .isolated
  else if c = 51 then s.timer.duplicate.isSome
  else if h : c - 52 < 4 then (posAt s ⟨c - 52, h⟩).debounced == .off
  else if c = 56 then !s.journal.records.isEmpty
  else if c = 57 then decide (512 ≤ s.journal.records.length)
  else if c = 58 then s.sign.sender.signFail
  else if h : c - 59 < 5 then s.agent.centreFlags.get ⟨c - 59, h⟩
  else false

/-- The Condition Unit's copy stands as the owners' flags do (R161), JOURNAL_NONEMPTY and
JOURNAL_FULL apart: those follow the journal as each cycle ends (R130). -/
def CopyFollows (s : State) : Prop :=
  ∀ c, c ≠ condJournalNonempty → c ≠ condJournalFull → s.cond.copy.get c = ownerFlag s c.val

/-- The levels of a whole cycle stand as its end leaves them: the protection state as the healths
give it, reachability handed, conditions 48 to 50, 56 and 57 with their owners (R22, R24, R33,
R130). -/
def CycleSettled (s : State) : Prop :=
  s.prot.state = protectionOf s.line.w.health s.line.e.health ∧ s.prot.handed = s.prot.linked ∧
  ∀ c ∈ [condWrapped, condIsolated, condJournalNonempty, condJournalFull],
    s.cond.copy.get c = ownerFlag s c.val

/-! ## Cycles -/

/-- Octets of a ring cycle, or none sent yet (R1). -/
def cycleOrNone (os : Octets) : Prop := os = [] ∨ os.length = 1024

/-- What the node sends on either port is a whole cycle of 1024 octets (R1). -/
def CyclesWhole (s : State) : Prop := cycleOrNone s.out.txW ∧ cycleOrNone s.out.txE

/-- What reaches the node as speech comes eight octets at a time (R64, R102). -/
def SpeechWhole (s : State) : Prop :=
  (∀ q, (s.pins.speechIn.get q).length = 8) ∧ ∀ k, (s.lanes.fromCentre.get k).length = 8

/-- A header record carries a U of 0 to 48, a held S cycle is whole, and so is every cycle that waits
to be received (R1, R3, R31). -/
def CyclesHeldWhole (s : State) : Prop :=
  s.timer.record.u ≤ 48 ∧ (∀ c ∈ s.prot.heldS, c.length = 1024) ∧
  ∀ p c, Instr.headerReceived p c ∈ s.pending → c.length = 1024

end Sys2Proof.Machine
end

