-- ==== Sys2Proof/Certificates/Slice0/Obligations.lean ====
section
/-! DEFINITION. The statements for the provers. A statement that rests on a choice of the model says
so and names the log entry. -/

open Sys2Proof Sys2Proof.Machine

/-! ## One step, power-on, the standing relations at reset -/

/-- The command at the front of the queue is executed with the rest waiting; with none waiting,
one cycle period passes (log 2). -/
def Obligations.StepTakesFront : Prop :=
  ∀ (c : Instr) (rest : List Instr) (s : State),
    step (s.withPending (c :: rest)) = exec c (s.withPending rest) ∧
    step (s.withPending []) = .next (tick (s.withPending []))

/-- Every standing relation of the model holds right after reset. -/
def Obligations.RelationsAtReset : Prop :=
  ProtectionFollows State.reset ∧ ReachFollows State.reset ∧ AddressLegal State.reset ∧
  StoreCanonical State.reset ∧ PagesValid State.reset ∧ QueuesBounded State.reset ∧
  ListsBounded State.reset ∧ EventsDistinct State.reset ∧ SettingsInRange State.reset ∧
  CustodyOnce State.reset ∧ TollAccounts State.reset ∧ CallsHoldSlots State.reset ∧
  CopyFollows State.reset ∧ CycleSettled State.reset ∧ CyclesWhole State.reset ∧
  SpeechWhole State.reset ∧ CyclesHeldWhole State.reset ∧ WeatherInRange State.reset ∧
  CapacityCovers State.reset ∧ CallKeysOnce State.reset ∧ WaitingOrdered State.reset

/-- POWER_ON: the node takes its strap and every item of the power-on tables of R23, R40, R62, R83,
R104, R124, R137, R159, R174, R195 and R210 has its value; that every count is 0 is said by
`clearCounts`, which COUNTS_CLEAR's statement takes apart. That the levels of the other inputs stand
is the model's (log 7), as is the age of a master (log 41) and the version 0 of the banks (log 33).
-/
def Obligations.PowerOn : Prop :=
  ∀ (strap : Bool) (s : State), ∃ t, exec (.powerOn strap) s = .next t ∧
    t.isMaster = strap ∧ t.agent.address = (if strap then some 1 else none) ∧ clearCounts t = t ∧
    (∀ p, (portAt t p).rx = .down ∧ (portAt t p).faulted = true ∧ (portAt t p).reason = .loss ∧
      (portAt t p).health = .unhealthy ∧ (portAt t p).everHealthy = false ∧
      (portAt t p).wtrTimer = none ∧ (portAt t p).bringUp = 0 ∧ (portAt t p).alignRun = 0 ∧
      (portAt t p).errorRun = 0 ∧ (portAt t p).farEndRun = 0 ∧ (portAt t p).portFaults = 0 ∧
      (portAt t p).completed = none) ∧
    t.line.wtrSeconds = 10 ∧ t.timer.number = 0 ∧ t.timer.holdover = !strap ∧
    t.timer.record = { origin := .holdover, masterAddr := 1, u := 0, centreUp := false } ∧
    t.timer.missing = 0 ∧ t.timer.highWater = 0 ∧ t.timer.repeatRun = 0 ∧
    t.timer.recirculating = false ∧ t.timer.duplicate = none ∧
    t.prot.state = .isolated ∧ t.prot.forced = none ∧ t.prot.age = 16 ∧ t.prot.heldS = none ∧
    t.prot.linked = (strap && s.pins.uplinkUp) ∧
    (∀ q, queueFrames t.sw q = []) ∧ t.sw.budget = 256 ∧ t.sw.accept = [] ∧ t.sw.holding = [] ∧
    t.sw.pool = [] ∧ t.sw.records = [] ∧
    (∀ q, posAt t q =
      { call := .idle, debounced := .on, hookCount := 0, holdCount := 0, priority := false
        resume := false, answer := false, resend := none, ring := none, place := none }) ∧
    t.phone.statusTimer = 0 ∧ t.phone.active = { version := 0, entries := .fill 4 none } ∧
    t.phone.standby = { version := 0, entries := .fill 4 none } ∧ t.phone.pendingAt = none ∧
    t.phone.cleared = true ∧
    (∀ k, t.alloc.slots.get k = .free) ∧ t.alloc.calls = [] ∧ t.alloc.waiting = [] ∧
    t.alloc.capacity = 16 ∧
    (∀ n, (t.alloc.plans.get n).lastIssued = 0 ∧ (t.alloc.plans.get n).accepted.version = 0 ∧
      (t.alloc.plans.get n).accepted.entries = .fill 4 none ∧
      (t.alloc.plans.get n).comeRound = true ∧ (t.alloc.plans.get n).inFlight = none ∧
      (t.alloc.plans.get n).absent = false ∧ (t.alloc.plans.get n).quarantine = none) ∧
    (∀ k, t.lanes.fromCentre.get k = List.replicate 8 0xD5) ∧
    t.toll.run = [] ∧ t.toll.answers = [] ∧ t.toll.pendingTable = [] ∧
    (∀ k, t.toll.classes.get k = false) ∧ t.toll.deny = [] ∧ t.toll.tToll = 300 ∧
    t.journal.records = [] ∧ t.journal.drain = 2 ∧ t.journal.seconds = 0 ∧
    t.wx.clock = 0 ∧ (∀ k, (t.wx.analog.get k).code = 0) ∧
    (∀ k, (t.wx.pulses.get k).level = false ∧ (t.wx.pulses.get k).count = 0) ∧
    (∀ c, t.wx.table.get c =
      { source := .none, period := 1, zero := 0, gain := 0, offset := 0, window := 1, shift := 0
        compareLong := false, highSet := 0, highClear := 0, lowSet := 0, lowClear := 0
        highEnable := false, lowEnable := false, persist := 1, interval := 0 }) ∧
    (∀ c, t.wx.work.get c =
      { ticks := 0, window := [], mean := none, long := none, extremes := none, high := false
        low := false, highCount := 0, lowCount := 0, railRun := 0, goodRun := 0, fault := false
        saturated := false, toReport := 0, since := 0 }) ∧
    (∀ c, t.cond.copy.get c =
      (c == condIsolated || c == condDetached && !(strap && s.pins.uplinkUp))) ∧
    (∀ c, t.cond.table.get c =
      { fall := false
        level := if c.val < 32 then 3 else if c.val < 48 then 4 else if c.val < 50 then 5
          else if c.val < 56 then 7 else if c.val = 56 then 2 else if c.val = 57 then 6
          else if c.val = 58 then 5 else 0 }) ∧
    t.cond.mask = 3 ∧ t.cond.events = [] ∧
    (∀ k, (t.sign.rules.get k).enabled = false) ∧ t.sign.centre = none ∧ t.sign.test = none ∧
    (∀ k, t.sign.pages.get k = none) ∧ t.sign.store = [] ∧ t.sign.hold = none ∧
    t.sign.stale = false ∧ t.sign.holdSeconds = 30 ∧ t.sign.answerLimit = 500 ∧
    t.sign.selection = { page := 0, priority := 0, source := .default } ∧
    t.sign.sender =
      { state := .idle, exchange := .none, line := [], sentCycles := 0, owed := false
        undelivered := true, answerTimer := none, pollTimer := 10000, missedPolls := 0
        displayed := none, faultFlags := 0, lastReject := none, signFail := false } ∧
    t.agent.requests = [] ∧ t.agent.fieldLock = false ∧ (∀ k, t.agent.centreFlags.get k = false) ∧
    t.agent.walk.running = false ∧ t.agent.walk.given = 0 ∧ t.agent.walk.timer = none ∧
    t.pending = s.pending ∧ t.pins = { s.pins with strap := strap }

/-- A row that reports an event whose condition does not hold leaves the state as it is: DESIGN
CHOICE (log 1). LINKED here is as the node's blocks have been told it, at the end of the cycle of a
change (log 2). -/
def Obligations.RowsOutOfTurn : Prop :=
  ∀ (p : Port) (q : Fin 4) (n : Fin 240) (c : Fin 16) (s : State),
    ((portAt s p).rx ≠ .down → exec (.signalRegained p) s = .next s) ∧
    ((portAt s p).rx ≠ .aligning → exec (.markerFound p) s = .next s ∧
      exec (.alignFaultCount p) s = .next s) ∧
    (wtrDue s p = false → exec (.wtrExpiry p) s = .next s) ∧
    (bringUpDue s p = false → exec (.bringUpComplete p) s = .next s) ∧
    (s.isMaster = true → exec .recirculation s = .next s ∧ exec .missingCycle s = .next s ∧
      exec .holdoverEntry s = .next s ∧ exec .holdoverCycle s = .next s ∧
      exec .centreHeaderAgeExpiry s = .next s) ∧
    (s.timer.duplicate = none → exec .duplicateMasterClear s = .next s) ∧
    (s.isMaster = false → exec .originateCycle s = .next s ∧ exec (.planComeRound n) s = .next s ∧
      exec (.planUnanswered n) s = .next s ∧ exec (.absentQuarantineExpiry n) s = .next s ∧
      exec (.callSupervisionExpiry n q) s = .next s ∧ exec .addressOfferReturned s = .next s) ∧
    (hookDue s q .off = false → exec (.offHook q) s = .next s) ∧
    (hookDue s q .on = false → exec (.onHook q) s = .next s) ∧
    (s.pins.buttons.get q = false → exec (.priorityPress q) s = .next s) ∧
    ((posAt s q).resend = none → exec (.callRequestResend q) s = .next s ∧
      exec (.callReleaseResend q) s = .next s) ∧
    ((posAt s q).call ≠ .ringing → exec (.ringTimeout q) s = .next s) ∧
    (s.phone.statusTimer < 1000 → exec .statusTimerExpiry s = .next s) ∧
    (s.phone.pendingAt = none → exec .planSwitch s = .next s) ∧
    (s.toll.run = [] → exec (.tollRunClose []) s = .next s) ∧
    (s.toll.pendingTable = [] → exec .pendingTimeout s = .next s) ∧
    (s.toll.answers = [] → exec .answerBlockSent s = .next s) ∧
    (reachable s = false ∨ s.period.restarted = true → exec .journalDrain s = .next s) ∧
    (s.journal.subSecond < 1000 → exec .secondsClock s = .next s) ∧
    (s.wx.clock < 100 → exec .sampleTick s = .next s) ∧
    (pulseDue s q = false → exec (.pulseEdge q) s = .next s) ∧
    ((s.wx.table.get c).source = .none → exec (.channelSample c) s = .next s) ∧
    (s.sign.test = none → exec .testTimerExpiry s = .next s) ∧
    (s.sign.centre = none → exec .centreLifetimeExpiry s = .next s) ∧
    (s.sign.hold = none → exec .holdExpiry s = .next s) ∧
    (s.sign.sender.state ≠ .sending → exec .commandSent s = .next s) ∧
    (s.sign.sender.state ≠ .awaiting → exec .answerTimeout s = .next s) ∧
    (s.sign.sender.state ≠ .idle → exec .pollTimerExpiry s = .next s) ∧
    (s.agent.walk.running = false → exec .walkTimeout s = .next s)

/-! ## Line ports (01 sections 1.2 and 1.3) -/

/-- SIGNAL_LOST; SIGNAL_REGAINED, MARKER_FOUND and ALIGN_FAULT_COUNT in the receive state each
needs; WTR_EXPIRY and BRING_UP_COMPLETE: the port, and nothing else (R4, R6, R9 to R11). The
protection state follows as the cycle ends. That an entry into ALIGNING notes the cycle by the
node's number as it stands is a DESIGN CHOICE (log 42). A bring-up that completes is taken back when the
port does not stay clear in its cycle: flag and PORT_RECOVERIES as before it (R11, log 49). -/
def Obligations.PortCommands : Prop :=
  (∀ (p : Port) (s : State), ∃ t, exec (.signalLost p) s = .next t ∧
     portAt t p =
       { portAt s p with
         rx := .down, markerFound := false, alignRun := 0, errorRun := 0, farEndRun := 0
         faulted := true, reason := .loss
         portFaults := if (portAt s p).faulted then (portAt s p).portFaults
                       else bump (portAt s p).portFaults
         health := .unhealthy, wtrTimer := none, bringUp := 0
         everHealthy := (portAt s p).everHealthy && (portAt s p).completed.isNone
         portRecoveries := (portAt s p).completed.getD (portAt s p).portRecoveries
         completed := none } ∧
     portAt t (otherPort p) = portAt s (otherPort p) ∧ t.line.wtrSeconds = s.line.wtrSeconds ∧
     Changes [.line] s t) ∧
  (∀ (p : Port) (s : State),
     ((portAt s p).rx = .down → (portAt s p).errorRun < 3 → (portAt s p).farEndRun < 3 →
       (portAt s p).health = .unhealthy →
       ∃ t, exec (.signalRegained p) s = .next t ∧
         portAt t p =
           { portAt s p with
             rx := .aligning, entryFrom := .fromDown, entryCycle := s.timer.number, alignCycles := 0
             markerFound := false, alignRun := 0, faulted := false, wtrTimer := none
             bringUp := 0
             everHealthy := (portAt s p).everHealthy && (portAt s p).completed.isNone
             portRecoveries := (portAt s p).completed.getD (portAt s p).portRecoveries
             completed := none } ∧
         portAt t (otherPort p) = portAt s (otherPort p) ∧
         t.line.wtrSeconds = s.line.wtrSeconds ∧ Changes [.line] s t) ∧
     ((portAt s p).rx = .aligning →
       ∃ t, exec (.markerFound p) s = .next t ∧
         portAt t p = { portAt s p with markerFound := true } ∧
         portAt t (otherPort p) = portAt s (otherPort p) ∧
         t.line.wtrSeconds = s.line.wtrSeconds ∧ Changes [.line] s t) ∧
     ((portAt s p).rx = .aligning → (portAt s p).entryFrom = .fromDown →
       5 ≤ (portAt s p).alignCycles →
       ∃ t, exec (.alignFaultCount p) s = .next t ∧
         portAt t p =
           { portAt s p with
             faulted := true, reason := .align
             portFaults := if (portAt s p).faulted then (portAt s p).portFaults
                           else bump (portAt s p).portFaults
             health := .unhealthy, wtrTimer := none, bringUp := 0
             everHealthy := (portAt s p).everHealthy && (portAt s p).completed.isNone
             portRecoveries := (portAt s p).completed.getD (portAt s p).portRecoveries
             completed := none } ∧
         portAt t (otherPort p) = portAt s (otherPort p) ∧
         t.line.wtrSeconds = s.line.wtrSeconds ∧ Changes [.line] s t)) ∧
  (∀ (p : Port) (s : State),
     let healed : LinePort :=
       { portAt s p with
         health := .healthy, wtrTimer := none, bringUp := 0, everHealthy := true
         portRecoveries := bump (portAt s p).portRecoveries, completed := none }
     ((∃ k ∈ (portAt s p).wtrTimer, s.period.inForce.wtrSeconds * 1000 ≤ k) →
       ∃ t, exec (.wtrExpiry p) s = .next t ∧ portAt t p = healed ∧
         portAt t (otherPort p) = portAt s (otherPort p) ∧
         t.line.wtrSeconds = s.line.wtrSeconds ∧ Changes [.line] s t) ∧
     (portClear (portAt s p) = true → (portAt s p).health = .unhealthy →
       (portAt s p).everHealthy = false → s.prot.forced ≠ some p → 16 ≤ (portAt s p).bringUp →
       ∃ t, exec (.bringUpComplete p) s = .next t ∧
         portAt t p = { healed with completed := some (portAt s p).portRecoveries } ∧
         portAt t (otherPort p) = portAt s (otherPort p) ∧
         t.line.wtrSeconds = s.line.wtrSeconds ∧ Changes [.line] s t))

/-- HEADER_RECEIVED as the receive side of the port takes it (R4, R5, R8): in UP a valid header ends
the error run and a failed one counts, the third in a row taking the port to ALIGNING; in ALIGNING
at the found position each valid header adds one to the run and the eighth in a row takes the port
to UP; else none is examined. The port is then faulted by the first condition of R6 that holds, the
third failed header in a row and the third with FAR_END_FAULT among them: the reason is recorded,
PORT_FAULTS counts the passage, the port is UNHEALTHY with its timer stopped, a bring-up that completed
in the cycle taken back (R6, R9, R11, log 49). The S stream of RING at E: a slave passes a valid cycle
through octet for octet with its own FAR_END_FAULT and sends nothing of a failed one (R26); the master
holds it for carrying, the frames of one it replaces discarded with NO_ROOM (R31). -/
def Obligations.HeadersAlign : Prop :=
  (∀ (p : Port) (cycle : Octets) (s : State), ∃ t, exec (.headerReceived p cycle) s = .next t ∧
    (∀ h, (portAt s p).rx = .up → decodeCycleHeader cycle = some h →
      (portAt t p).rx = .up ∧ (portAt t p).errorRun = 0 ∧
      (portAt t p).headerErrors = (portAt s p).headerErrors ∧
      (portAt t p).farEndRun = (if h.farEnd then (portAt s p).farEndRun + 1 else 0) ∧
      (portAt t p).faulted = decide (3 ≤ (portAt t p).farEndRun)) ∧
    ((portAt s p).rx = .up → decodeCycleHeader cycle = none →
      (portAt t p).headerErrors = bump (portAt s p).headerErrors ∧
      (portAt t p).errorRun = (portAt s p).errorRun + 1 ∧
      (portAt t p).farEndRun = (portAt s p).farEndRun ∧
      (if (portAt s p).errorRun < 2 then (portAt t p).rx = .up
       else (portAt t p).rx = .aligning ∧ (portAt t p).entryFrom = .fromUp ∧
        (portAt t p).alignRun = 0 ∧ (portAt t p).faulted = true ∧
        (portAt t p).reason = .align ∧ (portAt t p).health = .unhealthy)) ∧
    (∀ h, (portAt s p).rx = .aligning → (portAt s p).markerFound = true →
      decodeCycleHeader cycle = some h →
      (portAt t p).rx = (if 7 ≤ (portAt s p).alignRun then .up else .aligning) ∧
      ((portAt s p).alignRun ≤ 7 → (portAt t p).alignRun = (portAt s p).alignRun + 1) ∧
      (portAt t p).markerFound = true ∧
      (portAt t p).errorRun = 0 ∧ (portAt t p).headerErrors = (portAt s p).headerErrors ∧
      (portAt t p).farEndRun = (if h.farEnd then (portAt s p).farEndRun + 1 else 0)) ∧
    ((portAt s p).rx = .aligning → (portAt s p).markerFound = true →
      decodeCycleHeader cycle = none →
      (portAt t p).rx = .aligning ∧ (portAt t p).alignRun = 0 ∧
      (portAt t p).markerFound = false ∧ (portAt t p).errorRun = (portAt s p).errorRun + 1 ∧
      (portAt t p).headerErrors = (portAt s p).headerErrors) ∧
    ((portAt s p).rx = .down ∨ (portAt s p).rx = .aligning ∧ (portAt s p).markerFound = false →
      (portAt t p).rx = (portAt s p).rx ∧ (portAt t p).errorRun = (portAt s p).errorRun ∧
      (portAt t p).farEndRun = (portAt s p).farEndRun) ∧
    (let x := portAt s p
     let y := portAt t p
     let holding : Option PortReason :=
       if y.rx = .down then some .loss
       else if y.rx = .aligning ∧ (y.entryFrom = .fromUp ∨ 5 ≤ y.alignCycles) then some .align
       else if 3 ≤ y.errorRun then some .headers
       else if 3 ≤ y.farEndRun then some .farEnd
       else none
     y.faulted = holding.isSome ∧
     (∀ r ∈ holding, y.reason = r ∧ y.health = .unhealthy ∧ y.wtrTimer = none ∧ y.bringUp = 0 ∧
       y.portFaults = (if x.faulted then x.portFaults else bump x.portFaults) ∧
       y.everHealthy = (x.everHealthy && x.completed.isNone) ∧
       y.portRecoveries = x.completed.getD x.portRecoveries) ∧
     (holding = none → y.reason = x.reason ∧ y.portFaults = x.portFaults ∧
       (s.prot.forced ≠ some p → y.health = x.health))) ∧
    portAt t (otherPort p) = portAt s (otherPort p) ∧
    t.prot.state = s.prot.state ∧
    t.pending = s.pending ∧ t.isMaster = s.isMaster ∧ t.pins = s.pins ∧ t.choices = s.choices ∧
    t.wx.table = s.wx.table ∧ t.wx.work = s.wx.work ∧ t.cond.table = s.cond.table) ∧
  (∀ (cycle : Octets) (s : State), s.prot.state = .ring →
    (s.isMaster = false →
      (∀ h, (portAt s .e).rx = .up → decodeCycleHeader cycle = some h →
        ∃ t, exec (.headerReceived .e cycle) s = .next t ∧
          t.out = { s.out with
            txW := encodeCycleHeader { h with farEnd := rxFaulted (portAt s .w) } ++
              (cycle.drop 10).take 1014 } ∧
          t.period = { s.period with fedW := true } ∧ Changes [.line, .out, .period] s t) ∧
      ((portAt s .e).rx ≠ .up ∨ decodeCycleHeader cycle = none →
        ∃ t, exec (.headerReceived .e cycle) s = .next t ∧ Changes [.line] s t)) ∧
    (s.isMaster = true → (portAt s .e).rx = .up → (decodeCycleHeader cycle).isSome = true →
      ∃ t, exec (.headerReceived .e cycle) s = .next t ∧
        t.prot = { s.prot with heldS := some cycle } ∧ Changes [.line, .prot, .sw] s t ∧
        (s.prot.heldS = none → t.sw = s.sw) ∧
        (∀ old ∈ s.prot.heldS, ∀ (h' : CycleHeader) (fs : List Frame),
          decodeCycleHeader old = some h' →
          zoneItems (zoneOf h'.u.toNat old) = fs.map ZoneItem.frame →
          t.sw = discardAll s.timer.number .noRoom (.port .e) fs s.sw)))

/-! ## Timing, reachability, protection (01 sections 1.4 and 1.5, 02) -/

/-- A processed header on a slave locks its timing, whatever its judgement, is judged by R16, sets
the centre-header age to 0 while it comes from the centre and the recirculation flag is off, be it
fresh, an adoption or a repeat, and is repeated on the P output (R13, R16, R17, R20); a bank switch
that its number makes due is taken (R87), and the positions exchange speech with its voice region
(R78). That the switch is taken before a PLAN_UPDATE of the same cycle is the model's (log 13). -/
def Obligations.TimingLocks : Prop :=
  ∀ (p : Port) (out : Port) (cycle : Octets) (h : CycleHeader) (s : State),
    s.isMaster = false → processedPort s.prot.state = some p → outPort s.prot.state = some out →
    (portAt s p).rx = .up → decodeCycleHeader cycle = some h →
    ∃ t, exec (.headerReceived p cycle) s = .next t ∧
      t.timer.number = h.number ∧ t.timer.record.origin = h.origin ∧
      t.timer.record.masterAddr = h.masterAddr ∧ t.timer.record.u = h.u ∧
      t.timer.record.centreUp = h.centreUp ∧ t.timer.missing = 0 ∧ t.timer.holdover = false ∧
      (if s.timer.adoptNext = true ∨ s.timer.holdover = true ∨ h.origin ≠ s.timer.record.origin ∨
          h.masterAddr ≠ s.timer.record.masterAddr ∨ ahead h.number s.timer.highWater = true ∨
          255 < (s.timer.highWater - h.number).toNat then
        t.timer.highWater = h.number ∧ t.timer.repeatRun = 0 ∧ t.timer.recirculating = false
       else
        t.timer.highWater = s.timer.highWater ∧ t.timer.repeatRun = s.timer.repeatRun + 1 ∧
        t.timer.recirculating = s.timer.recirculating) ∧
      (h.origin = .master → h.centreUp = true → t.timer.recirculating = false →
        t.timer.repeatRun < 256 → t.prot.age = 0) ∧
      (h.origin ≠ .master ∨ h.centreUp = false ∨ t.timer.recirculating = true →
        t.prot.age = s.prot.age) ∧
      t.prot.linked = (decide (t.prot.age < 16) && t.agent.address.isSome) ∧
      t.prot.state = s.prot.state ∧
      (sentAt t out).take 10 =
        encodeCycleHeader { h with farEnd := rxFaulted (portAt s out) } ∧
      t.phone.active =
        (if s.phone.pendingAt.any (fun c => !ahead c h.number) then s.phone.standby
         else s.phone.active) ∧
      (SpeechWhole s → cycle.length = 1024 →
        (∀ q, t.out.speech.get q =
          match t.phone.active.entries.get q with
          | none => List.replicate 8 0xD5
          | some x =>
            if x.down.val < h.u.toNat then (cycle.drop (10 + 8 * x.down.val)).take 8
            else List.replicate 8 0xD5) ∧
        (∀ q, ∀ x ∈ t.phone.active.entries.get q, x.up.val < h.u.toNat →
          (∀ k, k ≠ q → ∀ y ∈ t.phone.active.entries.get k, y.up ≠ x.up) →
          ((sentAt t out).drop (10 + 8 * x.up.val)).take 8 = s.pins.speechIn.get q) ∧
        (∀ k, k < h.u.toNat → (∀ q, ∀ x ∈ t.phone.active.entries.get q, x.up.val ≠ k) →
          ((sentAt t out).drop (10 + 8 * k)).take 8 = (cycle.drop (10 + 8 * k)).take 8))

/-- MISSING_CYCLE, HOLDOVER_ENTRY and HOLDOVER_CYCLE on a slave without a processed header in the
period: the number adds one, the fourth miss enters holdover, and the P output (both ports in
ISOLATED) carries the regenerated or the HOLDOVER header, unless it has a cycle of the period
already, which it keeps (R14, R15, R17, R25, R29, R78). That MISSING_CYCLE of the fourth miss is
HOLDOVER_ENTRY is the model's (log 21). -/
def Obligations.MissingHoldover : Prop :=
  ∀ (s : State), s.isMaster = false → s.period.processed = false →
    let sends := fun (p : Port) => outPort s.prot.state = some p ∨ s.prot.state = .isolated
    let own := fun (t : State) => t.timer.number = s.timer.number + 1 ∧
      t.timer.record = s.timer.record ∧ t.out.speech = .fill 4 silence ∧
      Changes [.timer, .sw, .out, .period] s t
    let regenerated := fun (p : Port) =>
      encodeCycleHeader
        { number := s.timer.number + 1, origin := s.timer.record.origin
          masterAddr := s.timer.record.masterAddr, u := s.timer.record.u
          centreUp := s.timer.record.centreUp, farEnd := rxFaulted (portAt s p) }
    let holding := fun (p : Port) =>
      encodeCycleHeader
        { number := s.timer.number + 1, origin := .holdover
          masterAddr := s.timer.record.masterAddr, u := 0, centreUp := false
          farEnd := rxFaulted (portAt s p) }
    let carries := fun (t : State) (p : Port) (header : Octets) =>
      if isFed s p then sentAt t p = sentAt s p else (sentAt t p).take 10 = header
    let enters := fun (t : State) => own t ∧ t.timer.missing = 4 ∧ t.timer.holdover = true ∧
      t.timer.adoptNext = true ∧ t.timer.holdoverEntries = bump s.timer.holdoverEntries ∧
      ∀ p, sends p → carries t p (holding p)
    (s.timer.holdover = false → s.timer.missing < 3 →
      ∃ t, exec .missingCycle s = .next t ∧ own t ∧ t.timer.missing = s.timer.missing + 1 ∧
        t.timer.holdover = false ∧ t.timer.holdoverEntries = s.timer.holdoverEntries ∧
        ∀ p, sends p → carries t p (regenerated p)) ∧
    (s.timer.holdover = false → 3 ≤ s.timer.missing →
      (∃ t, exec .missingCycle s = .next t ∧ enters t) ∧
      ∃ t, exec .holdoverEntry s = .next t ∧ enters t) ∧
    (s.timer.holdover = true →
      ∃ t, exec .holdoverCycle s = .next t ∧ own t ∧ t.timer.holdover = true ∧
        t.timer.missing = s.timer.missing ∧
        ∀ p, sends p → carries t p (holding p))

/-- ORIGINATE_CYCLE on the master: the first in a period takes the number that the period began
with, a further one the next; both ports carry the originated header, the pool is empty after a fill,
and the voice region of the P output carries the lanes from the centre, silence while the uplink is
down (R18, R30, R59, R102). In RING the cycle at W carries the
held S cycle: the voice slots both have, the frames that have a hop left for as long as each fits;
without one it carries silence and no frame; the hold is empty after it (R31). In a wrap the other
port, and in ISOLATED both, carry silence and an empty zone (R30). That the number is counted as the
period opens is DEDUCED (log 12). -/
def Obligations.MasterOriginates : Prop :=
  ∀ (s : State), s.isMaster = true → SpeechWhole s →
    let u := currentU s.alloc
    let number := if s.period.originated then s.timer.number + 1 else s.timer.number
    ∃ t, exec .originateCycle s = .next t ∧ t.timer.number = number ∧
      t.period.originated = true ∧
      (∀ p, (sentAt t p).take 10 =
        encodeCycleHeader
          { number, origin := .master, masterAddr := 1
            u := octet u, centreUp := s.pins.uplinkUp, farEnd := rxFaulted (portAt s p) }) ∧
      (s.prot.state ≠ .isolated → t.sw.pool = []) ∧
      (s.prot.state = .ring → t.prot.heldS = none) ∧
      (∀ p, outPort s.prot.state = some p →
        ((sentAt t p).drop 10).take (8 * u) =
          (if s.pins.uplinkUp then (s.lanes.fromCentre.data.take u).flatten
           else (silentVoice u).flatten)) ∧
      t.timer.holdover = s.timer.holdover ∧ t.timer.missing = s.timer.missing ∧
      Changes [.timer, .prot, .sw, .out, .period] s t ∧
      (s.prot.state = .ring → s.prot.heldS = none →
        t.out.txW.drop 10 = List.replicate (8 * u) 0xD5 ++ List.replicate (zoneSize u) 0xF5) ∧
      (∀ p, s.prot.state ≠ .ring → outPort s.prot.state ≠ some p →
        (sentAt t p).drop 10 = List.replicate (8 * u) 0xD5 ++ List.replicate (zoneSize u) 0xF5) ∧
      (s.prot.state = .isolated → t.sw = s.sw) ∧
      (∀ c ∈ s.prot.heldS, ∀ (h : CycleHeader) (fs : List Frame), s.prot.state = .ring →
        c.length = 1024 → decodeCycleHeader c = some h →
        zoneItems (zoneOf h.u.toNat c) = fs.map ZoneItem.frame →
        let kept := fs.filter fun f => decide (2 ≤ f.hop.toNat)
        (∃ n, n ≤ kept.length ∧ extents (kept.take n) ≤ zoneSize u ∧
          (n < kept.length → zoneSize u < extents (kept.take (n + 1))) ∧
          t.out.txW.drop (10 + 8 * u) =
            encodeZone (zoneSize u) ((kept.take n).map fun f => { f with hop := f.hop - 1 })) ∧
        (∀ k, k < u → (t.out.txW.drop (10 + 8 * k)).take 8 =
          if k < h.u.toNat then (c.drop (10 + 8 * k)).take 8 else List.replicate 8 0xD5) ∧
        t.sw.discards.get (reasonIndex .hopLimit) =
          bumps (fs.length - kept.length) (s.sw.discards.get (reasonIndex .hopLimit)))

/-- RECIRCULATION and CENTRE_HEADER_AGE_EXPIRY take a LINKED slave to DETACHED with its age at 16
(R16, R20); the end of the cycle hands the detach: the banks are cleared, calls are HELD, each
pending toll is answered with its local verdict while the answer list has room and joins the journal
with it while that has room, records return to WAITING and condition 48 is set, with no frame
offered (R22, R80, R88, R107, R116, R122, R128, R136). The end of a cycle that hands a relink: each
HELD position requests its call with RESUME, one report is offered if an event is reportable,
condition 48 falls (R81, R171). That a detach is handed before condition 48 moves, a relink in the
order of its positions and before the fall, is the model's (log 13). With FALL of condition 48 on the falling event is made while LINKED and
offers a report of its own after the relink report (R171). On the master the requests are handed
straight to its Slot Allocator and the answers straight back (R52, R79): a request that must wait
takes its position to WAITING, one for a call still held or that can be granted brings a plan, which is
accepted and pending at once (R81, R93, R94). -/
def Obligations.CentreLost : Prop :=
  (∀ (s : State), s.isMaster = false → s.prot.linked = true →
    (256 ≤ s.timer.repeatRun → s.timer.recirculating = false →
      ∃ t, exec .recirculation s = .next t ∧ t.prot = { s.prot with age := 16, linked := false } ∧
        t.timer = { s.timer with
          recirculating := true, recirculations := bump s.timer.recirculations } ∧
        Changes [.timer, .prot] s t) ∧
    (15 ≤ s.prot.age →
      ∃ t, exec .centreHeaderAgeExpiry s = .next t ∧
        t.prot = { s.prot with age := 16, linked := false } ∧ Changes [.prot] s t)) ∧
  (∀ (s : State), s.period.stage = .closing →
    s.prot.state = protectionOf s.line.w.health s.line.e.health →
    (s.prot.handed = true → s.prot.linked = false →
      ∃ t, step (s.withPending []) = .next t ∧ t.prot = { s.prot with handed := false } ∧
        t.toll.pendingTable = [] ∧
        t.toll.detachAnswers = bumps s.toll.pendingTable.length s.toll.detachAnswers ∧
        t.toll.localAnswers = bumps s.toll.pendingTable.length s.toll.localAnswers ∧
        (s.toll.answers.length ≤ 32 → t.toll.answers =
          (s.toll.answers ++ s.toll.pendingTable.map fun p =>
            TollAnswer.mk p.key (localVerdict s.toll p.block) false 0).take 32 ∧
          t.toll.answersDropped = bumps
            (s.toll.answers.length + s.toll.pendingTable.length - 32) s.toll.answersDropped) ∧
        (s.journal.records.length ≤ 512 → t.journal.records =
          ((s.journal.records.map fun (r : JournalRecord) => { r with inFlight := none }) ++
            s.toll.pendingTable.map fun (p : PendingToll) =>
              JournalRecord.mk p.key p.block (localVerdict s.toll p.block) s.journal.seconds 0
                none).take 512 ∧
          t.journal.journalLost = bumps
            (s.journal.records.length + s.toll.pendingTable.length - 512) s.journal.journalLost) ∧
        (∀ r ∈ t.journal.records, r.inFlight = none) ∧
        (∀ q, t.phone.active.entries.get q = none) ∧ t.phone.pendingAt = none ∧
        t.phone.cleared = true ∧ t.phone.active.version = s.phone.active.version ∧
        (∀ q, (posAt t q).call =
          match (posAt s q).call with
          | .requesting => .held
          | .waiting => .held
          | .talking => .held
          | .clearing => if (posAt s q).debounced = .off then .held else .idle
          | c => c) ∧
        t.cond.copy.get condDetached = true ∧ (isIsolated s = false → t.sw = s.sw) ∧
        t.out.uplink = s.out.uplink ∧
        Changes [.prot, .sw, .phone, .toll, .journal, .cond, .sign, .lanes, .out, .period, .pending]
          s t) ∧
    (s.prot.handed = false → s.prot.linked = true →
      RingSlave s ∧ isIsolated s = false ∨
        s.isMaster = true ∧ s.agent.address = some 1 ∧ s.pins.uplinkUp = true →
      (∀ c ∈ [condWrapped, condIsolated, condJournalNonempty, condJournalFull],
        s.cond.copy.get c = ownerFlag s c.val) →
      let held := (indices 4).filter fun q => (posAt s q).call == .held
      let listed := fun (es : List PendingEvent) =>
        es.filter fun x => decide (s.cond.mask < x.level) || x.level == 7
      let e := s.cond.table.get condDetached
      let falls := s.cond.copy.get condDetached = true ∧ 1 ≤ e.level ∧ e.fall = true
      let known := s.cond.events.any fun x => x.condition == condDetached && !x.rise
      let made : PendingEvent :=
        { condition := condDetached, rise := false, level := e.level, stamp := s.journal.seconds
          repeats := 1 }
      let reports :=
        (if listed s.cond.events = [] then [] else [listed s.cond.events]) ++
        (if falls ∧ known = false ∧ listed [made] ≠ [] then [listed (s.cond.events ++ [made])]
         else [])
      let me : Fin 240 := 0
      let joined := fun (qs : List (Fin 4)) =>
        qs.zipIdx.foldl (fun ws x => insertWaiting
          { node := me, position := x.1, priority := (posAt s x.1).priority
            arrival := s.alloc.nextArrival + x.2 } ws) s.alloc.waiting
      ∃ t, step (s.withPending []) = .next t ∧ t.prot = { s.prot with handed := true } ∧
        t.cond.copy = s.cond.copy.set condDetached false ∧
        t.cond.events =
          (if ¬ falls then s.cond.events
           else if known then s.cond.events.map fun x =>
             if x.condition = condDetached ∧ x.rise = false then
               { x with repeats := min 255 (x.repeats + 1) }
             else x
           else s.cond.events ++ [made]) ∧
        t.cond.alarmReports = bumps reports.length s.cond.alarmReports ∧
        (s.isMaster = true ∨ s.sw.alarm.length + reports.length ≤ capacityOf .alarm →
          ∃ fs : List Frame,
            (if s.isMaster then t.out.uplink = s.out.uplink ++ fs.map encodeFrame
             else t.sw.alarm = s.sw.alarm ++ fs ∧ t.out.uplink = s.out.uplink) ∧
            (∀ f ∈ fs, OwnFrame s 0 svcAlarm f.channel f.payload f) ∧
            fs.map (fun f => (f.channel, f.payload)) = reports.map fun es =>
              (octet (es.length - 62), (es.take 62).flatMap encodeEvent)) ∧
        (s.isMaster = false →
          (∀ q, posAt t q =
            if (posAt s q).call ≠ .held then posAt s q
            else if holdsSlots s q then
              { posAt s q with
                call := .talking, resend := none, resume := false, answer := false, place := none }
            else { posAt s q with call := .requesting, resume := true, resend := some 0 }) ∧
          t.phone.requestsSent = bumps held.length s.phone.requestsSent ∧ t.alloc = s.alloc ∧
          (s.sw.vsig.length + held.length ≤ 16 →
            ∃ fs : List Frame, t.sw.vsig = s.sw.vsig ++ fs ∧
              (∀ f ∈ fs, OwnFrame s 1 svcVsig 0 f.payload f) ∧
              fs.map (·.payload) = held.map fun q => encodeVsig
                (.callRequest (ownRef s q) (posAt s q).priority true (posAt s q).answer))) ∧
        (s.isMaster = true →
          (held = [] → t.phone = s.phone ∧ t.alloc = s.alloc ∧
            (isIsolated s = false → t.sw = s.sw)) ∧
          (canGrant s.alloc = false → s.alloc.waiting.length + held.length ≤ 32 →
            (∀ q ∈ held, holdsSlots s q = false ∧ callOf s.alloc me q = none ∧
              s.alloc.waiting.any (isRequest me q) = false) →
            t.alloc.waiting = joined held ∧ t.alloc.calls = s.alloc.calls ∧
            t.alloc.slots = s.alloc.slots ∧
            t.phone.requestsSent = bumps held.length s.phone.requestsSent ∧
            ∀ q, posAt t q =
              if q ∈ held then
                { posAt s q with
                  call := .waiting, resume := true, resend := some 0
                  place := some (placeOf (joined (held.filter (· ≤ q))) me q) }
              else posAt s q) ∧
          (∀ q, held = [q] → holdsSlots s q = false → CallsHoldSlots s →
            ((callOf s.alloc me q).isSome = true ∧
                (s.alloc.waiting = [] ∨ canGrant s.alloc = false) ∨
              callOf s.alloc me q = none ∧ s.alloc.waiting = [] ∧ canGrant s.alloc = true) →
            let version := nextVersion (s.alloc.plans.get me).lastIssued
            knownVersion s.phone version = false → loadable s.phone version = true →
            let entries : PlanEntries := match callOf s.alloc me q, freeSlots s.alloc with
              | none, up :: down :: _ =>
                (currentEntries s.alloc me).set q (some { up, down })
              | _, _ =>
                currentEntries (modCall me q (renewCall (posAt s q).priority) s).alloc me
            ∀ k, wellFormedEntries (encodeEntries entries) = some k →
              posAt t q =
                { posAt s q with call := .requesting, resume := true, resend := some 0 } ∧
              t.phone.pendingAt = some (s.timer.number + 32) ∧ t.phone.standby.entries = k ∧
              t.phone.standby.version = version ∧
              t.phone.requestsSent = bump s.phone.requestsSent ∧
              (t.alloc.plans.get me).inFlight = none ∧
              (t.alloc.plans.get me).accepted =
                { version, switchCycle := s.timer.number + 32, entries } ∧
              t.alloc.waiting = s.alloc.waiting)) ∧
        Changes [.prot, .phone, .alloc, .sw, .openIndex, .cond, .sign, .lanes, .out, .period,
          .pending] s t))

/-- On the master: a processed header of origin MASTER that it did not originate sets condition 51
and restarts its timer, its own and HOLDOVER headers leave them, the timer's expiry clears them (R19);
its own marks the accepted plans whose switch cycle it has reached as seen (R97), and the plans in
flight (R96), for which the mark at once and for good is DEDUCED (log 29); the frames that the cycle
passes join the fresh-transit pool (R47, R59); its positions exchange speech with the cycle (R78,
R79), whose slots then go out on the lanes toward the centre, silence on the others (R102);
reachability is the state of its uplink, in any protection state, and a slave's stays (R18, R21). What
a change of it brings falls at the end of the cycle (R22). That the master's header record stands is a
DESIGN CHOICE (log 45). -/
def Obligations.MasterReach : Prop :=
  (∀ (p : Port) (cycle : Octets) (h : CycleHeader) (s : State),
     let own := h.masterAddr = 1 ∧ (s.timer.number - h.number).toNat < 1000
     let slot := fun (k : Nat) => (cycle.drop (10 + 8 * k)).take 8
     let reached := fun (number c : Half) => number == c || ahead number c
     (s.isMaster = true → processedPort s.prot.state = some p → (portAt s p).rx = .up →
       decodeCycleHeader cycle = some h →
       ∃ t, exec (.headerReceived p cycle) s = .next t ∧ t.timer.number = s.timer.number ∧
         t.timer.record = s.timer.record ∧
         (h.origin = .master → ¬ own →
           t.timer.duplicate = some 0 ∧ t.cond.copy.get condDuplicate = true) ∧
         (h.origin = .holdover ∨ own → t.timer.duplicate = s.timer.duplicate ∧
           t.cond.copy.get condDuplicate = s.cond.copy.get condDuplicate) ∧
         (h.origin = .master → own → (∀ f ∈ zoneItems (zoneOf h.u.toNat cycle),
             ∃ r, f = .frame r ∧ frameFault r = none ∧ r.source ≠ 0 ∧ r.source ≠ 1 ∧ r.dest ≠ 0 ∧
               r.dest ≠ 1 ∧ r.dest ≠ 255) → s.agent.address = some 1 →
           ∀ n, t.alloc.plans.get n =
             { s.alloc.plans.get n with
               acceptedSeen := (s.alloc.plans.get n).acceptedSeen ||
                 reached h.number (s.alloc.plans.get n).accepted.switchCycle
               inFlight := (s.alloc.plans.get n).inFlight.map fun f =>
                 { f with seen := f.seen || reached h.number f.plan.switchCycle } }) ∧
         (∀ fs : List Frame, zoneItems (zoneOf h.u.toNat cycle) = fs.map ZoneItem.frame →
           (∀ f ∈ fs, frameFault f = none ∧ f.source ≠ 0 ∧ f.source ≠ 1 ∧ f.dest ≠ 0 ∧
             f.dest ≠ 1 ∧ f.dest ≠ 255 ∧ 2 ≤ f.hop.toNat) → s.agent.address = some 1 →
           t.sw.pool = s.sw.pool ++ fs.map fun f => { f with hop := f.hop - 1 }) ∧
         t.lanes.fromCentre = s.lanes.fromCentre ∧
         (SpeechWhole s → cycle.length = 1024 →
           (∀ q, t.out.speech.get q =
             match s.phone.active.entries.get q with
             | none => List.replicate 8 0xD5
             | some x =>
               if x.down.val < h.u.toNat then slot x.down.val else List.replicate 8 0xD5) ∧
           (∀ k, h.u.toNat ≤ k.val → t.lanes.toCentre.get k = List.replicate 8 0xD5) ∧
           (∀ k, k.val < h.u.toNat →
             (∀ q, ∀ x ∈ s.phone.active.entries.get q, x.up ≠ k) →
             t.lanes.toCentre.get k = slot k.val) ∧
           (∀ q, ∀ x ∈ s.phone.active.entries.get q, x.up.val < h.u.toNat →
             (∀ k, k ≠ q → ∀ y ∈ s.phone.active.entries.get k, y.up ≠ x.up) →
             t.lanes.toCentre.get x.up = s.pins.speechIn.get q))) ∧
     ((∃ k ∈ s.timer.duplicate, 1000 ≤ k) →
       ∃ t, exec .duplicateMasterClear s = .next t ∧ t.timer = { s.timer with duplicate := none } ∧
         t.cond.copy.get condDuplicate = false ∧
         (s.cond.copy.get condDuplicate = true →
           SignFollows t.cond.copy condDuplicate s.sign t.sign) ∧
         Changes (.timer :: condParts) s t)) ∧
  (∀ (s : State),
     (s.isMaster = true →
       (∃ t, exec .uplinkUp s = .next t ∧ t.pins = { s.pins with uplinkUp := true } ∧
         t.prot = { s.prot with linked := true } ∧ Changes [.pins, .prot] s t) ∧
       ∃ t, exec .uplinkDown s = .next t ∧ t.pins = { s.pins with uplinkUp := false } ∧
         t.prot = { s.prot with linked := false } ∧ Changes [.pins, .prot] s t) ∧
     (s.isMaster = false →
       exec .uplinkUp s = .next (s.modPins fun x => { x with uplinkUp := true }) ∧
       exec .uplinkDown s = .next (s.modPins fun x => { x with uplinkUp := false })))

/-- FORCE_WRAP by its table, and CLEAR_FORCE, answered DONE where they take effect (R35, R36, R199):
the port, the request and the response; the protection state moves to what the healths then give as
the cycle ends (R24). A bring-up of the forced port that
completed in the cycle is taken back (R11, log 49). -/
def Obligations.ForceAndClear : Prop :=
  ∀ (h : Head) (side : Nat) (x : Port) (s : State),
    (Permitted h 4 s → sideOf side = none →
      exec (.forceWrap h side) s =
        .next (answered (.forceWrap h side) h (refusal .badValue) (countRequest h s))) ∧
    (Permitted h 4 s → sideOf side = some x → s.prot.forced = some x →
      exec (.forceWrap h side) s =
        .next (answered (.forceWrap h side) h (.done 0) (countRequest h s))) ∧
    (Permitted h 4 s → sideOf side = some x → s.prot.forced ≠ some x →
      (portAt s (otherPort x)).health = .unhealthy →
      exec (.forceWrap h side) s =
        .next (answered (.forceWrap h side) h (refusal .conflict) (countRequest h s))) ∧
    (Permitted h 4 s → sideOf side = some x → s.prot.forced ≠ some x →
      (portAt s (otherPort x)).health = .healthy →
      ∃ t, exec (.forceWrap h side) s = .next t ∧ t.prot.forced = some x ∧
        (portAt t x).health = .unhealthy ∧ (portAt t x).wtrTimer = none ∧
        (portAt t x).bringUp = 0 ∧ (portAt t x).rx = (portAt s x).rx ∧
        (portAt t x).everHealthy =
          ((portAt s x).everHealthy && (portAt s x).completed.isNone) ∧
        (portAt t x).portRecoveries =
          (portAt s x).completed.getD (portAt s x).portRecoveries ∧
        portAt t (otherPort x) = portAt s (otherPort x) ∧
        protectionOf t.line.w.health t.line.e.health =
          (match x with | .w => .wrapWest | .e => .wrapEast) ∧
        t.prot = { s.prot with forced := some x } ∧
        t = answered (.forceWrap h side) h (.done 0)
          { countRequest h s with line := t.line, prot := t.prot } ∧
        Changes ([.line, .prot] ++ respondParts) s t) ∧
    (Permitted h 5 s → s.prot.forced = none →
      exec (.clearForce h) s = .next (answered (.clearForce h) h (.done 0) (countRequest h s))) ∧
    (Permitted h 5 s → s.prot.forced = some x → ForcedHeld s →
      ∃ t, exec (.clearForce h) s = .next t ∧ t.prot.forced = none ∧
        (portAt t x).health = .unhealthy ∧
        (portAt t x).wtrTimer =
          (if portClear (portAt s x) && (portAt s x).everHealthy then some 0 else none) ∧
        portAt t (otherPort x) = portAt s (otherPort x) ∧
        t.prot = { s.prot with forced := none } ∧
        t = answered (.clearForce h) h (.done 0)
          { countRequest h s with line := t.line, prot := t.prot } ∧
        Changes ([.line, .prot] ++ respondParts) s t)

/-- The end of a cycle that finds both ports UNHEALTHY leaves the node ISOLATED: every frame of the
seven queues and of the holding buffer is discarded with NO_PATH and recorded; on entry a slave is
detached with its age forced to 16 and in holdover, and conditions 49 and 50 move (R14, R20, R24,
R32, R33, R60); a node that was ISOLATED before counts no change (R24). SIGNAL_LOST of the last
HEALTHY port brings it about; while the node stays ISOLATED an offered frame is discarded with
NO_PATH, and from the cycle in which a port recovers it is queued (R32). That the frames are
discarded in the order of the queues, each from its head, and then of the holding buffer, and that
the detach is handed before condition 50 rises, is the model's (log 13). That an offer is discarded
in ISOLATED only while both ports are UNHEALTHY is R32's, read as log 37 has it. -/
def Obligations.IsolationDiscards : Prop :=
  (∀ (p : Port) (s : State), (portAt s (otherPort p)).health = .unhealthy →
    ∃ t, exec (.signalLost p) s = .next t ∧
      protectionOf t.line.w.health t.line.e.health = .isolated) ∧
  (∀ (s : State), s.period.stage = .closing → ReachFollows s →
    s.line.w.health = .unhealthy → s.line.e.health = .unhealthy →
    (s.isMaster = true → s.prot.handed = s.prot.linked) →
    (s.isMaster = false → s.prot.state = .isolated →
      s.prot.handed = false ∧ s.prot.linked = false) →
    let lost := (allQueues.flatMap fun q => (queueFrames s.sw q).map fun f => (Place.queue q, f)) ++
      s.sw.holding.map fun f => (Place.holding, f)
    ∃ t, step (s.withPending []) = .next t ∧ t.prot.state = .isolated ∧
      (s.prot.state ≠ .isolated → t.prot.changes = bump s.prot.changes ∧
        t.prot.isolations = bump s.prot.isolations) ∧
      (s.prot.state = .isolated → t.prot.changes = s.prot.changes ∧
        t.prot.isolations = s.prot.isolations) ∧
      (∀ q, queueFrames t.sw q = []) ∧ t.sw.holding = [] ∧
      t.sw.discards.get (reasonIndex .noPath) =
        bumps lost.length (s.sw.discards.get (reasonIndex .noPath)) ∧
      (s.prot.state ≠ .ring ∨ s.prot.heldS = none → s.sw.records.length ≤ 8 →
        t.sw.records = recordsAfter s.timer.number .noPath lost s.sw.records) ∧
      (s.isMaster = false → s.prot.state ≠ .isolated →
        t.prot.age = 16 ∧ t.prot.linked = false ∧ t.timer.holdover = true) ∧
      (s.isMaster = true → t.prot.linked = s.pins.uplinkUp) ∧
      t.cond.copy.get condIsolated = true ∧ t.cond.copy.get condWrapped = false) ∧
  (∀ (q : QueueName) (f : Frame) (s : State), s.prot.state = .isolated →
    s.agent.address.isSome = true →
    (s.line.w.health = .unhealthy → s.line.e.health = .unhealthy →
      (offerOwn q f s).1.sw = discardFrame s.timer.number .noPath (.queue q) f s.sw) ∧
    (s.line.w.health = .healthy ∨ s.line.e.health = .healthy →
      (budgeted q = true → extent f ≤ s.sw.budget) →
      (queueFrames s.sw q).length < capacityOf q →
      queueFrames (offerOwn q f s).1.sw q = queueFrames s.sw q ++ [f]))

/-! ## Formats (12) -/

/-- A ring cycle that the node makes is a whole cycle, and a reader finds in it the header, the
voice slots and the frames put into it, the fill bits of their flags as zero (R1, R3, R41, R211,
R212). The idle-fill value 0xF5 cannot be a destination (R41). -/
def Obligations.CycleRoundTrip : Prop :=
  ∀ (h : CycleHeader) (voice : List Octets) (fs : List Frame),
    h.u.toNat ≤ 48 → voice.length = h.u.toNat → (∀ v ∈ voice, v.length = 8) →
    (∀ f ∈ fs, f.payload.length ≤ 496 ∧ f.dest ≠ 0xF5) → extents fs ≤ zoneSize h.u.toNat →
    let c := encodeCycle h voice fs
    c.length = 1024 ∧ decodeCycleHeader c = some h ∧ voiceOf h.u.toNat c = voice ∧
    zoneItems (zoneOf h.u.toNat c) =
      fs.map fun f => ZoneItem.frame { f with flags := f.flags &&& 0xC0 }

/-- A VSIG message that fits its format, the entries of a plan, and an answer of the sign are read
back from their octets (R85, R213, R215). The octets of every well-formed request, its code and its
arguments, are read back as that request (R214). A request read from a payload is a well-formed
command with the head it came with and the code its first octet gives (R200, R214). The layout that
is read back is in part the model's: the octets of WRITE entries, the table numbers and the numbers
of enumerations are DEDUCED (log 15). -/
def Obligations.FormatsReadBack : Prop :=
  (∀ (m : VsigMsg) (es : PlanEntries) (pg : Fin 64) (reason : Octet) (faults : Half),
     (vsigFits m = true → decodeVsig (encodeVsig m) = some m) ∧
     ((slotsNamed es.data).Nodup → wellFormedEntries (encodeEntries es) = some es) ∧
     decodeSignAnswer (withCheck [0x81, octet pg.val]) = some (.accept pg) ∧
     decodeSignAnswer (withCheck [0x82, reason]) = some (.reject reason) ∧
     decodeSignAnswer (withCheck ([0x83, octet pg.val] ++ octets2 faults)) =
       some (.status pg faults)) ∧
  (∀ (h : Head) (p : Octets) (i : Instr), h.wellFormed = true → p.length ≤ 496 →
     requestInstr h p = some i →
     i.wellFormed = true ∧ i.head? = some h ∧ requestCodeOf i = some (requestCode p)) ∧
  (∀ (i : Instr) (h : Head) (p : Octets), i.wellFormed = true → i.head? = some h →
     requestOctets i = some p → p.length ≤ 496 ∧ requestInstr h p = some i)

/-! ## The Frame Switch (03) -/

/-- What becomes of an item of a processed zone on an assigned slave: the checks of R42 in order,
then strip, take, copy, pass, an address offer without a copy (R42 to R44, R46 to R48, R50). What
becomes of a frame that passes the checks on an unassigned slave and on the master: the unassigned
slave strips, takes and copies nothing; the master strips sources 0 and 1 and sends frames for the
centre out of its uplink (R43, R45, R47, R48). An address offer that an unassigned slave reads: the
ADDRESS_TAKEN stands in its place, or is offered to MGMT when the transit then runs past the zone;
on the master its own returning offer is stripped and told to the agent (R43, R48, R207, R208). A
frame that is taken or copied is handed to the block of its service: what follows is the row that
the frame is for that block (R44, R46), on the master with the absent flag of its source cleared
(R92). That an ADDRESS_TAKEN in place is not counted in FRAMES_PASSED, and that any returning offer
ends a walk, is the model's (log 35); that a slave acts on a CALL_QUEUED of any source and on a copy
of one is a DESIGN CHOICE (log 44). -/
def Obligations.FrameFate : Prop :=
  (∀ (p : Port) (f : Frame) (h : FrameFields) (s : State), RingSlave s →
     handleItem p .badHeader s = (s.modSw fun sw =>
       loseZone (recordDiscard { reason := .headerCheck, place := .port p, cycle := s.timer.number
                                 fields := none, flushed := none } sw), []) ∧
     handleItem p (.tooLong h true) s =
       (s.modSw (discardFields s.timer.number .tooLong (.port p) h), []) ∧
     handleItem p (.tooLong h false) s =
       (s.modSw fun sw => loseZone (discardFields s.timer.number .tooLong (.port p) h sw), []) ∧
     handleItem p .truncated s = (s.modSw loseZone, []) ∧
     (241 ≤ f.dest.toNat → f.dest.toNat ≤ 254 →
       handleItem p (.frame f) s =
         (s.modSw (discardFrame s.timer.number .badAddress (.port p) f), [])) ∧
     ((f.dest.toNat ≤ 240 ∨ f.dest = 255) →
       (f.service = 0 ∨ 6 < f.service.toNat →
         handleItem p (.frame f) s =
           (s.modSw (discardFrame s.timer.number .badService (.port p) f), [])) ∧
       (1 ≤ f.service.toNat → f.service.toNat ≤ 6 →
         (f.check ≠ payloadCheck f.payload →
           handleItem p (.frame f) s =
             (s.modSw (discardFrame s.timer.number .payloadCheck (.port p) f), [])) ∧
         (f.check = payloadCheck f.payload →
           (s.agent.address = some f.source →
             handleItem p (.frame f) s =
               (s.modSw fun sw => { sw with stripped := bump sw.stripped }, [])) ∧
           (s.agent.address ≠ some f.source →
             (s.agent.address = some f.dest →
               (handleItem p (.frame f) s).2 = [] ∧
               (handleItem p (.frame f) s).1.sw.taken = bump s.sw.taken ∧
               (handleItem p (.frame f) s).1.sw.passed = s.sw.passed) ∧
             (s.agent.address ≠ some f.dest →
               (handleItem p (.frame f) s).1.sw.taken = s.sw.taken ∧
               (handleItem p (.frame f) s).1.sw.copies =
                 (if f.dest = 255 ∧ offerOf f = none ∧
                     (f.service = svcMgmt ∨ f.service = svcAlarm ∨
                     (f.service, f.channel) ∈ s.sw.accept) then bump s.sw.copies
                  else s.sw.copies) ∧
               (f.dest ≠ 255 ∨ offerOf f ≠ none → 2 ≤ f.hop.toNat →
                 (handleItem p (.frame f) s).1 =
                   s.modSw fun sw => { sw with passed := bump sw.passed }) ∧
               (2 ≤ f.hop.toNat →
                 (handleItem p (.frame f) s).2 =
                   [{ inPlace := false, frame := { f with hop := f.hop - 1 } }] ∧
                 (handleItem p (.frame f) s).1.sw.passed = bump s.sw.passed) ∧
               (f.hop.toNat ≤ 1 →
                 (handleItem p (.frame f) s).2 = [] ∧
                 (handleItem p (.frame f) s).1.sw.passed = s.sw.passed ∧
                 (f.dest ≠ 255 → (handleItem p (.frame f) s).1 =
                   s.modSw (discardFrame s.timer.number .hopLimit (.port p) f))))))))) ∧
  (∀ (p : Port) (f : Frame) (s : State), frameFault f = none →
     (s.isMaster = false → s.agent.address = none → offerOf f = none →
       handleItem p (.frame f) s =
         (if f.hop.toNat ≤ 1 then (s.modSw (discardFrame s.timer.number .hopLimit (.port p) f), [])
          else (s.modSw fun sw => { sw with passed := bump sw.passed },
            [{ inPlace := false, frame := { f with hop := f.hop - 1 } }]))) ∧
     (s.isMaster = true → f.source = 0 ∨ f.source = 1 → offerOf f = none →
       handleItem p (.frame f) s =
         (s.modSw fun sw => { sw with stripped := bump sw.stripped }, [])) ∧
     (s.isMaster = true → s.agent.address = some 1 → f.source ≠ 0 → f.source ≠ 1 → f.dest = 0 →
       (handleItem p (.frame f) s).2 = [] ∧
       (s.pins.uplinkUp = true →
         (handleItem p (.frame f) s).1.out.uplink = s.out.uplink ++ [encodeFrame f] ∧
         (handleItem p (.frame f) s).1.sw =
           { s.sw with toCentre := bump s.sw.toCentre }) ∧
       (s.pins.uplinkUp = false →
         (handleItem p (.frame f) s).1.out = s.out ∧
         (handleItem p (.frame f) s).1.sw =
           discardFrame s.timer.number .noPath .uplink f s.sw)) ∧
     (s.isMaster = true → s.agent.address = some 1 → f.source ≠ 0 → f.source ≠ 1 → f.dest ≠ 0 →
       f.dest ≠ 1 → f.dest ≠ 255 →
       (handleItem p (.frame f) s).2 =
         (if f.hop.toNat ≤ 1 then []
          else [{ inPlace := false, frame := { f with hop := f.hop - 1 } }])) ∧
     (s.isMaster = true → ∀ a ∈ offerOf f,
       let u := s.modSw fun sw => { sw with stripped := bump sw.stripped }
       handleItem p (.frame f) s =
         (if s.agent.walk.running then
            respond s.agent.walk.head (.done (s.agent.walk.given * 256 + 1))
              (u.modAgent fun g => { g with walk := { g.walk with running := false, timer := none } })
          else u.modAgent fun g => { g with mgmtIgnored := bump g.mgmtIgnored }, []))) ∧
  (∀ (p : Port) (a : Octet) (f : Frame) (before : List Frame) (zone : Octets) (s : State),
     s.isMaster = false → s.agent.address = none → frameFault f = none → offerOf f = some a →
     (∀ x ∈ before, frameFault x = none ∧ offerOf x = none ∧ 2 ≤ x.hop.toNat) →
     zoneItems zone = (before ++ [f]).map ZoneItem.frame →
     let r := processZone p zone s
     let hop := fun (x : Frame) => { x with hop := x.hop - 1 }
     let fits := extents before + 24 ≤ zone.length
     (2 ≤ a.toNat → a.toNat ≤ 240 →
       r.1.agent = { s.agent with
         address := some a, addressesTaken := bump s.agent.addressesTaken } ∧
       r.1.prot = { s.prot with linked := decide (s.prot.age < 16) } ∧
       Changes [.agent, .prot, .sw, .openIndex] s r.1 ∧
       r.1.sw.passed = bumps before.length s.sw.passed ∧
       ∃ k : Frame, k.dest = 1 ∧ k.source = a ∧ k.service = svcMgmt ∧ k.hop = 250 ∧
         k.payload = [65, a] ++ octetsOf 6 Config.serial.toNat ∧
         (fits → r.2 = before.map hop ++ [k] ∧
           r.1.sw = { s.sw with passed := r.1.sw.passed }) ∧
         (¬ fits → r.2 = before.map hop ∧
           (isIsolated s = false → s.sw.mgmt.length < 8 → 24 ≤ s.sw.budget →
             r.1.sw.mgmt = s.sw.mgmt ++ [k]))) ∧
     (a.toNat < 2 ∨ 240 < a.toNat → 2 ≤ f.hop.toNat →
       r.2 = (before ++ [f]).map hop ∧ r.1.agent = s.agent)) ∧
  (∀ (p : Port) (f : Frame) (s : State), frameFault f = none → s.agent.address.isSome = true →
     (if s.isMaster then f.source ≠ 0 ∧ f.source ≠ 1 else s.agent.address ≠ some f.source) →
     let known := if s.isMaster then markPresent f.source s else s
     let t := (handleItem p (.frame f) s).1
     (s.agent.address = some f.dest →
       exec (handedRow s.isMaster .taken f)
         (known.modSw fun sw => { sw with taken := bump sw.taken }) = .next t) ∧
     (s.agent.address ≠ some f.dest → f.dest = 255 → offerOf f = none → 2 ≤ f.hop.toNat →
       f.service = svcMgmt ∨ f.service = svcAlarm ∨ (f.service, f.channel) ∈ s.sw.accept →
       ∃ u, exec (handedRow s.isMaster .copy f)
           (known.modSw fun sw => { sw with copies := bump sw.copies }) = .next u ∧
         t = u.modSw fun sw => { sw with passed := bump sw.passed }))

/-- An offered frame of the node is dealt with by the first matching row of R52, a full queue as its
owner requires (R52, R53): a message of call signalling for the node's own address is taken and
handed over at once, the only frames of the node for itself; the other rows for every queue. What a
discard writes: its count, and a record at the head of at most eight (R50, R51). That an offer is
discarded in ISOLATED only while both ports are UNHEALTHY is R32's, read as log 37 has it. -/
def Obligations.OfferRows : Prop :=
  (∀ (x : Target) (dest : Octet) (m : VsigMsg) (s : State),
    (s.agent.address = some dest →
      sendVsig hand x dest m s = hand x m (s.modSw fun w => { w with taken := bump w.taken })) ∧
    (s.agent.address ≠ some dest → ∃ f,
      sendVsig hand x dest m s = (offerOwn .vsig f s.spendOpen).1 ∧
      f.payload = encodeVsig m ∧ f.dest = dest)) ∧
  (∀ (cycle : Half) (reason : DiscardReason) (place : Place) (f : Frame) (h : FrameFields)
    (w : FrameSwitch),
    Discarded cycle reason place
      (some { dest := f.dest, source := f.source, service := f.service, channel := f.channel
              hop := f.hop, length := f.payload.length }) w (discardFrame cycle reason place f w) ∧
    Discarded cycle reason place (some h) w (discardFields cycle reason place h w) ∧
    Discarded cycle .headerCheck place none w (discardBadHeader cycle place w)) ∧
  ∀ (q : QueueName) (f : Frame) (s : State),
    let r := offerOwn q f s
    let full := capacityOf q ≤ (queueFrames s.sw q).length
    let admitted := s.agent.address.isSome = true ∧ isIsolated s = false ∧
      (budgeted q = true → extent f ≤ s.sw.budget)
    (s.agent.address = none ∨ isIsolated s = true →
      r.1.sw = discardFrame s.timer.number .noPath (.queue q) f s.sw ∧ r.2 = .discarded) ∧
    (s.agent.address.isSome = true → isIsolated s = false → budgeted q = true →
      s.sw.budget < extent f →
      r.1.sw = discardFrame s.timer.number .noRoom (.queue q) f s.sw ∧ r.2 = .discarded) ∧
    (admitted → ¬ full →
      queueFrames r.1.sw q = queueFrames s.sw q ++ [f] ∧ r.2 = .queued ∧
      r.1.sw.discards = s.sw.discards ∧
      ∀ q', q' ≠ q → queueFrames r.1.sw q' = queueFrames s.sw q') ∧
    (admitted → full → q = .vsig ∨ q = .mgmt ∨ q = .sign →
      r.1.sw = discardFrame s.timer.number .queueFull (.queue q) f s.sw ∧ r.2 = .discarded) ∧
    (admitted → full → q = .tollLive ∨ q = .tollDeferred → r.1.sw = s.sw ∧ r.2 = .returned) ∧
    (admitted → full → q = .alarm →
      r.1.sw.alarm = s.sw.alarm.dropLast ++ [f] ∧ r.2 = .queued ∧
      r.1.sw.discards.get (reasonIndex .queueFull) =
        bump (s.sw.discards.get (reasonIndex .queueFull))) ∧
    (admitted → full → q = .wx →
      r.1.sw.wx = s.sw.wx.drop 1 ++ [f] ∧ r.2 = .queued ∧
      r.1.sw.discards.get (reasonIndex .queueFull) =
        bump (s.sw.discards.get (reasonIndex .queueFull))) ∧
    Changes [.sw] s r.1

/-- The adds of a cycle: each queue gives frames from its head, in the order of visits, for as long
as the zone and, for budgeted queues, the budget hold; the zone of a slave's regenerated cycle and
of its holdover cycle is those adds, that of a repeated cycle the transit in its order and then the
adds (R17, R29, R47, R56, R57). Frames of a budgeted queue that outgrow B are discarded as its visit
finds them at the head, and the visit goes on (R58). On the master's P output the held frames come
first, then, when none is left, those of the pool, each for as long as the next fits; what is left
of the pool joins the holding buffer in order, each frame that would take it beyond 2048 octets
discarded with NO_ROOM; the adds come last (R59, R60). -/
def Obligations.FillWithinBudget : Prop :=
  (∀ (left : Nat) (s : State),
    (∀ q, budgeted q = true → ∀ f ∈ queueFrames s.sw q, extent f ≤ s.sw.budget) →
    let r := fillAdds left s
    let given := fun (x : FrameSwitch) (q : QueueName) =>
      (queueFrames s.sw q).length - (queueFrames x q).length
    let upTo := fun (x : FrameSwitch) (qs : List QueueName) =>
      extents (qs.flatMap fun q => (queueFrames s.sw q).take (given x q))
    let before := fun (q : QueueName) => allQueues.takeWhile (· ≠ q) ++ [q]
    (∀ q, queueFrames r.1.sw q = (queueFrames s.sw q).drop (given r.1.sw q)) ∧
    r.2 = (allQueues.flatMap fun q => (queueFrames s.sw q).take (given r.1.sw q)) ∧
    extents r.2 ≤ left ∧ upTo r.1.sw (allQueues.filter budgeted) ≤ s.sw.budget ∧
    (∀ q, ∀ f ∈ (queueFrames r.1.sw q).head?,
      left < upTo r.1.sw (before q) + extent f ∨
      (budgeted q = true ∧
        s.sw.budget < upTo r.1.sw ((before q).filter budgeted) + extent f)) ∧
    (∀ q, r.1.sw.added.get (queueIndex q) =
      bumps (given r.1.sw q) (s.sw.added.get (queueIndex q))) ∧
    r.1.sw.discards = s.sw.discards ∧ Changes [.sw] s r.1 ∧
    (left = 1014 → s.isMaster = false → s.timer.holdover = true → s.period.processed = false →
      ∀ p, outPort s.prot.state = some p → isFed s p = false →
      ∃ t, exec .holdoverCycle s = .next t ∧ (sentAt t p).drop 10 = encodeZone 1014 r.2 ∧
        ∀ q, queueFrames t.sw q = queueFrames r.1.sw q) ∧
    (let u := s.timer.record.u.toNat
     left = zoneSize u → u ≤ 48 → s.isMaster = false → s.timer.holdover = false →
      s.timer.missing < 3 → s.period.processed = false →
      ∀ p, outPort s.prot.state = some p → isFed s p = false →
      ∃ t, exec .missingCycle s = .next t ∧
        (sentAt t p).drop 10 = List.replicate (8 * u) 0xD5 ++ encodeZone (zoneSize u) r.2 ∧
        ∀ q, queueFrames t.sw q = queueFrames r.1.sw q)) ∧
  (∀ (left : Nat) (q : QueueName) (big rest : List Frame) (s : State), budgeted q = true →
    queueFrames s.sw q = big ++ rest → (∀ f ∈ big, s.sw.budget < extent f) →
    s.sw.records.length ≤ 8 →
    let s' := s.modSw (setQueue q rest)
    (∀ k, budgeted k = true → ∀ f ∈ queueFrames s'.sw k, extent f ≤ s.sw.budget) →
    (fillAdds left s).2 = (fillAdds left s').2 ∧
    (∀ k, queueFrames (fillAdds left s).1.sw k = queueFrames (fillAdds left s').1.sw k) ∧
    (fillAdds left s).1.sw.discards.get (reasonIndex .noRoom) =
      bumps big.length (s.sw.discards.get (reasonIndex .noRoom)) ∧
    (fillAdds left s).1.sw.records =
      recordsAfter s.timer.number .noRoom (big.map fun f => (.queue q, f)) s.sw.records) ∧
  (∀ (p : Port) (s : State), s.isMaster = true → outPort s.prot.state = some p → SpeechWhole s →
    (s.prot.state = .ring → s.prot.heldS = none) →
    (∀ q, budgeted q = true → ∀ f ∈ queueFrames s.sw q, extent f ≤ s.sw.budget) →
    let u := currentU s.alloc
    let held := s.sw.holding
    let pool := s.sw.pool
    ∃ a b t, exec .originateCycle s = .next t ∧ a ≤ held.length ∧ b ≤ pool.length ∧
      extents (held.take a ++ pool.take b) ≤ zoneSize u ∧
      (a < held.length → b = 0 ∧ zoneSize u < extents (held.take (a + 1))) ∧
      (a = held.length → b < pool.length → zoneSize u < extents (held ++ pool.take (b + 1))) ∧
      (let adds := fillAdds (zoneSize u - extents (held.take a ++ pool.take b)) s
       (sentAt t p).drop (10 + 8 * u) =
         encodeZone (zoneSize u) (held.take a ++ pool.take b ++ adds.2) ∧
       ∀ q, queueFrames t.sw q = queueFrames adds.1.sw q) ∧
      t.sw.pool = [] ∧
      t.sw.holding = (pool.drop b).foldl
        (fun x f => if extents x + extent f ≤ 2048 then x ++ [f] else x) (held.drop a) ∧
      t.sw.discards.get (reasonIndex .noRoom) =
        bumps ((held.drop a ++ pool.drop b).length - t.sw.holding.length)
          (s.sw.discards.get (reasonIndex .noRoom))) ∧
  (∀ (p out : Port) (cycle : Octets) (h : CycleHeader) (fs : List Frame) (s : State),
    RingSlave s → processedPort s.prot.state = some p → outPort s.prot.state = some out →
    (portAt s p).rx = .up → decodeCycleHeader cycle = some h → cycle.length = 1024 →
    SpeechWhole s → s.phone.pendingAt = none →
    zoneItems (zoneOf h.u.toNat cycle) = fs.map ZoneItem.frame →
    (∀ f ∈ fs, frameFault f = none ∧ s.agent.address ≠ some f.source ∧
      s.agent.address ≠ some f.dest ∧ f.dest ≠ 255 ∧ 2 ≤ f.hop.toNat) →
    (∀ q, budgeted q = true → ∀ f ∈ queueFrames s.sw q, extent f ≤ s.sw.budget) →
    let u := h.u.toNat
    let transit := fs.map fun f => { f with hop := f.hop - 1 }
    let adds := fillAdds (zoneSize u - extents transit) s
    ∃ t, exec (.headerReceived p cycle) s = .next t ∧
      (sentAt t out).drop (10 + 8 * u) = encodeZone (zoneSize u) (transit ++ adds.2) ∧
      ∀ q, queueFrames t.sw q = queueFrames adds.1.sw q)

/-- UPLINK_FRAME on the master and FIELD_FRAME on a slave: the checks of R42 with place UPLINK, then
the rows of R54, or the agent for a MGMT frame of the terminal (R54, R55, R197, R198). A frame for
the ring is discarded with NO_PATH in ISOLATED and with NO_ROOM above B; a broadcast is copied and
offered; a VSIG frame of the centre for node 1 is ignored by the Slot Allocator (R32, R46, R52, R54,
R92). A frame of the centre for the master is the row of the block it is handed to (R44, R54). What
the port reads is tied to the octets: a frame's own octets are read back, else the first of the
checks of R42 that fails is named. That octets fewer than a header fail the header check, and octets
that do not match their length the payload check, is the model's (log 31). The fill bits of a frame's
flags octet are sent as zero (R212). That a TOLL frame of the centre
takes the TOLL_LIVE queue is a DESIGN CHOICE (log 40). That an offer is discarded in ISOLATED only
while both ports are UNHEALTHY is R32's, read as log 37 has it. -/
def Obligations.UplinkPortFrames : Prop :=
  (∀ (os : Octets) (r : DiscardReason) (h : FrameFields) (f : Frame) (s : State),
     let queue := queueOf f.service
     let sent : Frame := { f with hop := 250 }
     let ring := f.dest = 255 ∨ 2 ≤ f.dest.toNat ∧ f.dest.toNat ≤ 240
     let copied := f.dest = 255 ∧ (f.service = svcMgmt ∨ f.service = svcAlarm ∨
       (f.service, f.channel) ∈ s.sw.accept)
     let counted := { s.sw with copies := if copied then bump s.sw.copies else s.sw.copies }
     let plain := f.dest = 255 → (f.service = svcMgmt → decodeTaken f.payload = none) ∧
       (f.service = svcVsig → f.source = 0)
     (s.isMaster = true → s.pins.uplinkUp = true →
       (readUplink os = .badHeader →
         exec (.uplinkFrame os) s =
           .next (s.modSw (discardBadHeader s.timer.number .uplink))) ∧
       (readUplink os = .bad r h →
         exec (.uplinkFrame os) s =
           .next (s.modSw (discardFields s.timer.number r .uplink h))) ∧
       (readUplink os = .frame f → f.dest = 0 →
         exec (.uplinkFrame os) s =
           .next (s.modSw (discardFrame s.timer.number .badAddress .uplink f))) ∧
       (readUplink os = .frame f → f.dest = 1 → f.source = 0 →
         exec (.uplinkFrame os) s = exec (handedRow true .taken f)
           (s.modSw fun w => { w with taken := bump w.taken })) ∧
       (readUplink os = .frame f → f.dest = 1 → f.service ≠ svcVsig →
         ∃ t, exec (.uplinkFrame os) s = .next t ∧ t.sw.taken = bump s.sw.taken ∧
           t.prot = s.prot ∧ t.line = s.line ∧ t.timer = s.timer) ∧
       (readUplink os = .frame f → f.dest = 1 → f.service = svcVsig → f.source = 0 →
         exec (.uplinkFrame os) s =
           .next ((s.modSw fun w => { w with taken := bump w.taken }).modAlloc fun a =>
             { a with allocIgnored := bump a.allocIgnored })) ∧
       (readUplink os = .frame f → ring → plain →
         ∃ t, exec (.uplinkFrame os) s = .next t ∧
           (isIsolated s = true →
             t.sw = discardFrame s.timer.number .noPath (.queue queue) sent counted) ∧
           (isIsolated s = false → budgeted queue = true → s.sw.budget < extent f →
             t.sw = discardFrame s.timer.number .noRoom (.queue queue) sent counted) ∧
           (isIsolated s = false → (budgeted queue = true → extent f ≤ s.sw.budget) →
             ((queueFrames s.sw queue).length < capacityOf queue →
               queueFrames t.sw queue = queueFrames s.sw queue ++ [sent] ∧
               t.sw.discards = s.sw.discards ∧ t.sw.copies = counted.copies) ∧
             (capacityOf queue ≤ (queueFrames s.sw queue).length →
               t.sw = discardFrame s.timer.number .queueFull (.queue queue) sent counted)) ∧
           (f.dest ≠ 255 → Changes [.sw] s t) ∧
           t.prot = s.prot ∧ t.line = s.line ∧ t.timer = s.timer)) ∧
     (s.isMaster = false →
       (readUplink os = .badHeader →
         exec (.fieldFrame os) s =
           .next (s.modSw (discardBadHeader s.timer.number .uplink))) ∧
       (readUplink os = .bad r h →
         exec (.fieldFrame os) s =
           .next (s.modSw (discardFields s.timer.number r .uplink h))) ∧
       (readUplink os = .frame f → f.service ≠ svcMgmt →
         exec (.fieldFrame os) s =
           .next (s.modSw (discardFrame s.timer.number .notPermitted .uplink f))) ∧
       (readUplink os = .frame f → f.service = svcMgmt → isRequestFrame f = true →
         ∃ t, exec (.fieldFrame os) s = .next t ∧
           (s.agent.requests.length < 4 → t.agent.requests = s.agent.requests ++
             [{ head := { origin := .field, source := f.source, channel := f.channel, tag := f.tag }
                payload := f.payload }]) ∧
           (4 ≤ s.agent.requests.length → t.agent.requests = s.agent.requests ∧
             t.agent.requestsDropped = bump s.agent.requestsDropped) ∧
           Changes [.agent] s t))) ∧
  (∀ (os : Octets) (f : Frame),
     let len := (halfAt os 8).toNat
     let fields : FrameFields :=
       { dest := octetAt os 0, source := octetAt os 1, service := octetAt os 2
         channel := octetAt os 3, hop := octetAt os 4, length := len }
     let payload := (os.drop 12).take len
     let read : Frame :=
       { dest := octetAt os 0, source := octetAt os 1, service := octetAt os 2
         channel := octetAt os 3, hop := octetAt os 4, flags := octetAt os 5, tag := halfAt os 6
         payload, check := payloadCheck payload }
     let dest := (octetAt os 0).toNat
     let service := (octetAt os 2).toNat
     (frameFault f = none → f.payload.length ≤ 496 → 
      readUplink (encodeFrame f) = .frame { f with flags := f.flags &&& 0xC0 }) ∧
     (os.length < 12 ∨ halfAt os 10 ≠ headerCheck (os.take 10) → readUplink os = .badHeader) ∧
     (12 ≤ os.length → halfAt os 10 = headerCheck (os.take 10) →
       readUplink os =
         (if 496 < len then .bad .tooLong fields
          else if 241 ≤ dest ∧ dest ≤ 254 then .bad .badAddress fields
          else if service = 0 ∨ 6 < service then .bad .badService fields
          else if os.length = 16 + len ∧ quadAt os (12 + len) = payloadCheck payload then .frame read
          else .bad .payloadCheck fields)))

/-- ACCEPT_ADD, ACCEPT_REMOVE, DENY_ADD, DENY_REMOVE and DENY_CLEAR by their tables, each
change answered DONE (R49, R118, R199).
That a FULL of these carries 0xFFFF, and not a walk count, is DEDUCED (log 16). -/
def Obligations.ListsChange : Prop :=
  ∀ (h : Head) (v c : Nat) (tag : TagId) (s : State),
    let pair : Octet × Octet := (octet v, octet c)
    (Permitted h 13 s →
      (v = 0 ∨ 6 < v ∨ 255 < c → exec (.acceptAdd h v c) s =
        .next (answered (.acceptAdd h v c) h (refusal .badValue) (countRequest h s))) ∧
      (1 ≤ v → v ≤ 6 → c ≤ 255 → pair ∈ s.sw.accept → exec (.acceptAdd h v c) s =
        .next (answered (.acceptAdd h v c) h (.done 0) (countRequest h s))) ∧
      (1 ≤ v → v ≤ 6 → c ≤ 255 → pair ∉ s.sw.accept → 32 ≤ s.sw.accept.length →
        exec (.acceptAdd h v c) s =
          .next (answered (.acceptAdd h v c) h (refusal .full) (countRequest h s))) ∧
      (1 ≤ v → v ≤ 6 → c ≤ 255 → pair ∉ s.sw.accept → s.sw.accept.length < 32 →
        ∃ t, exec (.acceptAdd h v c) s = .next t ∧
          t.sw.accept.Perm (pair :: s.sw.accept) ∧
          t = answered (.acceptAdd h v c) h (.done 0)
            ((countRequest h s).modSw fun w => { w with accept := t.sw.accept }) ∧
          Changes respondParts s t)) ∧
    (Permitted h 14 s → ∃ t, exec (.acceptRemove h v c) s = .next t ∧
      t.sw.accept = s.sw.accept.filter (fun x => !(x.1.toNat == v && x.2.toNat == c)) ∧
      t = answered (.acceptRemove h v c) h (.done 0)
        ((countRequest h s).modSw fun w => { w with accept := t.sw.accept }) ∧
      Changes respondParts s t) ∧
    (Permitted h 10 s →
      (tag = 0 → exec (.denyAdd h tag) s =
        .next (answered (.denyAdd h tag) h (refusal .badValue) (countRequest h s))) ∧
      (tag ≠ 0 → tag ∈ s.toll.deny → exec (.denyAdd h tag) s =
        .next (answered (.denyAdd h tag) h (.done 0) (countRequest h s))) ∧
      (tag ≠ 0 → tag ∉ s.toll.deny → 256 ≤ s.toll.deny.length → exec (.denyAdd h tag) s =
        .next (answered (.denyAdd h tag) h (refusal .full) (countRequest h s))) ∧
      (tag ≠ 0 → tag ∉ s.toll.deny → s.toll.deny.length < 256 →
        ∃ t, exec (.denyAdd h tag) s = .next t ∧ t.toll.deny.Perm (tag :: s.toll.deny) ∧
          (s.toll.deny.Pairwise (· < ·) → t.toll.deny.Pairwise (· < ·)) ∧
          t.toll = { s.toll with deny := t.toll.deny } ∧
          t = answered (.denyAdd h tag) h (.done 0) { countRequest h s with toll := t.toll } ∧
          Changes (.toll :: respondParts) s t)) ∧
    (Permitted h 11 s → exec (.denyRemove h tag) s =
      .next (answered (.denyRemove h tag) h (.done 0)
        ((countRequest h s).modToll fun x => { x with deny := x.deny.filter (· ≠ tag) }))) ∧
    (Permitted h 12 s → exec (.denyClear h) s =
      .next (answered (.denyClear h) h (.done 0)
        ((countRequest h s).modToll fun x => { x with deny := [] })))

/-! ## Emergency telephones (04) and plan banks (05 section 5.1) -/

/-- OFF_HOOK: the debounced hook and condition 52 + q turn, which may move the sign (R161, R184), and
the call state takes the off-hook by its table (R65, R68, R70, R72). LINKED here is as the node's blocks have been told it, at the end of
the cycle of a change (log 2). -/
def Obligations.OffHook : Prop :=
  ∀ (q : Fin 4) (s : State), s.pins.hooks.get q = .off → (posAt s q).debounced = .on →
    20 ≤ (posAt s q).hookCount →
    let p := posAt s q
    let base : Position := { p with debounced := .off, hookCount := 0 }
    let lifted : Position :=
      if p.call = .ringing then { base with answer := true, ring := none } else base
    let taken := p.call = .idle ∨ p.call = .ringing
    ∃ t, exec (.offHook q) s = .next t ∧ (posAt t q).debounced = .off ∧
      (posAt t q).hookCount = 0 ∧ t.cond.copy.get (condOffhook q) = true ∧
      (s.cond.copy.get (condOffhook q) = false →
        SignFollows t.cond.copy (condOffhook q) s.sign t.sign) ∧
      Changes (callParts ++ condParts) s t ∧
      (RingSlave s →
        (∀ k, k ≠ q → posAt t k = posAt s k) ∧
        (taken → reachable s = true →
          SentVsig s t (.callRequest (ownRef s q) p.priority p.resume lifted.answer) ∧
          t.phone.requestsSent = bump s.phone.requestsSent ∧
          posAt t q =
            (if holdsSlots s q then
              { lifted with call := .talking, resend := none, resume := false, answer := false
                            place := none }
             else { lifted with call := .requesting, resend := some 0 })) ∧
        (taken → reachable s = false → t.sw.vsig = s.sw.vsig ∧
          posAt t q = { lifted with call := .held, resend := none, ring := none, place := none }) ∧
        (¬ taken → t.sw.vsig = s.sw.vsig ∧ posAt t q = base) ∧
        t.phone.callsAnswered =
          (if p.call = .ringing then bump s.phone.callsAnswered else s.phone.callsAnswered))

/-- ON_HOOK, with condition 52 + q and the sign that may follow it (R161, R184), and PRIORITY_PRESS, by
the call state (R65, R66, R69, R73). -/
def Obligations.OnHookAndPress : Prop :=
  ∀ (q : Fin 4) (s : State),
    let p := posAt s q
    let onHook : Position := { p with debounced := .on, hookCount := 0 }
    let toIdle : Position → Position := fun p =>
      { p with call := .idle, priority := false, resume := false, answer := false
               resend := none, ring := none, place := none }
    let calling := p.call = .requesting ∨ p.call = .waiting
    (s.pins.hooks.get q = .on → p.debounced = .off → 20 ≤ p.hookCount →
      ∃ t, exec (.onHook q) s = .next t ∧ (posAt t q).debounced = .on ∧
        (posAt t q).hookCount = 0 ∧ t.cond.copy.get (condOffhook q) = false ∧
        (s.cond.copy.get (condOffhook q) = true →
          SignFollows t.cond.copy (condOffhook q) s.sign t.sign) ∧
        Changes (callParts ++ condParts) s t ∧
        (RingSlave s →
          (∀ k, k ≠ q → posAt t k = posAt s k) ∧
          (calling ∨ p.call = .talking →
            SentVsig s t (.callRelease (ownRef s q)) ∧
            t.phone.releasesSent = bump s.phone.releasesSent ∧
            posAt t q =
              (if holdsSlots s q then { onHook with call := .clearing, resend := some 0 }
               else toIdle onHook)) ∧
          (p.call = .held ∨ p.call = .dropped → t.sw.vsig = s.sw.vsig ∧
            posAt t q = toIdle onHook) ∧
          (p.call = .idle ∨ p.call = .ringing ∨ p.call = .clearing → t.sw.vsig = s.sw.vsig ∧
            posAt t q = onHook))) ∧
    (s.pins.buttons.get q = true → p.holdCount = 3999 →
      (p.priority = true ∨ ¬ calling ∧ p.call ≠ .held ∧ p.call ≠ .talking →
        exec (.priorityPress q) s = .next (modPos q (fun x => { x with holdCount := 4000 }) s)) ∧
      (p.priority = false → p.call = .held ∨ p.call = .talking →
        exec (.priorityPress q) s =
          .next ((modPos q (fun x => { x with holdCount := 4000, priority := true }) s).modPhone
            fun x => { x with priorityPresses := bump x.priorityPresses })) ∧
      (p.priority = false → calling →
        ∃ t, exec (.priorityPress q) s = .next t ∧
          t.phone.priorityPresses = bump s.phone.priorityPresses ∧ Changes callParts s t ∧
          (RingSlave s → SentVsig s t (.callRequest (ownRef s q) true p.resume p.answer) ∧
            t.phone.requestsSent = bump s.phone.requestsSent ∧
            posAt t q = { p with holdCount := 4000, priority := true, resend := some 0 } ∧
            ∀ k, k ≠ q → posAt t k = posAt s k)))

/-- CALL_REQUEST_RESEND, CALL_RELEASE_RESEND and STATUS_TIMER_EXPIRY offer their frame again (R72,
R73, R77). On the master the call signalling of its own positions is handed straight to its Slot
Allocator, and the answers straight back (R52, R79): a request that must wait takes the position to
WAITING at once, and one for a call the allocator holds brings a plan that is pending at once.
LINKED here is as the node's blocks have been told it, at the end of the cycle of a change (log 2).
-/
def Obligations.CallSignalling : Prop :=
  (∀ (q : Fin 4) (s : State), RingSlave s →
     let p := posAt s q
     let talking := ((indices 4).filter fun k => (posAt s k).call == .talking).map (ownRef s)
     (p.call = .requesting ∧ (∃ k ∈ p.resend, 2000 ≤ k) ∨
       p.call = .waiting ∧ (∃ k ∈ p.resend, 10000 ≤ k) →
       ∃ t, exec (.callRequestResend q) s = .next t ∧
         t.phone = { s.phone with
           positions := t.phone.positions, requestsSent := bump s.phone.requestsSent } ∧
         posAt t q = { p with resend := some 0 } ∧ (∀ k, k ≠ q → posAt t k = posAt s k) ∧
         SentVsig s t (.callRequest (ownRef s q) p.priority p.resume p.answer) ∧
         Changes [.phone, .sw, .openIndex] s t) ∧
     (p.call = .clearing → holdsSlots s q = true → (∃ k ∈ p.resend, 2000 ≤ k) →
       ∃ t, exec (.callReleaseResend q) s = .next t ∧
         t.phone = { s.phone with
           positions := t.phone.positions, releasesSent := bump s.phone.releasesSent } ∧
         posAt t q = { p with resend := some 0 } ∧ (∀ k, k ≠ q → posAt t k = posAt s k) ∧
         SentVsig s t (.callRelease (ownRef s q)) ∧ Changes [.phone, .sw, .openIndex] s t) ∧
     (1000 ≤ s.phone.statusTimer →
       (talking = [] → exec .statusTimerExpiry s =
         .next (s.modPhone fun x => { x with statusTimer := x.statusTimer - 1000 })) ∧
       (talking ≠ [] → ∃ t, exec .statusTimerExpiry s = .next t ∧
         t.phone = { s.phone with
           statusTimer := s.phone.statusTimer - 1000, statusSent := bump s.phone.statusSent } ∧
         SentVsig s t (.callStatus talking) ∧ Changes [.phone, .sw, .openIndex] s t))) ∧
  (∀ (q : Fin 4) (s : State), s.isMaster = true → s.agent.address = some 1 →
     let p := posAt s q
     let me : Fin 240 := 0
     p.call = .requesting → (∃ k ∈ p.resend, 2000 ≤ k) →
     (callOf s.alloc me q = none → s.alloc.waiting.any (isRequest me q) = false →
       canGrant s.alloc = false → s.alloc.waiting.length < 32 →
       ∃ t, exec (.callRequestResend q) s = .next t ∧
         t.alloc.waiting = insertWaiting
           { node := me, position := q, priority := p.priority, arrival := s.alloc.nextArrival }
           s.alloc.waiting ∧
         posAt t q =
           { p with call := .waiting, place := some (placeOf t.alloc.waiting me q)
                    resend := some 0 } ∧
         t.alloc.calls = s.alloc.calls ∧ t.alloc.slots = s.alloc.slots ∧
         t.sw = { s.sw with taken := bump (bump s.sw.taken) } ∧
         Changes [.phone, .alloc, .sw] s t) ∧
     (∀ e ∈ callOf s.alloc me q, reachable s = true → CallsHoldSlots s →
       s.alloc.waiting = [] ∨ canGrant s.alloc = false →
       knownVersion s.phone (nextVersion (s.alloc.plans.get me).lastIssued) = false →
       loadable s.phone (nextVersion (s.alloc.plans.get me).lastIssued) = true →
       (∀ k, (wellFormedEntries
         (encodeEntries (currentEntries (modCall me q (renewCall p.priority) s).alloc me))) =
         some k → ∃ t, exec (.callRequestResend q) s = .next t ∧
           t.phone.pendingAt = some (s.timer.number + 32) ∧ t.phone.standby.entries = k ∧
           (t.alloc.plans.get me).inFlight = none ∧ Changes callParts s t)))

/-- CALL_BACK, RING_TIMEOUT, CALL_QUEUED and VSIG_FRAME_IGNORED by their tables (R71, R74, R76). A
CALL_QUEUED of place 0 takes WAITING back to REQUESTING, at whose entry a CALL_REQUEST is offered,
as from any state (R68, R72). That a CALL_QUEUED of a place above 32 is ignored is a DESIGN CHOICE
(log 24). -/
def Obligations.PositionCommands : Prop :=
  ∀ (h : Head) (n : Nat) (q : Fin 4) (ref : CallRef) (place : Nat) (m : VsigMsg) (os : Octets)
    (s : State),
    let ignored := s.modPhone fun x => { x with vsigIgnored := bump x.vsigIgnored }
    let queued := fun (f : Position → Position) =>
      exec (.callQueued ref place) s = .next (modPos q f s)
    (Permitted h 20 s →
      (4 ≤ n → exec (.callBack h n) s =
        .next (answered (.callBack h n) h (refusal .badValue) (countRequest h s))) ∧
      ((posAt s q).call ≠ .idle → exec (.callBack h q.val) s =
        .next (answered (.callBack h q.val) h (refusal .busy) (countRequest h s))) ∧
      ((posAt s q).call = .idle → exec (.callBack h q.val) s =
        .next (answered (.callBack h q.val) h (.done 0)
          (modPos q (fun p => { p with call := .ringing, ring := some 0 }) (countRequest h s))))) ∧
    ((posAt s q).call = .ringing → (∃ k ∈ (posAt s q).ring, 60000 ≤ k) →
      exec (.ringTimeout q) s =
        .next ((modPos q idlePosition s).modPhone fun x =>
          { x with ringTimeouts := bump x.ringTimeouts }) ∧
      (idlePosition (posAt s q)).call = .idle) ∧
    (s.agent.address ≠ some ref.node ∨ 4 ≤ ref.position.toNat ∨ 32 < place →
      exec (.callQueued ref place) s = .next ignored) ∧
    (s.agent.address = some ref.node → ref.position.toNat = q.val → place ≤ 32 →
      ((posAt s q).call = .requesting → 1 ≤ place →
        queued fun p => { p with call := .waiting, place := some place, resend := some 0 }) ∧
      ((posAt s q).call = .requesting → place = 0 → queued fun p => { p with place := some 0 }) ∧
      ((posAt s q).call = .waiting → 1 ≤ place → queued fun p => { p with place := some place }) ∧
      ((posAt s q).call = .waiting → place = 0 →
        ∃ t, exec (.callQueued ref place) s = .next t ∧ Changes callParts s t ∧
          (RingSlave s →
            SentVsig s t (.callRequest (ownRef s q) (posAt s q).priority (posAt s q).resume
              (posAt s q).answer) ∧
            t.phone = { s.phone with
              positions := t.phone.positions, requestsSent := bump s.phone.requestsSent } ∧
            (∀ k, k ≠ q → posAt t k = posAt s k) ∧
            posAt t q =
              (if holdsSlots s q then
                { posAt s q with
                  call := .talking, resend := none, resume := false, answer := false
                  place := none }
               else
                { posAt s q with
                  call := .requesting, place := some 0, resend := some 0 }))) ∧
      ((posAt s q).call ≠ .requesting → (posAt s q).call ≠ .waiting →
        exec (.callQueued ref place) s = .next ignored)) ∧
    (decodeVsig os = none → exec (.vsigFrameIgnored os) s = .next ignored) ∧
    (decodeVsig os = some m → phoneCanUse m = false →
      exec (.vsigFrameIgnored os) s = .next ignored)

/-- PLAN_UPDATE by the first matching row of R86. LINKED here is as the node's blocks have been told
it, at the end of the cycle of a change (log 2). -/
def Obligations.PlanUpdate : Prop :=
  ∀ (v : Via) (source version : Octet) (c : Half) (slots : Octets) (s : State),
    let x := s.phone
    let go := exec (.planUpdate v source version c slots) s
    let known := version = x.active.version ∨
      x.pendingAt.isSome = true ∧ version = x.standby.version
    let fresh := (newer version x.active.version = true ∨ x.cleared = true) ∧
      (x.pendingAt.isSome = true → newer version x.standby.version = true)
    let sends := fun (x' : PhoneInterface) (m : VsigMsg) =>
      ∃ t, go = .next t ∧ t.phone = x' ∧ SentVsig s t m ∧ Changes [.phone, .sw, .openIndex] s t
    let accept := VsigMsg.planAccept (ownSource s) version
    (v = .copy ∨ source ≠ 1 →
      go = .next (s.modPhone fun x => { x with vsigIgnored := bump x.vsigIgnored })) ∧
    (v = .taken → source = 1 → reachable s = false →
      go = .next (s.modPhone fun x => { x with plansIgnored := bump x.plansIgnored })) ∧
    (v = .taken → source = 1 → reachable s = true →
      (wellFormedEntries slots = none →
        go = .next (s.modPhone fun x => { x with vsigIgnored := bump x.vsigIgnored })) ∧
      ∀ es ∈ wellFormedEntries slots,
        (¬ known → ¬ fresh →
          go = .next (s.modPhone fun x => { x with plansStale := bump x.plansStale })) ∧
        (RingSlave s →
          (known → sends { x with plansAccepted := bump x.plansAccepted } accept) ∧
          (¬ known → fresh → ahead c s.timer.number = true →
            sends { x with standby := { version, entries := es }, pendingAt := some c
                           cleared := false, plansAccepted := bump x.plansAccepted } accept) ∧
          (¬ known → fresh → ahead c s.timer.number = false →
            sends { x with plansLate := bump x.plansLate }
              (.planLate (ownSource s) version))))

/-- PLAN_SWITCH: the standby bank becomes active, the other an EMPTY standby, and each position
takes the change by its state (R70, R75, R87). That an EMPTY standby has version 0 is the model's
(log 33); the version has no meaning (R85). LINKED here is as the node's blocks have been told it,
at the end of the cycle of a change (log 2). -/
def Obligations.PlanSwitch : Prop :=
  ∀ (q : Fin 4) (s : State), (∃ c ∈ s.phone.pendingAt, ahead c s.timer.number = false) →
    RingSlave s →
    let p := posAt s q
    let x := s.phone
    let holds := (x.standby.entries.get q).isSome
    let idle := idlePosition p
    ∃ t, exec .planSwitch s = .next t ∧ t.phone.active = x.standby ∧
      t.phone.standby = { version := 0, entries := .fill 4 none } ∧ t.phone.pendingAt = none ∧
      t.phone.activeIsB = !x.activeIsB ∧ t.phone.planSwitches = bump x.planSwitches ∧
      t.phone.cleared = x.cleared ∧
      posAt t q =
        (match p.call with
         | .requesting => if holds then talkingPosition p else p
         | .waiting => if holds then talkingPosition p else p
         | .talking => if holds = false ∧ p.debounced = .off then { p with call := .dropped } else p
         | .clearing =>
           if holds then p
           else if p.debounced = .on then idle
           else if reachable s then { idle with call := .requesting, resend := some 0 }
           else { idle with call := .held }
         | _ => p) ∧
      t.phone.callsDropped =
        bumps ((indices 4).filter fun k => (posAt s k).call == .talking &&
          (x.standby.entries.get k).isNone && (posAt s k).debounced == .off).length
          x.callsDropped ∧
      Changes [.phone, .sw, .openIndex] s t

/-! ## The Slot Allocator (05) -/

/-- CALL_REQUEST of a node other than the master by the first matching row of R93, with the grant
of R94, the issue of R91 and the absent flag of R92. -/
def Obligations.CallRequestRows : Prop :=
  ∀ (n : Fin 240) (q : Fin 4) (priority resume answer : Bool) (s : State), s.isMaster = true →
    s.agent.address = some 1 → n.val ≠ 0 →
    let ref : CallRef := { node := nodeAddr n, position := octet q.val }
    let waits := s.alloc.waiting.find? (isRequest n q)
    let queued := fun (t : State) =>
      SentVsigTo s t (nodeAddr n) (.callQueued ref (placeOf t.alloc.waiting n q)) ∧
      t.alloc.calls = s.alloc.calls ∧ t.alloc.slots = s.alloc.slots ∧
      t.alloc.grants = s.alloc.grants
    ∃ t, exec (.callRequest (nodeAddr n) ref priority resume answer) s = .next t ∧
      (t.alloc.plans.get n).absent = false ∧ Changes [.alloc, .sw, .openIndex] s t ∧
      (∀ k, (currentEntries t.alloc n).get k =
        ((t.alloc.calls.find? (isCall n k)).filter isLive).map (·.slots)) ∧
      (∀ e ∈ callOf s.alloc n q,
        PlanIssued s t n 1 (currentEntries t.alloc n) ∧ t.alloc.slots = s.alloc.slots ∧
        t.alloc.waiting = s.alloc.waiting ∧
        t.alloc.calls = s.alloc.calls.map fun e =>
          if e.node = n ∧ e.position = q then
            { e with
              priority := e.priority || priority, age := 0
              phase := if e.phase = .releasing then .planning else e.phase }
          else e) ∧
      (∀ w ∈ waits, callOf s.alloc n q = none → queued t ∧
        t.alloc.waiting =
          (if priority && !w.priority then
            insertWaiting { w with priority := true }
              (s.alloc.waiting.filter fun x => !isRequest n q x)
           else s.alloc.waiting)) ∧
      (callOf s.alloc n q = none → waits = none → canGrant s.alloc = true →
        PlanIssued s t n 1 (currentEntries t.alloc n) ∧ t.alloc.grants = bump s.alloc.grants ∧
        t.alloc.waiting = s.alloc.waiting ∧
        ∀ up ∈ (freeSlots s.alloc)[0]?, ∀ down ∈ (freeSlots s.alloc)[1]?,
          t.alloc.slots = (s.alloc.slots.set up (.held n false)).set down (.held n false) ∧
          t.alloc.calls.Perm
            ({ node := n, position := q, slots := { up, down }, priority, phase := .planning
               age := 0 } :: s.alloc.calls)) ∧
      (callOf s.alloc n q = none → waits = none → canGrant s.alloc = false →
        (s.alloc.waiting.length < 32 → queued t ∧
          t.alloc.waiting = insertWaiting
            { node := n, position := q, priority, arrival := s.alloc.nextArrival }
            s.alloc.waiting) ∧
        (32 ≤ s.alloc.waiting.length →
          t.alloc.waiting = s.alloc.waiting ∧ t.alloc.calls = s.alloc.calls ∧
          t.alloc.queueRefusals = bump s.alloc.queueRefusals ∧
          SentVsigTo s t (nodeAddr n) (.callQueued ref 0)))

/-- CALL_RELEASE and CALL_STATUS of a node (R95, R100); What the Slot Allocator ignores: a source
outside 1 to 240, a reference that names another node or a position outside 0 to 3, any other
message or none (R92). -/
def Obligations.AllocMessages : Prop :=
  (∀ (n : Fin 240) (q : Fin 4) (refs : List (Fin 4)) (s : State), s.isMaster = true →
     s.agent.address = some 1 →
     let ref := fun (q : Fin 4) => CallRef.mk (nodeAddr n) (octet q.val)
     let live := fun (k : Fin 4) => ((callOf s.alloc n k).filter isLive).isSome
     (∃ t, exec (.callRelease (nodeAddr n) (ref q)) s = .next t ∧ Changes callParts s t ∧
       (callOf s.alloc n q = none →
         t.alloc.waiting = (s.alloc.waiting.filter fun w => !isRequest n q w) ∧
         t.alloc.calls = s.alloc.calls ∧ t.alloc.slots = s.alloc.slots ∧ t.sw = s.sw) ∧
       (∀ e ∈ callOf s.alloc n q, n.val ≠ 0 →
         PlanIssued s t n 1 (currentEntries t.alloc n) ∧ t.alloc.slots = s.alloc.slots ∧
         t.alloc.waiting = s.alloc.waiting ∧ (currentEntries t.alloc n).get q = none ∧
         t.alloc.calls = s.alloc.calls.map fun e =>
           if e.node = n ∧ e.position = q then { e with phase := .releasing } else e)) ∧
     ((s.alloc.calls.map fun e => (e.node, e.position)).Nodup →
       ∃ t, exec (.callStatus (nodeAddr n) (refs.map ref)) s = .next t ∧
         t.alloc.calls = (s.alloc.calls.map fun e =>
           if e.node = n ∧ e.position ∈ refs ∧ isLive e = true then { e with age := 0 } else e) ∧
         t.alloc.statusUnmatched =
           bumps (refs.filter fun k => !live k).length s.alloc.statusUnmatched ∧
         t.alloc.slots = s.alloc.slots ∧ t.alloc.waiting = s.alloc.waiting ∧
         (t.alloc.plans.get n).absent = false ∧ Changes [.alloc] s t)) ∧
  (∀ (n : Fin 240) (source : Octet) (ref : CallRef) (priority resume answer : Bool) (os : Octets)
     (m : VsigMsg) (s : State), s.isMaster = true →
     let ignored := fun (s : State) =>
       s.modAlloc fun a => { a with allocIgnored := bump a.allocIgnored }
     let present := fun (s : State) => s.modAlloc fun a =>
       { a with plans := a.plans.modify n fun r => { r with absent := false } }
     (source = 0 ∨ 240 < source.toNat →
       exec (.callRequest source ref priority resume answer) s = .next (ignored s) ∧
       exec (.callRelease source ref) s = .next (ignored s) ∧
       exec (.callStatus source [ref]) s = .next (ignored s) ∧
       exec (.planAccept source source 1) s = .next (ignored s) ∧
       exec (.planLate source source 1) s = .next (ignored s) ∧
       exec (.allocFrameIgnored source os) s = .next (ignored s)) ∧
     (ref.node ≠ nodeAddr n ∨ 4 ≤ ref.position.toNat →
       exec (.callRequest (nodeAddr n) ref priority resume answer) s = .next (ignored (present s)) ∧
       exec (.callRelease (nodeAddr n) ref) s = .next (ignored (present s)) ∧
       exec (.callStatus (nodeAddr n) [ref]) s = .next (ignored (present s))) ∧
     (decodeVsig os = none ∨ decodeVsig os = some m ∧ phoneCanUse m = true →
       exec (.allocFrameIgnored (nodeAddr n) os) s = .next (ignored (present s))))

/-- PLAN_ACCEPT and PLAN_LATE of a node for the in-flight version, the accepted version and any
other (R96, R97, R98); how the coming round is held is the model's (log 29). -/
def Obligations.PlanAnswers : Prop :=
  ∀ (n : Fin 240) (v : Octet) (s : State), s.isMaster = true → s.agent.address = some 1 →
    let r := s.alloc.plans.get n
    let present := s.modAlloc fun a =>
      { a with plans := a.plans.modify n fun r => { r with absent := false } }
    let stale := present.modAlloc fun a => { a with staleAnswers := bump a.staleAnswers }
    let accept := exec (.planAccept (nodeAddr n) (nodeAddr n) v) s
    let late := exec (.planLate (nodeAddr n) (nodeAddr n) v) s
    let inFlight := r.inFlight.filter fun f => f.plan.version == v
    (inFlight = none → late = .next stale ∧
      (r.accepted.version = v → accept = .next present) ∧
      (r.accepted.version ≠ v → accept = .next stale)) ∧
    (∀ f ∈ inFlight, n.val ≠ 0 →
      ∃ t, exec (.planLate (nodeAddr n) (nodeAddr n) v) s = .next t ∧
        PlanIssued s t n 1 f.plan.entries ∧ t.alloc.calls = s.alloc.calls ∧
        t.alloc.slots = s.alloc.slots ∧ t.alloc.waiting = s.alloc.waiting ∧
        Changes [.alloc, .sw, .openIndex] s t) ∧
    (∀ f ∈ inFlight, s.alloc.waiting = [] →
      let done := f.seen || decide (1000 ≤ cyclesPast f.plan.switchCycle s.timer.number)
      ∃ t, exec (.planAccept (nodeAddr n) (nodeAddr n) v) s = .next t ∧
        t.alloc.plans.get n =
          { r with absent := false, accepted := f.plan, acceptedSeen := f.seen, comeRound := done
                   inFlight := none } ∧
        (∀ m, m ≠ n → t.alloc.plans.get m = s.alloc.plans.get m) ∧
        t.alloc.calls =
          ((s.alloc.calls.map fun e =>
            if e.node = n ∧ e.phase = .planning ∧ f.plan.entries.get e.position = some e.slots
            then { e with phase := .inForce } else e).filter fun e =>
              !(e.node == n && e.phase == .releasing &&
                f.plan.entries.get e.position != some e.slots)) ∧
        (∀ k, t.alloc.slots.get k =
          if done = true ∧ s.alloc.slots.get k = .held n false ∧
            k ∉ slotsNamed f.plan.entries.data ∧
            (∀ e ∈ t.alloc.calls, e.node = n → e.slots.up ≠ k ∧ e.slots.down ≠ k)
          then .free else s.alloc.slots.get k) ∧
        Changes [.alloc] s t)

/-- PLAN_COME_ROUND, PLAN_UNANSWERED, ABSENT_QUARANTINE_EXPIRY and CALL_SUPERVISION_EXPIRY (R97 to
R100); how the coming round is held is the model's (log 29). -/
def Obligations.AllocClock : Prop :=
  ∀ (n : Fin 240) (q : Fin 4) (s : State), s.isMaster = true → s.agent.address = some 1 →
    let r := s.alloc.plans.get n
    (r.comeRound = false → r.acceptedSeen = true ∨
        ahead r.accepted.switchCycle s.timer.number = false ∧
        1000 ≤ (s.timer.number - r.accepted.switchCycle).toNat →
      s.alloc.waiting = [] →
      ∃ t, exec (.planComeRound n) s = .next t ∧
        t.alloc.plans.get n = { r with comeRound := true } ∧
        (∀ m, m ≠ n → t.alloc.plans.get m = s.alloc.plans.get m) ∧
        t.alloc.calls = s.alloc.calls ∧
        (∀ k, t.alloc.slots.get k =
          if s.alloc.slots.get k = .held n false ∧ k ∉ slotsNamed r.accepted.entries.data ∧
            (∀ f ∈ r.inFlight, k ∉ slotsNamed f.plan.entries.data) ∧
            (∀ e ∈ s.alloc.calls, e.node = n → e.slots.up ≠ k ∧ e.slots.down ≠ k)
          then .free else s.alloc.slots.get k) ∧
        Changes [.alloc] s t) ∧
    (∀ f ∈ r.inFlight, ahead f.plan.switchCycle s.timer.number = false →
      64 ≤ (s.timer.number - f.plan.switchCycle).toNat →
      (f.sends < 4 → n.val ≠ 0 →
        ∃ t, exec (.planUnanswered n) s = .next t ∧
          PlanIssued s t n (f.sends + 1) f.plan.entries ∧
          t.alloc.planResends = bump s.alloc.planResends ∧ t.alloc.calls = s.alloc.calls ∧
          t.alloc.slots = s.alloc.slots ∧ t.alloc.waiting = s.alloc.waiting ∧
          Changes [.alloc, .sw, .openIndex] s t) ∧
      (4 ≤ f.sends →
        ∃ t, exec (.planUnanswered n) s = .next t ∧
          t.alloc.plans.get n =
            { r with inFlight := none, absent := true, quarantine := some 0 } ∧
          t.alloc.nodesAbsent = bump s.alloc.nodesAbsent ∧
          (∀ e ∈ t.alloc.calls, e.node ≠ n) ∧ (∀ w ∈ t.alloc.waiting, w.node ≠ n) ∧
          (∀ k mark, s.alloc.slots.get k = .held n mark → t.alloc.slots.get k = .held n true) ∧
          Changes callParts s t)) ∧
    ((∃ k ∈ r.quarantine, 5000 ≤ k) →
      ∃ t, exec (.absentQuarantineExpiry n) s = .next t ∧
        (t.alloc.plans.get n).quarantine = none ∧ Changes callParts s t ∧
        (s.alloc.waiting = [] → t.alloc.calls = s.alloc.calls ∧ ∀ k, t.alloc.slots.get k =
          if s.alloc.slots.get k = .held n true then .free else s.alloc.slots.get k)) ∧
    (∀ e ∈ (callOf s.alloc n q).filter isLive, 3000 ≤ e.age →
      ∃ t, exec (.callSupervisionExpiry n q) s = .next t ∧
        t.alloc.callsSupervised = bump s.alloc.callsSupervised ∧ Changes callParts s t ∧
        (n.val ≠ 0 → PlanIssued s t n 1 (currentEntries t.alloc n) ∧
          (currentEntries t.alloc n).get q = none ∧ t.alloc.slots = s.alloc.slots ∧
          t.alloc.waiting = s.alloc.waiting ∧
          t.alloc.calls = s.alloc.calls.map fun e =>
            if e.node = n ∧ e.position = q then { e with phase := .releasing } else e))

/-- SET_VOICE_CAPACITY by its table (R101); The grants from the queue follow the freeing of a
slot, the deletion of a call and a rise of S (R94, R96, R97, R99, R101). -/
def Obligations.CapacityAndGrants : Prop :=
  (∀ (h : Head) (c : Nat) (s : State), Permitted h 26 s →
     let me : Instr := .setVoiceCapacity h c
     (c < currentU s.alloc →
       exec me s = .next (answered me h (refusal .conflict) (countRequest h s))) ∧
     (currentU s.alloc ≤ c → min c 48 ≤ s.alloc.capacity ∨ s.alloc.waiting = [] →
       exec me s = .next (answered me h (.done 0)
         ((countRequest h s).modAlloc fun a => { a with capacity := min c 48 }))) ∧
     (currentU s.alloc ≤ c →
       ∃ t, exec (.setVoiceCapacity h c) s = .next t ∧ t.alloc.capacity = min c 48 ∧
         DoneAfter me h callParts s t ∧ Changes (callParts ++ respondParts) s t)) ∧
  (∀ (n : Fin 240) (v : Octet) (h : Head) (c : Nat) (s : State), s.isMaster = true →
     let r := s.alloc.plans.get n
     (comeRoundDue s n = true → (∃ k, slotFreed s.alloc n k = true) →
       ∃ t, exec (.planComeRound n) s = .next t ∧ QueueGranted s t) ∧
     ((∃ k ∈ r.quarantine, 5000 ≤ k) → (∃ k, s.alloc.slots.get k = .held n true) →
       ∃ t, exec (.absentQuarantineExpiry n) s = .next t ∧ QueueGranted s t) ∧
     (∀ f ∈ r.inFlight, f.plan.version = v →
       s.alloc.calls.any (callEnded n f.plan.entries) = true →
       ∃ t, exec (.planAccept (nodeAddr n) (nodeAddr n) v) s = .next t ∧ QueueGranted s t) ∧
     (Permitted h 26 s → currentU s.alloc ≤ c → s.alloc.capacity < min c 48 →
       ∃ t, exec (.setVoiceCapacity h c) s = .next t ∧ QueueGranted s t))

/-! ## Tolls (06) and the journal (07) -/

/-- TOLL_RUN_CLOSE: runs that are no block, lane reports, and charges that are refused or repeated
(R105, R106, R108, R109, R111, R129). That hop count 250 leaves by the master's uplink is DEDUCED
(log 11); that the run is the octets held and those the command brings is the model's (log 27), as
is that a lane report whose offer a full queue refuses counts in REPORTS_DROPPED alone (log 43).
LINKED here is as the node's blocks have been told it, at the end of the cycle of a change (log 2).
-/
def Obligations.TollBlocks : Prop :=
  ∀ (os : Octets) (s : State), s.toll.run ++ os ≠ [] →
    let b := s.toll.run ++ os
    let k := blockKey b
    let whole := octetAt b 0 = 0x7E ∧ b.length = 40 ∧ s.toll.runExtra = 0
    let idle : TollRelay := { s.toll with run := [], runExtra := 0, runFresh := false }
    let relay := fun (x : TollRelay) => exec (.tollRunClose os) s = .next (s.modToll fun _ => x)
    let answer := fun (v : Verdict) (x : TollRelay) =>
      if 32 ≤ x.answers.length then { x with answersDropped := bump x.answersDropped }
      else { x with
        answers := x.answers ++ [{ key := k, verdict := v, fromCentre := false, balance := 0 }] }
    let charged : TollRelay := { idle with receivedCharge := bump idle.receivedCharge }
    let again : TollRelay := { charged with duplicates := bump charged.duplicates }
    let legal := 1 ≤ k.lane.toNat ∧ k.lane.toNat ≤ 8 ∧ 1 ≤ blockClass b ∧ blockClass b ≤ 7
    (octetAt b 0 ≠ 0x7E ∨ b.length + s.toll.runExtra ≠ 40 →
      relay { idle with blockLength := bump idle.blockLength }) ∧
    (whole → checkHolds b = false → relay { idle with blockCheck := bump idle.blockCheck }) ∧
    (whole → checkHolds b = true →
      (octetAt b 1 ≠ 1 → octetAt b 1 ≠ 2 → relay { idle with blockKind := bump idle.blockKind }) ∧
      (octetAt b 1 = 2 →
        (reachable s = false → relay { idle with reportsDropped := bump idle.reportsDropped }) ∧
        (reachable s = true → CentreOpen .tollLive 56 s →
          ∃ t, exec (.tollRunClose os) s = .next t ∧ ToCentre .tollLive s t svcToll 2 b ∧
            t.toll = { idle with reportsForwarded := bump idle.reportsForwarded } ∧
            Changes [.toll, .sw, .out, .openIndex] s t) ∧
        (reachable s = true → RingSlave s → isIsolated s = false → 56 ≤ s.sw.budget →
          16 ≤ s.sw.tollLive.length →
          ∃ t, exec (.tollRunClose os) s = .next t ∧
            t.toll = { idle with reportsDropped := bump idle.reportsDropped } ∧
            Changes [.toll, .openIndex] s t)) ∧
      (octetAt b 1 = 1 →
        (¬ legal → relay (answer .rejected { charged with rejected := bump charged.rejected })) ∧
        (legal → (pendingOf s k).isSome = true → relay again) ∧
        (∀ r ∈ journalRecord s k, legal → pendingOf s k = none →
          (r.verdict ≠ .unanswered → relay (answer r.verdict again)) ∧
          (r.verdict = .unanswered →
            exec (.tollRunClose os) s =
              .next ((s.modToll fun _ => answer (localVerdict s.toll r.block) again).modJournal
                fun j => { j with
                  verdictSet := bump j.verdictSet
                  records := j.records.map fun x =>
                    if x.key = k ∧ x.verdict = .unanswered then
                      { x with verdict := localVerdict s.toll r.block } else x })))))

/-- TOLL_RUN_CLOSE with a new transaction: the live path while LINKED and with a place in the
pending table, else the local verdict of R116 and the journal (R110, R112 to R114, R116, R128). Hop
count 250 out of the master's uplink is DEDUCED (log 11); the reading of the run is the model's (log
27); that an arrival is stamped with the node's number as it stands is a DESIGN CHOICE (log 42). LINKED here is as the node's blocks have been told it, at the end of the cycle of a change (log
2). -/
def Obligations.NewCharges : Prop :=
  ∀ (os : Octets) (s : State),
    let b := s.toll.run ++ os
    let k := blockKey b
    octetAt b 0 = 0x7E → b.length = 40 → s.toll.runExtra = 0 → checkHolds b = true →
    octetAt b 1 = 1 → 1 ≤ k.lane.toNat → k.lane.toNat ≤ 8 → 1 ≤ blockClass b → blockClass b ≤ 7 →
    pendingOf s k = none → journalRecord s k = none →
    let charged : TollRelay :=
      { s.toll with
        run := [], runExtra := 0, runFresh := false
        receivedCharge := bump s.toll.receivedCharge }
    let v : Verdict :=
      if blockTag b ∈ s.toll.deny then .declinedLocal
      else if s.toll.classes.get (Fin.ofNat 7 (blockClass b - 1)) then .declinedLocal
      else .provisional
    let answered : TollRelay → TollRelay := fun x =>
      { (if 32 ≤ x.answers.length then { x with answersDropped := bump x.answersDropped }
         else { x with
          answers := x.answers ++ [{ key := k, verdict := v, fromCentre := false, balance := 0 }] })
        with localAnswers := bump x.localAnswers }
    let journalled := fun (t : State) =>
      if s.journal.records.length < 512 then
        t.journal = { s.journal with
          records := s.journal.records ++
            [{ key := k, block := b, verdict := v, journalledAt := s.journal.seconds, offers := 0
               inFlight := none }] }
      else t.journal = { s.journal with journalLost := bump s.journal.journalLost }
    let full := 16 ≤ s.toll.pendingTable.length
    ∃ t, exec (.tollRunClose os) s = .next t ∧ Changes [.toll, .journal, .sw, .out, .openIndex] s t ∧
      (full → t.toll = answered { charged with pendingFull := bump charged.pendingFull } ∧
        journalled t) ∧
      (¬ full → reachable s = false → t.toll = answered charged ∧ journalled t) ∧
      (¬ full → reachable s = true → CentreOpen .tollLive 56 s →
        ToCentre .tollLive s t svcToll 1 b ∧ t.journal = s.journal ∧
        t.toll =
          { charged with
            forwarded := bump charged.forwarded
            pendingTable := charged.pendingTable ++
              [{ key := k, block := b, arrival := s.timer.number, timer := 0 }] }) ∧
      (¬ full → reachable s = true → RingSlave s → isIsolated s = false →
        56 ≤ s.sw.budget → 16 ≤ s.sw.tollLive.length → journalled t ∧
        t.toll = answered { charged with
          forwarded := bump charged.forwarded, liveRefused := bump charged.liveRefused })

/-- PENDING_TIMEOUT: every entry whose timer has reached the T_toll of the cycle is answered locally
and handed to the journal, oldest first (R114, R128). -/
def Obligations.PendingExpires : Prop :=
  ∀ (s : State), CustodyOnce s → s.toll.answers.length ≤ 32 → s.journal.records.length ≤ 512 →
    let expired := s.toll.pendingTable.filter fun p => decide (s.period.inForce.tToll ≤ p.timer)
    let n := expired.length
    ∃ t, exec .pendingTimeout s = .next t ∧
      t.toll.pendingTable =
        (s.toll.pendingTable.filter fun p => decide (p.timer < s.period.inForce.tToll)) ∧
      t.toll.answers = (s.toll.answers ++ expired.map fun p =>
        TollAnswer.mk p.key (localVerdict s.toll p.block) false 0).take 32 ∧
      t.toll.timeouts = bumps n s.toll.timeouts ∧
      t.toll.localAnswers = bumps n s.toll.localAnswers ∧
      t.toll.answersDropped =
        bumps (s.toll.answers.length + n - 32) s.toll.answersDropped ∧
      t.journal.records = (s.journal.records ++ expired.map fun p =>
        JournalRecord.mk p.key p.block (localVerdict s.toll p.block) s.journal.seconds 0
          none).take 512 ∧
      t.journal.journalLost =
        bumps (s.journal.records.length + n - 512) s.journal.journalLost ∧
      Changes [.toll, .journal] s t

/-- TOLL_ANSWER, SETTLED and TOLL_FRAME_IGNORED (R119, R120, R134). -/
def Obligations.CentreAnswers : Prop :=
  ∀ (k : TollKey) (verdict : Octet) (balance : Quad) (channel : Octet) (p : Octets) (v : Via)
    (s : State),
    let ignored := s.modToll fun x => { x with tollIgnored := bump x.tollIgnored }
    let given : Verdict :=
      if verdict = 1 then .accepted else if verdict = 2 then .declined else .unknownTag
    let legal := 1 ≤ verdict.toNat ∧ verdict.toNat ≤ 3
    let go := exec (.tollAnswer .taken k.lane k.txn verdict balance) s
    let settle := exec (.settled .taken k.lane k.txn) s
    let removed := fun (t : State) =>
      t.journal.records = (s.journal.records.filter fun r => r.key != k) ∧
      Changes [.toll, .journal] s t
    exec (.tollAnswer .copy k.lane k.txn verdict balance) s = .next ignored ∧
    exec (.settled .copy k.lane k.txn) s = .next ignored ∧
    (¬ legal → go = .next ignored) ∧
    (legal → (pendingOf s k).isSome = true →
      go = .next (s.modToll fun x => { x with
        pendingTable := x.pendingTable.filter fun e => e.key != k
        answeredByCentre := bump x.answeredByCentre
        answers := if 32 ≤ x.answers.length then x.answers
          else x.answers ++ [{ key := k, verdict := given, fromCentre := true, balance }]
        answersDropped := if 32 ≤ x.answers.length then bump x.answersDropped
          else x.answersDropped })) ∧
    (legal → pendingOf s k = none → (journalRecord s k).isSome = true →
      ∃ t, exec (.tollAnswer .taken k.lane k.txn verdict balance) s = .next t ∧ removed t ∧
        t.toll = { s.toll with lateSettled := bump s.toll.lateSettled }) ∧
    (legal → pendingOf s k = none → journalRecord s k = none →
      go = .next (s.modToll fun x => { x with unmatched := bump x.unmatched })) ∧
    ((journalRecord s k).isSome = true →
      ∃ t, exec (.settled .taken k.lane k.txn) s = .next t ∧ removed t ∧ t.toll = s.toll ∧
        t.journal.settledFromJournal = bump s.journal.settledFromJournal) ∧
    (journalRecord s k = none →
      settle = .next (s.modJournal fun j => { j with
        settledUnmatched := bump j.settledUnmatched })) ∧
    (v = .copy ∨ channel ≠ 4 ∧ channel ≠ 5 ∨
        channel = 4 ∧ (octetAt p 5 = 0 ∨ 3 < (octetAt p 5).toNat) →
      exec (.tollFrameIgnored v channel p) s = .next ignored)

/-- ANSWER_BLOCK_SENT, INFLIGHT_TIMEOUT and SECONDS_CLOCK (R107, R126, R135); JOURNAL_DRAIN while
LINKED: the oldest WAITING records, at most D and no more than keep 8 IN_FLIGHT, are offered; a full
TOLL_DEFERRED ends the drain (R131, R133); in the cycle of a RESTART it offers nothing (R137). Hop
count 250 out of the master's uplink is DEDUCED (log 11). LINKED here is as the node's blocks have
been told it, at the end of the cycle of a change (log 2). -/
def Obligations.JournalCommands : Prop :=
  (∀ (s : State),
     (∀ a ∈ s.toll.answers.head?,
       exec .answerBlockSent s =
         .next ((s.modToll fun x => { x with answers := x.answers.drop 1 }).modOut fun o =>
           { o with tollLine := encodeAnswer a }) ∧
       (encodeAnswer a).length = 16 ∧ checkHolds (encodeAnswer a) = true) ∧
     (let late := fun (r : JournalRecord) => r.inFlight.any fun k => decide (2000 ≤ k)
      ∃ t, exec .inflightTimeout s = .next t ∧
       t.journal.records =
         (s.journal.records.map fun r => if late r then { r with inFlight := none } else r) ∧
       (s.journal.inflightTimeouts ≤ countMax → t.journal.inflightTimeouts =
         bumps (s.journal.records.filter late).length s.journal.inflightTimeouts) ∧
       Changes [.journal] s t) ∧
     (1000 ≤ s.journal.subSecond →
       exec .secondsClock s = .next (s.modJournal fun j =>
         { j with seconds := bump j.seconds, subSecond := j.subSecond - 1000 }))) ∧
  (∀ (s : State), s.period.restarted = true → exec .journalDrain s = .next s) ∧
  (∀ (s : State), reachable s = true → s.period.restarted = false →
     CustodyOnce s → s.agent.address.isSome = true →
     (s.isMaster = true ∨ isIsolated s = false ∧ s.sw.tollDeferred.length ≤ 8) →
     64 ≤ s.sw.budget → (∀ r ∈ s.journal.records, r.block.length = 40) →
     let waiting := s.journal.records.filter fun r => r.inFlight.isNone
     let n := min s.journal.drain (8 - (s.journal.records.filter fun r => r.inFlight.isSome).length)
     let room := if s.isMaster then n else min n (8 - s.sw.tollDeferred.length)
     let chosen := waiting.take room
     let offer := fun (r : JournalRecord) =>
       { r with inFlight := some 0, offers := min 255 (r.offers + 1) }
     ∃ t, exec .journalDrain s = .next t ∧
       (∃ sent : List Frame,
        (if s.isMaster then t.out.uplink = s.out.uplink ++ sent.map encodeFrame ∧ t.sw = s.sw
         else t.sw.tollDeferred = s.sw.tollDeferred ++ sent ∧ t.out = s.out) ∧
        (sent.map (·.payload)) = (chosen.map fun r => encodeDeferred (offer r)) ∧
        ∀ f ∈ sent, OwnFrame s 0 svcToll 3 f.payload f) ∧
       t.journal.records =
         (s.journal.records.map fun r => if r ∈ chosen then offer r else r) ∧
       t.journal.deferredSent = bumps chosen.length s.journal.deferredSent ∧
       t.journal.drainRefused =
         (if room < min n waiting.length then bump s.journal.drainRefused
          else s.journal.drainRefused) ∧
       Changes [.journal, .sw, .out, .openIndex] s t)

/-! ## The Weather Sampler (08) -/

/-- SAMPLE_TICK and PULSE_EDGE (R139, R140, R143); A WRITE of channel entries that passes stores
each clamped and collapsed, and restarts its channel (R141, R142); WX_READ answers with the record
of each enabled channel (R156); the table and the first index that it names are free values (log 8).
That the alarm reports of a channel's restart leave the master's uplink before the DONE of the WRITE is
a DESIGN CHOICE (log 13). -/
def Obligations.WeatherTables : Prop :=
  (∀ (k : Fin 12) (c : Fin 16) (j : Fin 4) (s : State),
     (100 ≤ s.wx.clock →
       ∃ t, exec .sampleTick s = .next t ∧
         t.wx = { s.wx with
           clock := s.wx.clock - 100, analog := t.wx.analog, work := t.wx.work } ∧
         t.wx.analog.get k =
           { code := s.pins.ain.get k, conversions := bump (s.wx.analog.get k).conversions } ∧
         t.wx.work.get c =
           (if (s.wx.table.get c).source = .none then s.wx.work.get c
            else { s.wx.work.get c with ticks := (s.wx.work.get c).ticks + 1 }) ∧
         Changes [.wx] s t) ∧
     (2 ≤ (s.wx.pulses.get j).differ →
       ∃ t, exec (.pulseEdge j) s = .next t ∧ t.wx = { s.wx with pulses := t.wx.pulses } ∧
         t.wx.pulses.get j =
           { level := !(s.wx.pulses.get j).level, differ := 0
             count := if (s.wx.pulses.get j).level then (s.wx.pulses.get j).count
               else min 65535 ((s.wx.pulses.get j).count + 1) } ∧
         (∀ i, i ≠ j → t.wx.pulses.get i = s.wx.pulses.get i) ∧ Changes [.wx] s t)) ∧
  (∀ (h : Head) (first : Nat) (entries : List ChannelWrite) (c : Fin 16) (s : State),
     (Permitted h 2 s → entries ≠ [] → first + entries.length ≤ 16 →
       (∀ e ∈ entries, e.source ≤ 16 ∧ e.compare ≤ 1 ∧ e.highEnable ≤ 1 ∧ e.lowEnable ≤ 1) →
       ∃ t, exec (.writeChannelTable h first entries) s = .next t ∧
         Changes (.wx :: respondParts ++ condParts) s t ∧
         DoneAfter (.writeChannelTable h first entries) h (.wx :: condParts) s t ∧
         (c.val < first ∨ first + entries.length ≤ c.val →
           t.wx.table.get c = s.wx.table.get c ∧ t.wx.work.get c = s.wx.work.get c) ∧
         (first ≤ c.val → ∀ e ∈ entries[c.val - first]?,
           let x := t.wx.table.get c
           let wx := fun (v : Int) => max (-32768) (min 32767 v)
           x.source = ((sourceOf e.source).getD .none) ∧
           (x.period : Int) = max 1 (min 600 e.period) ∧
           (x.zero : Int) = max 0 (min 4095 e.zero) ∧ x.gain = wx e.gain ∧
           x.offset = wx e.offset ∧ (x.window : Int) = max 1 (min 16 e.window) ∧
           (x.shift : Int) = max 0 (min 8 e.shift) ∧ x.compareLong = (e.compare == 1) ∧
           x.highSet = wx e.highSet ∧ x.highClear = min (wx e.highClear) (wx e.highSet) ∧
           x.lowSet = wx e.lowSet ∧ x.lowClear = max (wx e.lowClear) (wx e.lowSet) ∧
           x.highEnable = (e.highEnable == 0) ∧ x.lowEnable = (e.lowEnable == 0) ∧
           (x.persist : Int) = max 1 (min 15 e.persist) ∧
           (x.interval : Int) = max 0 (min 65535 e.interval) ∧
           t.wx.work.get c =
             { ticks := 0, window := [], mean := none, long := none, extremes := none
               high := false, low := false, highCount := 0, lowCount := 0, railRun := 0
               goodRun := 0, fault := false, saturated := false, toReport := x.interval
               since := 0 } ∧
           t.wx.counts.get c = s.wx.counts.get c ∧
           t.cond.copy.get (condHigh c) = false ∧ t.cond.copy.get (condLow c) = false ∧
           t.cond.copy.get (condFault c) = false)) ∧
     (Permitted h 21 s →
       let records := (indices 16).filterMap fun c =>
         if (s.wx.table.get c).source = .none then none
         else some (encodeWxRecord c (s.wx.work.get c))
       ∃ t, exec (.wxRead h) s = .next t ∧
         t = answered (.wxRead h) h
           (.data (openChannel s) (Config.openHalf s.openIndex) records.length records.length
             records.flatten)
           (countRequest h s).spendOpen ∧
         Changes respondParts s t))

/-- CHANNEL_SAMPLE, stages 1 to 6: rail samples and FAULT, the engineering value, the window and
its mean, the long average, the extremes, the thresholds and the conditions (R143 to R152). A
condition that moves alone is handed to the Sign Controller (R161, R184). -/
def Obligations.ChannelStages : Prop :=
  ∀ (c : Fin 16) (s : State),
    let e := s.wx.table.get c
    let w := s.wx.work.get c
    e.source ≠ .none → e.period ≤ w.ticks →
    let n := s.wx.counts.get c
    let pulse := pulseChannel s c
    let rail := sampleRails s c = true
    let runs := sampleRuns s c = true
    let code := sampleCode s c
    let v1 := (((code : Int) - e.zero) * e.gain + 512) / 1024 + e.offset
    let v := max (-32768) (min 32767 v1)
    let kept := if w.fault = true ∧ pulse = false then [] else w.window
    let window := (kept ++ [v]).drop (kept.length + 1 - e.window)
    let m := (2 * window.sum + window.length) / (2 * window.length)
    let long := match w.long with
      | none => m
      | some l => if e.shift = 0 then m else l + (m - l + 2 ^ (e.shift - 1)) / 2 ^ e.shift
    let x := if e.compareLong then long else m
    let judged := fun (on flag : Bool) (count : Nat) (met : Bool) =>
      if on = false then (false, 0)
      else if met = false then (flag, 0)
      else if e.persist ≤ count + 1 then (!flag, 0)
      else (flag, count + 1)
    ∃ t, exec (.channelSample c) s = .next t ∧
      (let y := t.wx.work.get c
       y.ticks = 0 ∧
       (rail → y.railRun = min 3 (w.railRun + 1) ∧
        y.fault = (w.fault || decide (2 ≤ w.railRun)) ∧
        (w.fault = true → y.goodRun = 0) ∧
        y.window = w.window ∧ y.mean = w.mean ∧ y.long = w.long ∧ y.high = w.high ∧
        y.low = w.low ∧ y.saturated = w.saturated ∧
        (if w.fault = false ∧ 2 ≤ w.railRun then y.highCount = 0 ∧ y.lowCount = 0
         else y.highCount = w.highCount ∧ y.lowCount = w.lowCount)) ∧
       (¬ rail → ¬ runs → y.railRun = 0 ∧ y.goodRun = w.goodRun + 1 ∧ y.fault = true ∧
        y.window = w.window ∧ y.mean = w.mean ∧ y.long = w.long ∧ y.high = w.high ∧
        y.low = w.low ∧ y.saturated = w.saturated ∧ y.highCount = w.highCount ∧
        y.lowCount = w.lowCount) ∧
       (runs → y.railRun = 0 ∧ (pulse = false → y.fault = false) ∧
        (pulse = false → w.fault = true → y.goodRun = 0) ∧ y.window = window ∧
        y.mean = some m ∧ y.long = some long ∧ y.saturated = decide (v ≠ v1) ∧
        (y.high, y.highCount) = judged e.highEnable w.high w.highCount
          (if w.high then decide (x ≤ e.highClear) else decide (e.highSet ≤ x)) ∧
        (y.low, y.lowCount) = judged e.lowEnable w.low w.lowCount
          (if w.low then decide (e.lowClear ≤ x) else decide (x ≤ e.lowSet))) ∧
       t.cond.copy.get (condFault c) = y.fault ∧ t.cond.copy.get (condHigh c) = y.high ∧
       t.cond.copy.get (condLow c) = y.low ∧
       (let moved := fun (k : Fin 64) => t.cond.copy.get k ≠ s.cond.copy.get k
        (¬ moved (condFault c) → ¬ moved (condHigh c) → ¬ moved (condLow c) → t.sign = s.sign) ∧
        ∀ k ∈ [condFault c, condHigh c, condLow c], moved k →
          (∀ i ∈ [condFault c, condHigh c, condLow c], i ≠ k → ¬ moved i) →
          SignFollows t.cond.copy k s.sign t.sign) ∧
       (t.wx.counts.get c).samples = bump n.samples ∧
       (t.wx.counts.get c).rails = (if rail then bump n.rails else n.rails) ∧
       (t.wx.counts.get c).faults =
        (if w.fault = false ∧ y.fault = true then bump n.faults else n.faults) ∧
       (t.wx.counts.get c).saturated =
        (if runs ∧ v ≠ v1 then bump n.saturated else n.saturated)) ∧
      (∀ k, e.source = .pin k → (t.wx.pulses.get k).count = 0) ∧
      (∀ i, i ≠ c → t.wx.work.get i = s.wx.work.get i ∧ t.wx.counts.get i = s.wx.counts.get i) ∧
      t.wx.table = s.wx.table ∧ t.wx.analog = s.wx.analog ∧
      Changes (.wx :: condParts) s t

/-- CHANNEL_SAMPLE, stage 7: the extremes, the counters and the report (R150, R153 to R155), on
the master the last frame to leave by the uplink: an alarm report that the sample brings about leaves
before it (R167, R169). Hop
count 250 out of the master's uplink is DEDUCED (log 11). LINKED here is as the node's blocks have
been told it, at the end of the cycle of a change (log 2). -/
def Obligations.ChannelReports : Prop :=
  ∀ (c : Fin 16) (s : State),
    let e := s.wx.table.get c
    let w := s.wx.work.get c
    e.source ≠ .none → e.period ≤ w.ticks →
    let due := e.interval ≠ 0 ∧ w.toReport ≤ 1
    let since := min 65535 (w.since + 1)
    let grown := fun (mean : Option Int) =>
      if sampleRuns s c then
        mean.map fun m => match w.extremes with
          | none => Extremes.mk m m
          | some z => Extremes.mk (max z.peak m) (min z.trough m)
      else w.extremes
    ∃ t, exec (.channelSample c) s = .next t ∧
      (¬ due ∨ reachable s = false →
        (t.wx.work.get c).since = since ∧
        (t.wx.work.get c).extremes = grown (t.wx.work.get c).mean ∧
        (t.wx.work.get c).toReport = (if e.interval = 0 then w.toReport else w.toReport - 1) ∧
        (t.wx.counts.get c).reports = (s.wx.counts.get c).reports) ∧
      (due → reachable s = true →
        (t.wx.work.get c).since = 0 ∧ (t.wx.work.get c).toReport = e.interval ∧
        (t.wx.work.get c).extremes = none ∧
        (t.wx.counts.get c).reports = bump (s.wx.counts.get c).reports ∧
        (CentreOpen .wx 28 s →
          let carries := fun (f : Frame) => OwnFrame s 0 svcWx (octet c.val)
            (encodeWxRecord c { t.wx.work.get c with
              extremes := grown (t.wx.work.get c).mean, since := since }) f
          if s.isMaster then
            UplinkLast t carries ∧ (t.cond.copy = s.cond.copy → UplinkSent s t carries)
          else ∃ f ∈ t.sw.wx.getLast?, carries f))

/-- WX_FRAME_IGNORED, and what becomes of every WX frame handed over, those of the centre from the
master's uplink among them (R157). -/
def Obligations.WxIgnored : Prop :=
  ∀ (p : Port) (f : Frame) (os : Octets) (s : State), f.service = svcWx →
    frameFault f = none → s.agent.address.isSome = true →
    let home := if s.isMaster then f.source = 0 ∨ f.source = 1 else s.agent.address = some f.source
    let counted := { s.wx with wxIgnored := bump s.wx.wxIgnored }
    exec .wxFrameIgnored s = .next (s.modWx fun _ => counted) ∧
    (home → (handleItem p (.frame f) s).1.wx = s.wx) ∧
    (¬ home → s.agent.address = some f.dest → (handleItem p (.frame f) s).1.wx = counted) ∧
    (¬ home → s.agent.address ≠ some f.dest → f.dest = 255 →
      (handleItem p (.frame f) s).1.wx =
        (if (svcWx, f.channel) ∈ s.sw.accept then counted else s.wx)) ∧
    (¬ home → s.agent.address ≠ some f.dest → f.dest ≠ 255 →
      (handleItem p (.frame f) s).1.wx = s.wx) ∧
    (readUplink os = .frame f → s.isMaster = true → s.pins.uplinkUp = true →
      ∃ t, exec (.uplinkFrame os) s = .next t ∧
        t.wx = (if f.dest = 1 ∨ f.dest = 255 ∧ (svcWx, f.channel) ∈ s.sw.accept then counted
          else s.wx))

/-! ## Conditions and alarms (09) -/

/-- ALARM_FRAME_IGNORED, and what becomes of every ALARM frame handed over, those of the centre from
the master's uplink among them; the master does not hand those for the centre to its Condition Unit
(R172). -/
def Obligations.AlarmIgnored : Prop :=
  ∀ (p : Port) (f : Frame) (os : Octets) (s : State), f.service = svcAlarm →
    frameFault f = none → s.agent.address.isSome = true →
    let home := if s.isMaster then f.source = 0 ∨ f.source = 1 else s.agent.address = some f.source
    let counted := { s.cond with alarmIgnored := bump s.cond.alarmIgnored }
    exec .alarmFrameIgnored s = .next (s.modCond fun _ => counted) ∧
    (home → (handleItem p (.frame f) s).1.cond = s.cond) ∧
    (¬ home → s.agent.address = some f.dest ∨ f.dest = 255 →
      (handleItem p (.frame f) s).1.cond = counted ∧
      (handleItem p (.frame f) s).1.sign = s.sign) ∧
    (¬ home → s.agent.address ≠ some f.dest → f.dest ≠ 255 →
      (handleItem p (.frame f) s).1.cond = s.cond) ∧
    (readUplink os = .frame f → s.isMaster = true → s.pins.uplinkUp = true →
      ∃ t, exec (.uplinkFrame os) s = .next t ∧
        t.cond = (if f.dest = 1 ∨ f.dest = 255 then counted else s.cond))

/-- A change of a flag: the copy follows; an edge of level 1 or more, falling only with FALL on,
makes one pending event or repeats it, and a new reportable event is reported while LINKED (R161,
R164 to R168). The change then goes to the Sign Controller, which re-evaluates once, the hold
honoured, when an enabled rule names the condition, and else stands (R161, R184). The owners' commands hand their changes to this operation; SET_CENTRE_FLAG, SET_MASK
and EVENT_ACK by their tables (R162, R166, R170). Hop count 250 out of the master's uplink is
DEDUCED (log 11). That the alarm report of a SET_MASK or a SET_CENTRE_FLAG leaves the master's uplink
before the DONE of the command is a DESIGN CHOICE (log 13). LINKED here is as the node's blocks have
been told it, at the end of the cycle of a change (log 2). -/
def Obligations.ConditionChanges : Prop :=
  (∀ (c : Fin 64) (v : Bool) (s : State), s.cond.copy.get c ≠ v →
     let e := s.cond.table.get c
     let event := 1 ≤ e.level ∧ (v = true ∨ e.fall = true)
     let known := s.cond.events.any fun x => x.condition == c && x.rise == v
     let made : PendingEvent :=
       { condition := c, rise := v, level := e.level, stamp := s.journal.seconds, repeats := 1 }
     let listed := (s.cond.events ++ [made]).filter fun x =>
       decide (s.cond.mask < x.level) || x.level == 7
     let t := changeCondition true c v s
     t.cond.copy = s.cond.copy.set c v ∧ Changes condParts s t ∧
     SignFollows t.cond.copy c s.sign t.sign ∧
     t.cond.table = s.cond.table ∧ t.cond.mask = s.cond.mask ∧
     (¬ event → t.cond = { s.cond with copy := t.cond.copy } ∧ t.sw = s.sw ∧ t.out = s.out) ∧
     (event → known = true →
       t.cond = { s.cond with
         copy := t.cond.copy, eventRepeats := bump s.cond.eventRepeats
         events := s.cond.events.map fun x =>
           if x.condition = c ∧ x.rise = v then { x with repeats := min 255 (x.repeats + 1) }
           else x } ∧ t.sw = s.sw ∧ t.out = s.out) ∧
     (event → known = false →
       t.cond.events = s.cond.events ++ [made] ∧ t.cond.eventsMade = bump s.cond.eventsMade ∧
       (made ∉ listed ∨ reachable s = false → t.sw = s.sw ∧ t.out = s.out ∧
         t.cond.alarmReports = s.cond.alarmReports) ∧
       (made ∈ listed → reachable s = true →
         t.cond.alarmReports = bump s.cond.alarmReports ∧
         (CentreOpen .alarm 0 s → ToCentre .alarm s t svcAlarm (octet (listed.length - 62))
           ((listed.take 62).flatMap encodeEvent))))) ∧
  (∀ (h : Head) (k : Fin 5) (v : Bool) (n value : Nat) (cs : Option (List Nat)) (s : State),
     let code := if v then 1 else 2
     let named := fun (e : PendingEvent) =>
       match cs with
       | none => true
       | some l => decide (e.condition.val ∈ l)
     (Permitted h 17 s →
       (5 ≤ n ∨ value = 0 ∨ 3 ≤ value → exec (.setCentreFlag h n value) s =
         .next (answered (.setCentreFlag h n value) h (refusal .badValue) (countRequest h s))) ∧
       (s.agent.centreFlags.get k = v → exec (.setCentreFlag h k.val code) s =
         .next (answered (.setCentreFlag h k.val code) h (.done 0) (countRequest h s))) ∧
       (s.agent.centreFlags.get k ≠ v →
         ∃ t, exec (.setCentreFlag h k.val code) s = .next t ∧ t.agent.centreFlags.get k = v ∧
           (∀ i, i ≠ k → t.agent.centreFlags.get i = s.agent.centreFlags.get i) ∧
           t.cond.copy.get (condCentreFlag k) = v ∧
           (s.cond.copy.get (condCentreFlag k) ≠ v →
             SignFollows t.cond.copy (condCentreFlag k) s.sign t.sign) ∧
           DoneAfter (.setCentreFlag h k.val code) h (.agent :: condParts) s t ∧
           Changes (condParts ++ respondParts) s t)) ∧
     (Permitted h 16 s →
       (7 < value → exec (.setMask h value) s =
         .next (answered (.setMask h value) h (refusal .badValue) (countRequest h s))) ∧
       (value ≤ 7 →
         ∃ t, exec (.setMask h value) s = .next t ∧ t.cond.mask = value ∧
           t.cond.events = s.cond.events ∧ t.cond.alarmReports =
             (if value < s.cond.mask ∧ reachable s = true ∧
                 s.cond.events.any (fun e => decide (value < e.level) && e.level != 7 &&
                   decide (e.level ≤ s.cond.mask)) = true
              then bump s.cond.alarmReports else s.cond.alarmReports) ∧
           DoneAfter (.setMask h value) h [.cond, .sw, .out, .openIndex] s t ∧
           Changes (.cond :: respondParts) s t)) ∧
     (Permitted h 15 s →
       ((∃ l ∈ cs, ∃ x ∈ l, 63 < x) → exec (.eventAck h cs) s =
         .next (answered (.eventAck h cs) h (refusal .badValue) (countRequest h s))) ∧
       ((∀ l ∈ cs, ∀ x ∈ l, x ≤ 63) → exec (.eventAck h cs) s =
         .next (answered (.eventAck h cs) h (.done (s.cond.events.filter named).length)
           ((countRequest h s).modCond fun u => { u with
             events := u.events.filter fun e => !named e
             eventsAcked := bumpBy (s.cond.events.filter named).length u.eventsAcked })))))

/-! ## The Sign Controller (10) -/

/-- The winner and a re-evaluation: the candidate of highest priority, the centre request before
the rules in order before the test request; page equal, new selection, or no change (R177, R181,
R182, R188, R189). -/
def Obligations.Selection : Prop :=
  ∀ (k : Fin 16) (ignoreHold : Bool) (s : State),
    let g := s.sign
    let copy := s.cond.copy
    let w := winner copy g
    let r := g.rules.get k
    let valid := fun (p : Fin 64) => p = 0 ∨ (descriptorOf g p).isSome = true
    let active := fun (r : SignRule) =>
      r.enabled = true ∧ copy.get r.condA = r.senseA ∧
      (∀ c ∈ r.condB, copy.get c = r.senseB) ∧ valid r.page
    let t := reevaluate copy ignoreHold g
    (∀ c ∈ g.centre, valid c.page → c.priority ≤ w.priority ∧
      (1 ≤ c.priority → c.priority = w.priority → w.source = .centre)) ∧
    (active r → r.priority ≤ w.priority ∧
      (1 ≤ r.priority → r.priority = w.priority → w.source = .centre ∨
        ∃ j, w.source = .rule j ∧ j ≤ k)) ∧
    (∀ c ∈ g.test, valid c.page → 1 ≤ w.priority) ∧
    (w.source = .default → w.page = 0 ∧ w.priority = 0) ∧
    (w.source = .centre → ∃ c ∈ g.centre, valid c.page ∧ w.page = c.page ∧
      w.priority = c.priority) ∧
    (w.source = .rule k → active r ∧ w.page = r.page ∧ w.priority = r.priority) ∧
    (w.source = .test → ∃ c ∈ g.test, valid c.page ∧ w.page = c.page ∧ w.priority = 1) ∧
    (w.page = g.selection.page → t = { g with selection := w }) ∧
    (let taken := ignoreHold = true ∨ g.hold = none ∨ ¬ valid g.selection.page ∨
      g.selection.priority < w.priority
     w.page ≠ g.selection.page →
      (¬ taken → t = g) ∧
      (taken → t.selection = w ∧ t.stale = false ∧ t.selections = bump g.selections ∧
        t.hold = (if g.holdSeconds = 0 then none else some 0) ∧ t.centre = g.centre ∧
        t.rules = g.rules ∧ t.pages = g.pages ∧ t.store = g.store ∧ t.test = g.test ∧
        (g.sender.state = .idle → TransferStarted t [] w.page 1) ∧
        (g.sender.state = .sending → TransferStarted t [0x18, 0x18] w.page 1 ∧
          t.transferAborts = bump g.transferAborts) ∧
        (g.sender.state = .awaiting → t.sender = { g.sender with owed := true })))

/-- SIGN_SHOW, SIGN_CLEAR, SIGN_FRAME, SIGN_TEST, SIGN_RESEND and the three expiries: what each
puts in place, with the re-evaluation it calls for (R178 to R180, R183, R184, R188). -/
def Obligations.SignRequests : Prop :=
  ∀ (h : Head) (page : Fin 64) (n priority lifetime : Nat) (source : Octet) (os : Octets)
    (s : State),
    let copy := s.cond.copy
    let shown := fun (pr life : Nat) (g : SignController) =>
      reevaluate copy true
        { g with centre := some { page, priority := pr, lifetime := life, elapsed := 0 } }
    let cleared := fun (g : SignController) => reevaluate copy true { g with centre := none }
    let ignored := s.modSign fun g => { g with signIgnored := bump g.signIgnored }
    let legal := 1 ≤ priority ∧ priority ≤ 7 ∧ lifetime ≤ 65535
    let same := pageBeingSent s.sign = some s.sign.selection.page
    (Permitted h 6 s →
      (63 < n ∨ ¬ legal → exec (.signShow h n priority lifetime) s =
        .next (answered (.signShow h n priority lifetime) h (refusal .badValue)
          (countRequest h s))) ∧
      (legal → exec (.signShow h page.val priority lifetime) s =
        .next (answered (.signShow h page.val priority lifetime) h (.done 0)
          ((countRequest h s).modSign (shown priority lifetime))))) ∧
    (Permitted h 7 s → exec (.signClear h) s =
      .next (answered (.signClear h) h (.done 0) ((countRequest h s).modSign cleared))) ∧
    (legal → source = 0 →
      exec (.signFrame source ([1, octet page.val, octet priority] ++ octetsOf 2 lifetime)) s =
        .next (s.modSign (shown priority lifetime)) ∧
      exec (.signFrame source [2]) s = .next (s.modSign cleared)) ∧
    (source ≠ 0 ∨ decodeSignRequest os = none →
      exec (.signFrame source os) s = .next ignored) ∧
    (∀ p pr l, decodeSignRequest os = some (.signShow p pr l) →
      63 < p ∨ pr = 0 ∨ 7 < pr → exec (.signFrame source os) s = .next ignored) ∧
    (Permitted h 9 s →
      (63 < n → exec (.signTest h n) s =
        .next (answered (.signTest h n) h (refusal .badValue) (countRequest h s))) ∧
      exec (.signTest h page.val) s =
        .next (answered (.signTest h page.val) h (.done 0) ((countRequest h s).modSign fun g =>
          reevaluate copy false { g with test := some { page, elapsed := 0 } }))) ∧
    ((∃ c ∈ s.sign.test, 60000 ≤ c.elapsed) → exec .testTimerExpiry s =
      .next (s.modSign fun g => reevaluate copy false { g with test := none })) ∧
    ((∃ c ∈ s.sign.centre, c.lifetime ≠ 0 ∧ c.lifetime * 1000 ≤ c.elapsed) →
      exec .centreLifetimeExpiry s =
        .next (s.modSign fun g => reevaluate copy false { g with centre := none })) ∧
    ((∃ k ∈ s.sign.hold, s.period.inForce.holdSeconds * 1000 ≤ k) → exec .holdExpiry s =
      .next (s.modSign fun g => reevaluate copy true { g with hold := none })) ∧
    (Permitted h 8 s →
      (same → exec (.signResend h) s =
        .next (answered (.signResend h) h (.done 0) (countRequest h s))) ∧
      (¬ same → ∃ t, exec (.signResend h) s = .next t ∧
        (s.sign.sender.state = .idle → TransferStarted t.sign [] s.sign.selection.page 1) ∧
        (s.sign.sender.state ≠ .idle →
          t.sign = { s.sign with sender := { s.sign.sender with owed := true } }) ∧
        t = answered (.signResend h) h (.done 0) { countRequest h s with sign := t.sign } ∧
        Changes (.sign :: respondParts) s t))

/-- SIGN_ACCEPT, SIGN_REJECT, SIGN_STATUS_ANSWER and SIGN_BAD_ANSWER (R187, R190 to R192);
COMMAND_SENT, ANSWER_TIMEOUT and POLL_TIMER_EXPIRY (R188, R191, R192). The octet 255 for no rule in a
status frame is the model's (log 30), as is the octet 0 for a clear SIGN_FAIL (log 15); hop count 250
out of the master's uplink is DEDUCED (log 11). That the re-evaluation of a rise of SIGN_FAIL comes
before the end of the exchange is a DESIGN CHOICE (log 13). -/
def Obligations.SignExchanges : Prop :=
  (∀ (p : Fin 64) (n : Nat) (reason : Octet) (faults : Half) (os : Octets) (s : State),
     let x := s.sign.sender
     let selected := s.sign.selection.page
     let bad := s.modSign fun g => { g with badAnswers := bump g.badAnswers }
     let awaits := fun (e : Exchange) => x.state = .awaiting ∧ x.exchange = e
     let heard := fun (t : State) =>
       t.sign.sender.missedPolls = 0 ∧ t.sign.sender.signFail = false ∧
       t.cond.copy.get condSignFail = false ∧ Changes condParts s t
     let attempts := [1, 2, 3]
     (63 < n → exec (.signAccept n) s = .next bad ∧
       exec (.signStatusAnswer n faults) s = .next bad) ∧
     (decodeSignAnswer os = none → exec (.signBadAnswer os) s = .next bad) ∧
     (∃ t, exec (.signAccept p.val) s = .next t ∧ heard t ∧
       (∀ a ∈ attempts, awaits (.transfer p a) →
         t.sign.sender.displayed = some p ∧ t.sign.sender.undelivered = false ∧
         t.sign.pagesAccepted = bump s.sign.pagesAccepted ∧
         t.sign.badAnswers = s.sign.badAnswers ∧
         (s.cond.copy.get condSignFail = false →
           (x.owed = true → TransferStarted t.sign [] selected 1) ∧
           (x.owed = false → SenderIdle t.sign) ∧
           (CentreOpen .sign 25 s → (s.isMaster = true → s.pins.uplinkUp = true) →
             let carries := fun (f : Frame) => OwnFrame s 0 svcSign f.channel
               ([3, octet p.val, octet selected.val, octet s.sign.selection.priority,
                 octet (signSourceCode s.sign.selection.source),
                 octet ((signRuleIndex s.sign.selection.source).getD 255)] ++
                 octets2 x.faultFlags ++ [0]) f
             if s.isMaster then UplinkSent s t carries
             else ∃ f ∈ t.sw.sign.getLast?, carries f) ∧
           (s.isMaster = true → s.pins.uplinkUp = false → t.sw = s.sw ∧ t.out = s.out))) ∧
       ((∀ a ∈ attempts, ¬ awaits (.transfer p a)) →
         (∀ q a, x.exchange = .transfer q a → q = p → 1 ≤ a ∧ a ≤ 3) →
         t.sign.badAnswers = bump s.sign.badAnswers ∧ t.sign.sender.displayed = x.displayed ∧
         t.sign.pagesAccepted = s.sign.pagesAccepted)) ∧
     (∃ t, exec (.signReject reason) s = .next t ∧ heard t ∧
       (x.state ≠ .awaiting ∨ x.exchange = .poll ∨ x.exchange = .none →
         t.sign.badAnswers = bump s.sign.badAnswers ∧
         t.sign.pagesRejected = s.sign.pagesRejected) ∧
       (∀ a ∈ attempts, awaits (.transfer p a) →
         t.sign.sender.lastReject = some reason ∧
         t.sign.pagesRejected = bump s.sign.pagesRejected ∧
         (s.cond.copy.get condSignFail = false →
           (x.owed = true → TransferStarted t.sign [] selected 1) ∧
           (x.owed = false → a ≤ 2 → TransferStarted t.sign [] p (a + 1)) ∧
           (x.owed = false → a = 3 → SenderIdle t.sign ∧ t.sign.sender.undelivered = true ∧
             t.sign.deliveryFailures = bump s.sign.deliveryFailures)))) ∧
     (∃ t, exec (.signStatusAnswer p.val faults) s = .next t ∧ heard t ∧
       (¬ awaits .poll → t.sign.badAnswers = bump s.sign.badAnswers ∧
         t.sign.sender.faultFlags = x.faultFlags) ∧
       (awaits .poll → t.sign.sender.faultFlags = faults ∧
         t.sign.badAnswers = s.sign.badAnswers ∧
         (s.cond.copy.get condSignFail = false →
           (x.owed = true ∨ x.undelivered = true ∨ p ≠ selected →
             TransferStarted t.sign [] selected 1) ∧
           (x.owed = false → x.undelivered = false → p = selected → SenderIdle t.sign))))) ∧
  (∀ (p : Fin 64) (s : State),
     let x := s.sign.sender
     let late := x.state = .awaiting ∧ ∃ k ∈ x.answerTimer, s.period.inForce.answerLimit ≤ k
     let ends := fun (g t : SignController) =>
       (g.sender.owed = true → TransferStarted t [] g.selection.page 1) ∧
       (g.sender.owed = false → SenderIdle t)
     (x.state = .sending → x.line.length ≤ 16 * x.sentCycles →
       exec .commandSent s = .next (s.modSign fun g => { g with
         sender := { g.sender with
           state := .awaiting, line := [], sentCycles := 0, answerTimer := some 0 } })) ∧
     (∀ a ∈ [1, 2, 3], late → x.exchange = .transfer p a →
       ∃ t, exec .answerTimeout s = .next t ∧ Changes [.sign] s t ∧
         t.sign.answerTimeouts = bump s.sign.answerTimeouts ∧
         t.sign.sender.missedPolls = x.missedPolls ∧
         (x.owed = true → TransferStarted t.sign [] s.sign.selection.page 1) ∧
         (x.owed = false → a ≤ 2 → TransferStarted t.sign [] p (a + 1)) ∧
         (x.owed = false → a = 3 → SenderIdle t.sign ∧ t.sign.sender.undelivered = true ∧
           t.sign.deliveryFailures = bump s.sign.deliveryFailures)) ∧
     (late → x.exchange = .poll →
       ∃ t, exec .answerTimeout s = .next t ∧ Changes condParts s t ∧
         t.sign.pollsMissed = bump s.sign.pollsMissed ∧
         t.sign.sender.missedPolls = min 3 (x.missedPolls + 1) ∧
         (2 ≤ x.missedPolls → t.sign.sender.signFail = true ∧
           t.cond.copy = s.cond.copy.set condSignFail true ∧
           (s.cond.copy.get condSignFail = true ∨ ¬ NamedByRule s.sign condSignFail →
             ends s.sign t.sign) ∧
           (s.cond.copy.get condSignFail = false → NamedByRule s.sign condSignFail →
             ends (reevaluate t.cond.copy false s.sign) t.sign)) ∧
         (x.missedPolls ≤ 1 → t.sign.sender.signFail = x.signFail ∧ t.cond = s.cond ∧
           ends s.sign t.sign)) ∧
     (x.state = .idle → 10000 ≤ x.pollTimer →
       exec .pollTimerExpiry s = .next (s.modSign fun g => { g with
         pollsSent := bump g.pollsSent
         sender := { g.sender with
           state := .sending, exchange := .poll, line := encodePoll, sentCycles := 0 } }) ∧
       encodePoll.length = 4))

/-- WRITEs of the sign rules, the page table and the page store that pass (R176, R184 to R186). -/
def Obligations.SignWrites : Prop :=
  ∀ (h : Head) (first : Nat) (rules : List RuleWrite) (pages : List (List Segment))
    (blocks : List Octets) (k : Fin 16) (p : Fin 63) (a : Nat) (s : State), Permitted h 2 s →
    let sending := pageBeingSent s.sign
    (rules ≠ [] → first + rules.length ≤ 16 → (∀ e ∈ rules, checkRule 0 e = none) →
      ∃ t, exec (.writeSignRules h first rules) s = .next t ∧
        Changes (.sign :: respondParts) s t ∧
        t = answered (.writeSignRules h first rules) h (.done 0)
          { countRequest h s with sign := t.sign } ∧
        (k.val < first → t.sign.rules.get k = s.sign.rules.get k) ∧
        (first ≤ k.val →
          (rules[k.val - first]? = none → t.sign.rules.get k = s.sign.rules.get k) ∧
          ∀ e ∈ rules[k.val - first]?,
            let x := t.sign.rules.get k
            x.condA.val = e.condA ∧ x.senseA = (e.senseA == 0) ∧
            x.condB.map (·.val) = e.condB ∧ (e.condB.isSome = true → x.senseB = (e.senseB == 0)) ∧
            x.page.val = e.page ∧ (x.priority : Int) = max 1 (min 6 e.priority) ∧
            x.enabled = (e.enabled == 0)) ∧
        t.sign = reevaluate s.cond.copy false { s.sign with rules := t.sign.rules }) ∧
    (pages ≠ [] → 1 ≤ first → first + pages.length ≤ 64 →
      (∀ d ∈ pages, d = [] ∨ descriptorValid d = true) →
      (∀ b ∈ sending, b.val < first ∨ first + pages.length ≤ b.val) →
      ∃ t, exec (.writePageTable h first pages) s = .next t ∧
        Changes (.sign :: respondParts) s t ∧
        t = answered (.writePageTable h first pages) h (.done 0)
          { countRequest h s with sign := t.sign } ∧
        (p.val + 1 < first → t.sign.pages.get p = s.sign.pages.get p) ∧
        (first ≤ p.val + 1 →
          t.sign.pages.get p = (match pages[p.val + 1 - first]? with
            | none => s.sign.pages.get p
            | some d => if d = [] then none else some d)) ∧
        (let weighed := reevaluate s.cond.copy false { s.sign with pages := t.sign.pages }
         let stored := fun (q : Fin 64) => first ≤ q.val ∧ ∃ d ∈ pages[q.val - first]?, d ≠ []
         let before := s.sign.selection.page
         (¬ stored before ∨ weighed.selection.page ≠ before → t.sign = weighed) ∧
         (stored before → weighed.selection.page = before →
          (s.sign.sender.state = .idle → TransferStarted t.sign [] before 1) ∧
          (s.sign.sender.state ≠ .idle → t.sign = { weighed with
            stale := true, sender := { weighed.sender with owed := true } })))) ∧
    (blocks ≠ [] → first + blocks.length ≤ 512 → (∀ b ∈ blocks, b.length = 64) →
      (∀ i < blocks.length, blockBusy s.sign (first + i) = false) → StoreCanonical s →
      ∃ t, exec (.writePageStore h first blocks) s = .next t ∧
        Changes (.sign :: respondParts) s t ∧
        t = answered (.writePageStore h first blocks) h (.done 0)
          { countRequest h s with sign := t.sign } ∧ StoreCanonical t ∧
        t.sign = { s.sign with store := t.sign.store } ∧
        storeRead t.sign.store a =
          (if first * 64 ≤ a ∧ a < (first + blocks.length) * 64
           then blocks.flatten.getD (a - first * 64) 0 else storeRead s.sign.store a))

/-! ## Management (11) -/

/-- Every request is refused by the first check of R200 that applies; each that passes, but for
those whose response or counts have a rule of their own, is counted, answered once and leaves the
queue (R198, R199, R200, R203). When the counts move is DEDUCED (log 38), as is the
0xFFFF of a WRITE refused by these checks (log 16). -/
def Obligations.RequestsAnswered : Prop :=
  ∀ (i : Instr) (s : State), ∀ h ∈ i.head?, ∀ code ∈ requestCodeOf i,
    let field := h.origin = .field
    let locked := field ∧ s.agent.fieldLock = true
    let refusedWith := fun (r : Reason) =>
      exec i s = .next (answered i h (refusal r) (countRequest h s))
    (locked → refusedWith .locked) ∧
    (field → s.agent.fieldLock = false → code ∉ [1, 9, 21, 22, 23] →
      refusedWith .notPermitted) ∧
    (h.origin = .centre → s.isMaster = false → code = 24 ∨ code = 26 → refusedWith .notMaster) ∧
    (Permitted h code s → code ∉ [3, 22, 24] →
      ∃ t, exec i s = .next t ∧
        t.agent.requestsExecuted = bump s.agent.requestsExecuted ∧
        t.agent.fieldRequests =
          (if h.origin = .field then bump s.agent.fieldRequests else s.agent.fieldRequests) ∧
        t.agent.responsesSent = bump s.agent.responsesSent ∧
        t.agent.requests = leaveQueue i s.agent.requests ∧ t.pending = s.pending)

/-- MGMT_FRAME_RECEIVED: requests join the queue of four or are dropped, the rest is ignored;
FIELD_LOCK and FIELD_UNLOCK; IDENTIFY (R197, R198, R200, R204); the response of a request: its
address, its tag and flags, its path (R199). That codes 64 and 65
make no request is DEDUCED (log 35), as is hop count 250 out of the uplink port (log 11); the table
and the first index that IDENTIFY names are free values (log 8). -/
def Obligations.RequestPaths : Prop :=
  (∀ (origin : Origin) (f : Frame) (h : Head) (s : State),
     let go := exec (.mgmtFrameReceived origin f) s
     let ignored := s.modAgent fun a => { a with mgmtIgnored := bump a.mgmtIgnored }
     let request := f.flags.getLsbD 6 = false ∧ requestCode f.payload ≠ 64 ∧
       requestCode f.payload ≠ 65
     let joins := QueuedRequest.mk
       { origin, source := f.source, channel := f.channel, tag := f.tag } f.payload
     (request → origin = .field ∨ f.source = 0 →
       (s.agent.requests.length < 4 → go = .next (s.modAgent fun a =>
         { a with requests := a.requests ++ [joins] })) ∧
       (4 ≤ s.agent.requests.length → go = .next (s.modAgent fun a =>
         { a with requestsDropped := bump a.requestsDropped }))) ∧
     (request → origin = .centre → f.source ≠ 0 → go = .next ignored) ∧
     (f.flags.getLsbD 6 = true → go = .next ignored) ∧
     (¬ request → s.agent.address.isSome = true →
       s.isMaster = false ∨ requestCode f.payload ≠ 65 → go = .next ignored) ∧
     (Permitted h 18 s → exec (.fieldLock h) s = .next (answered (.fieldLock h) h (.done 0)
       ((countRequest h s).modAgent fun a => { a with fieldLock := true }))) ∧
     (Permitted h 19 s → exec (.fieldUnlock h) s = .next (answered (.fieldUnlock h) h (.done 0)
       ((countRequest h s).modAgent fun a => { a with fieldLock := false }))) ∧
     (Permitted h 23 s → exec (.identify h) s =
       .next (answered (.identify h) h
         (.data (openChannel s) (Config.openHalf s.openIndex) 1 1 (octetsOf 6 Config.serial.toNat ++
           octets2 Config.modelCode ++ [Config.revision, s.agent.address.getD 0,
           octet ((if s.agent.address.isSome then 1 else 0) + if s.isMaster then 2 else 0)]))
         (countRequest h s).spendOpen))) ∧
  (∀ (h : Head) (r : Result) (s : State),
     let t := respond h r s
     t.agent = { s.agent with responsesSent := bump s.agent.responsesSent } ∧
     Changes respondParts s t ∧
     (h.origin = .field ∨ s.isMaster = true ∧ s.pins.uplinkUp = true →
       t.sw = s.sw ∧ UplinkSent s t (ResponseFrame s h r)) ∧
     (h.origin = .centre → s.isMaster = true → s.pins.uplinkUp = false →
       t.out = s.out ∧ t.sw.discards.get (reasonIndex .noPath) =
         bump (s.sw.discards.get (reasonIndex .noPath))) ∧
     (h.origin = .centre → s.isMaster = false → t.out = s.out ∧
       (s.agent.address.isSome = true → isIsolated s = false → s.sw.mgmt.length < 8 →
         16 + (encodeResult r).length ≤ s.sw.budget →
         t.sw.mgmt.dropLast = s.sw.mgmt ∧ ∃ f ∈ t.sw.mgmt.getLast?, ResponseFrame s h r f) ∧
       (s.agent.address = none ∨ isIsolated s = true →
         t.sw.mgmt = s.sw.mgmt ∧ t.sw.discards.get (reasonIndex .noPath) =
           bump (s.sw.discards.get (reasonIndex .noPath)))))

/-- READ: the tables and their indices, the refusals, and the entries returned: as many as were
asked for, are present and fit whole into the payload, from the first index on (R201); the contents
of every table, field by field (R7, R12, R39, R49, R51, R61, R67, R82, R103, R115, R117, R118, R125,
R126, R132, R138, R141, R158, R163, R164, R166, R173, R176, R185, R186, R194, R210). The table codes,
the enumerations, the flags and the absent fields are read from R214 (log 15), and the age of a master
is the model's (log 41). That a stopped hold, walk or quarantine timer reads as absent, that the walk
record of an IDLE walk reads as it last stood and that of a slave as absent, and that the test request
of the sign status carries no priority, is the model's too (log 15). That a READ of the agent status shows the execution of the READ
itself is DEDUCED (log 38). -/
def Obligations.ReadTables : Prop :=
  (∀ (h : Head) (table first count : Nat) (s : State),
    let now := countRequest h s
    let r := readTable now table first count
    ((List.range 40).filterMap fun k => (tableOf s k).map fun x => (k, x.lo, x.size)) =
      [(1, 0, 2), (2, 0, 1), (3, 0, 1), (4, 0, 1), (5, 0, 8), (6, 0, 32), (7, 0, 4), (8, 0, 1),
       (9, 0, 48), (10, 0, 24), (11, 0, 32), (12, 1, 240), (13, 0, 1), (14, 0, 1), (15, 1, 7),
       (16, 0, 1), (17, 0, 256), (18, 0, 512), (19, 0, 16), (20, 0, 16), (21, 0, 16), (22, 0, 64),
       (23, 0, 64), (24, 0, 128), (25, 0, 1), (26, 0, 16), (27, 1, 63), (28, 0, 512), (29, 0, 1),
       (30, 0, 1), (31, 0, 1)] ∧
    (Permitted h 1 s → exec (.read h table first count) s =
      .next (answered (.read h table first count) h r now)) ∧
    (tableOf now table = none → r = refusal .badTable) ∧
    (∀ x ∈ tableOf now table,
      (first < x.lo ∨ x.lo + x.size ≤ first → r = refusal .badIndex) ∧
      (x.lo ≤ first → first < x.lo + x.size →
        ∃ n, n ≤ min count (x.present - (first - x.lo)) ∧
          (let entries := (List.range n).flatMap fun i => x.entry (first - x.lo + i)
           r = .data (octet table) (BitVec.ofNat 16 first) n x.present entries ∧
           entries.length ≤ 488 ∧
           (n < min count (x.present - (first - x.lo)) →
             488 < entries.length + (x.entry (first - x.lo + n)).length))))) ∧
  (∀ (i : Nat) (q k4 : Fin 4) (k7 : Fin 7) (k12 : Fin 12) (c : Fin 16) (k : Fin 48) (k63 : Fin 63)
     (k64 : Fin 64) (n : Fin 240) (s : State),
     let entry := fun (k i : Nat) => (((tableOf s k).map fun x => x.entry i).getD [])
     let one := fun (n : Nat) => [octet n]
     let set := fun (b : Bool) => if b then [(1 : Octet)] else [0]
     let may1 := fun (o : Option Nat) => [octet (o.getD 255)]
     let may2 := fun (o : Option Nat) => set o.isSome ++ octetsOf 2 (o.getD 65535)
     let may4 := fun (o : Option Nat) => set o.isSome ++ octetsOf 4 (o.getD 4294967295)
     let mayWx := fun (o : Option Int) => set o.isSome ++ signed2 (o.getD 32767)
     let fours := fun (ns : List Nat) => ns.flatMap (octetsOf 4)
     (let line := fun (p : LinePort) =>
        one (match p.rx with | .down => 0 | .aligning => 1 | .up => 2) ++ octets2 p.entryCycle ++
        one (match p.entryFrom with | .fromDown => 0 | .fromUp => 1) ++ one p.alignRun ++
        fours [p.errorRun, p.farEndRun] ++ set p.faulted ++
        one (match p.reason with | .loss => 0 | .align => 1 | .headers => 2 | .farEnd => 3) ++
        fours [p.headerErrors, p.portFaults, p.portRecoveries]
      entry 1 0 = line s.line.w ∧ entry 1 1 = line s.line.e) ∧
     entry 2 0 = one s.line.wtrSeconds ++ octetsOf 2 s.sw.budget ∧
     entry 3 0 =
       one (match s.prot.state with | .ring => 0 | .wrapEast => 1 | .wrapWest => 2 | .isolated => 3) ++
       one (match s.prot.forced with | none => 0 | some .w => 1 | some .e => 2) ++
       [if s.prot.linked then 0 else 1] ++ one s.prot.age ++ set s.timer.holdover ++
       fours [s.prot.changes, s.prot.isolations] ∧
     entry 4 0 =
       fours (s.sw.discards.data ++ [s.sw.zoneLost, s.sw.stripped, s.sw.taken, s.sw.toCentre,
         s.sw.copies, s.sw.passed] ++ s.sw.added.data) ++
       [octet s.sw.alarm.length, octet s.sw.vsig.length, octet s.sw.tollLive.length,
        octet s.sw.mgmt.length, octet s.sw.tollDeferred.length, octet s.sw.sign.length,
        octet s.sw.wx.length] ++
       octetsOf 2 s.sw.budget ++ octetsOf 2 (extents s.sw.holding) ++ one s.sw.holding.length ∧
     (∀ r ∈ s.sw.records[i]?,
       let f := fun (x : FrameFields → Octet) => may1 (r.fields.map fun y => (x y).toNat)
       entry 5 i =
         one (reasonIndex r.reason).val ++
         one (match r.place with
            | .port .w => 0
            | .port .e => 1
            | .uplink => 2
            | .queue q => 3 + (queueIndex q).val
            | .holding => 10
            | .allQueues => 11) ++
         octets2 r.cycle ++ f (·.dest) ++ f (·.source) ++ f (·.service) ++ f (·.channel) ++
         f (·.hop) ++ may2 (r.fields.map (·.length)) ++ may2 r.flushed) ∧
     (∀ x ∈ s.sw.accept[i]?, entry 6 i = [x.1, x.2]) ∧
     (let p := posAt s q
      let held := s.phone.active.entries.get q
      entry 7 q.val =
         one (match p.call with
            | .idle => 0
            | .requesting => 1
            | .waiting => 2
            | .talking => 3
            | .held => 4
            | .ringing => 5
            | .clearing => 6
            | .dropped => 7) ++
         one (match p.call with
            | .waiting => 1
            | .held => 1
            | .dropped => 2
            | .ringing => 3
            | _ => 0) ++
         [if p.debounced = .on then 0 else 1] ++ set p.priority ++ set p.resume ++ set p.answer ++
         may1 p.place ++ may1 (held.map (·.up.val)) ++ may1 (held.map (·.down.val))) ∧
     entry 8 0 =
       set s.phone.activeIsB ++ [s.phone.active.version] ++
       encodeEntries s.phone.active.entries ++ set s.phone.pendingAt.isSome ++
       may1 (s.phone.pendingAt.map fun _ => s.phone.standby.version.toNat) ++
       may2 (s.phone.pendingAt.map (·.toNat)) ++ set s.phone.cleared ∧
     (entry 9 k.val =
       (match s.alloc.slots.get k with
        | .free => [0, 255, 255]
        | .held n mark => [1, octet (n.val + 1), if mark then 0 else 1])) ∧
     (let e := s.alloc.calls[i]?
      i < 24 → entry 10 i =
         may1 (e.map (·.node.val + 1)) ++ may1 (e.map (·.position.val)) ++
         may1 (e.map (·.slots.up.val)) ++ may1 (e.map (·.slots.down.val)) ++
         may1 (e.map fun x => if x.priority then 0 else 1) ++
         may1 (e.map fun x =>
           match x.phase with | .planning => 0 | .inForce => 1 | .releasing => 2) ++
         may2 (e.map (·.age))) ∧
     (∀ w ∈ s.alloc.waiting[i]?,
       entry 11 i = [octet (w.node.val + 1), octet w.position.val, if w.priority then 0 else 1]) ∧
     (let r := s.alloc.plans.get n
      entry 12 n.val =
         [r.lastIssued, r.accepted.version] ++ octets2 r.accepted.switchCycle ++
         encodeEntries r.accepted.entries ++ set r.comeRound ++
         may1 (r.inFlight.map (·.plan.version.toNat)) ++
         may2 (r.inFlight.map (·.plan.switchCycle.toNat)) ++
         (match r.inFlight with
          | none => List.replicate 8 0xFF
          | some f => encodeEntries f.plan.entries) ++
         may1 (r.inFlight.map (·.sends)) ++ set r.absent ++ may2 r.quarantine) ∧
     entry 13 0 = one s.alloc.capacity ++ one (currentU s.alloc) ∧
     entry 14 0 = octetsOf 2 s.toll.tToll ++ one s.journal.drain ∧
     entry 15 k7.val = set (s.toll.classes.get k7) ∧
     (let x := s.toll
      let j := s.journal
      let flying := (j.records.filter fun r => r.inFlight.isSome).length
      x.pendingTable.length ≤ 16 → entry 16 0 =
         one x.pendingTable.length ++
         (x.pendingTable.flatMap fun p =>
           [p.key.lane] ++ octets4 p.key.txn ++ octets2 p.arrival ++ octetsOf 2 p.timer) ++
         List.replicate (144 - 9 * x.pendingTable.length) 0 ++ one x.answers.length ++
         octetsOf 2 x.tToll ++
         fours [x.receivedCharge, x.blockLength, x.blockCheck, x.blockKind, x.rejected,
           x.duplicates, x.forwarded, x.liveRefused, x.pendingFull, x.timeouts, x.localAnswers,
           x.detachAnswers, x.restartMoved, x.answeredByCentre, x.lateSettled, x.unmatched,
           x.tollIgnored, x.reportsForwarded, x.reportsDropped, x.answersDropped] ++
         octetsOf 2 j.records.length ++ octetsOf 2 (j.records.length - flying) ++ one flying ++
         may4 (j.records.head?.map (·.journalledAt)) ++ one j.drain ++
         fours [j.journalLost, j.settledFromJournal, j.settledUnmatched, j.deferredSent,
           j.drainRefused, j.inflightTimeouts, j.verdictSet]) ∧
     (∀ t ∈ s.toll.deny[i]?, entry 17 i = octetsOf 12 t.toNat) ∧
     (∀ r ∈ s.journal.records[i]?,
       r.verdict = .provisional ∨ r.verdict = .declinedLocal ∨ r.verdict = .unanswered →
       entry 18 i =
         [r.key.lane] ++ octets4 r.key.txn ++ r.block ++
         one (match r.verdict with | .provisional => 0 | .declinedLocal => 1 | _ => 2) ++
         fours [r.journalledAt] ++ one r.offers ++ set r.inFlight.isSome ++ may2 r.inFlight) ∧
     (let x := s.wx.table.get c
      entry 19 c.val =
         one (match x.source with | .none => 0 | .ain k => 1 + k.val | .pin k => 13 + k.val) ++
         octetsOf 2 x.period ++ octetsOf 2 x.zero ++ signed2 x.gain ++ signed2 x.offset ++
         one x.window ++ one x.shift ++ set x.compareLong ++ signed2 x.highSet ++
         signed2 x.highClear ++ signed2 x.lowSet ++ signed2 x.lowClear ++ set (!x.highEnable) ++
         set (!x.lowEnable) ++ one x.persist ++ octetsOf 2 x.interval) ∧
     (let b := s.wx.analog.get k12
      entry 20 k12.val = may2 (some b.code.toNat) ++ may4 (some b.conversions) ++ may1 none ++
         may2 none) ∧
     (let b := s.wx.pulses.get k4
      entry 20 (12 + k4.val) = may2 none ++ may4 none ++ set b.level ++ may2 (some b.count)) ∧
     (let w := s.wx.work.get c
      w.window.length ≤ 16 → entry 21 c.val =
         one w.window.length ++ w.window.flatMap signed2 ++
         List.replicate (32 - 2 * w.window.length) 0 ++ mayWx w.mean ++ mayWx w.long ++
         mayWx (w.extremes.map (·.peak)) ++ mayWx (w.extremes.map (·.trough)) ++
         set w.high ++ set w.low ++ one w.highCount ++ one w.lowCount ++ one w.railRun ++
         one w.goodRun ++ set w.fault ++ set w.saturated ++ octetsOf 2 w.ticks ++
         octetsOf 2 w.toReport ++ octetsOf 2 w.since) ∧
     entry 22 k64.val = set (s.cond.copy.get k64) ∧
     (let x := s.cond.table.get k64
      entry 23 k64.val = one x.level ++ set (!x.fall)) ∧
     (∀ e ∈ s.cond.events[i]?,
       entry 24 i =
         one e.condition.val ++ set (!e.rise) ++ one e.level ++ fours [e.stamp] ++ one e.repeats) ∧
     entry 25 0 = one s.cond.mask ∧
     (let r := s.sign.rules.get c
      entry 26 c.val =
         one r.condA.val ++ set (!r.senseA) ++ may1 (r.condB.map (·.val)) ++
         may1 (r.condB.map fun _ => if r.senseB then 0 else 1) ++ one r.page.val ++
         one r.priority ++ set (!r.enabled)) ∧
     (let d := (s.sign.pages.get k63).getD []
      d.length ≤ 8 → entry 27 k63.val = pageOctets d) ∧
     (i < 512 → entry 28 i = (List.range 64).map fun k => storeRead s.sign.store (i * 64 + k)) ∧
     entry 29 0 = one s.sign.holdSeconds ++ octetsOf 2 s.sign.answerLimit ∧
     (let g := s.sign
      let x := g.sender
      entry 30 0 =
        one g.selection.page.val ++ one g.selection.priority ++
        (match g.selection.source with
         | .centre => [0, 255] | .rule k => [1, octet k.val] | .test => [2, 255]
         | .default => [3, 255]) ++ may4 g.hold ++ set g.stale ++
        may1 (g.centre.map (·.page.val)) ++ may1 (g.centre.map (·.priority)) ++
        may2 (g.centre.map (·.lifetime)) ++ may4 (g.centre.map (·.elapsed)) ++
        may1 (g.test.map (·.page.val)) ++ may2 (g.test.map (·.elapsed)) ++
        (g.rules.data.flatMap fun r => set (ruleActive s.cond.copy g r)) ++
        one (match x.state with | .idle => 0 | .sending => 1 | .awaiting => 2) ++
        (match x.exchange with
         | .none => [255, 255, 255] | .transfer p a => [0, octet p.val, octet a]
         | .poll => [1, 255, 255]) ++
        set x.owed ++ set x.undelivered ++ may1 (x.displayed.map (·.val)) ++
        octets2 x.faultFlags ++ may1 (x.lastReject.map (·.toNat)) ++ one x.missedPolls ++
        set x.signFail) ∧
     (let a := s.agent
      let w := if s.isMaster then some a.walk else none
      entry 31 0 =
        may1 (a.address.map (·.toNat)) ++ set a.address.isSome ++ set a.fieldLock ++
        one a.requests.length ++ may1 (w.map fun w => if w.running then 1 else 0) ++
        may1 (w.map (·.onOffer.toNat)) ++ may1 (w.map (·.given)) ++
        may2 (w.bind (·.timer)) ++ may2 (w.map (·.head.tag.toNat)) ++
        may1 (w.map (·.head.source.toNat)) ++
        fours [a.requestsExecuted, a.requestsDropped, a.requestsFlushed, a.responsesSent,
          a.fieldRequests, a.mgmtIgnored, a.walks, a.walkTimeouts, a.addressesTaken]))

/-- COUNTS_CLEAR: every count is 0, RECEIVED_CHARGE what is in custody, and nothing else changes
(R125, R204). That its own execution is cleared and its response counted after is DEDUCED
(log 38). -/
def Obligations.CountsClear : Prop :=
  ∀ (h : Head) (s : State),
    let x := countRequest h s
    let t := clearCounts x
    (Permitted h 22 s →
      exec (.countsClear h) s = .next (answered (.countsClear h) h (.done 0) t)) ∧
    Changes [.line, .timer, .prot, .sw, .phone, .alloc, .toll, .journal, .wx, .cond, .sign, .agent]
      x t ∧
    (∀ p, portAt t p = { portAt x p with
      headerErrors := 0, portFaults := 0, portRecoveries := 0
      completed := (portAt x p).completed.map fun _ => 0 }) ∧
    t.line.wtrSeconds = x.line.wtrSeconds ∧
    t.timer = { x.timer with holdoverEntries := 0, recirculations := 0 } ∧
    t.prot = { x.prot with changes := 0, isolations := 0 } ∧
    (∀ k, t.sw.discards.get k = 0) ∧ (∀ k, t.sw.added.get k = 0) ∧
    t.sw = { x.sw with
      discards := t.sw.discards, added := t.sw.added, zoneLost := 0, stripped := 0, taken := 0
      toCentre := 0, copies := 0, passed := 0 } ∧
    t.phone = { x.phone with
      plansAccepted := 0, plansLate := 0, plansStale := 0, plansIgnored := 0, planSwitches := 0
      requestsSent := 0, releasesSent := 0, statusSent := 0, priorityPresses := 0
      callsAnswered := 0, callsDropped := 0, ringTimeouts := 0, vsigIgnored := 0 } ∧
    t.alloc = { x.alloc with
      grants := 0, grantsFromQueue := 0, queueRefusals := 0, plansIssued := 0, planResends := 0
      staleAnswers := 0, nodesAbsent := 0, callsSupervised := 0, statusUnmatched := 0
      allocIgnored := 0 } ∧
    t.toll = { x.toll with
      receivedCharge := x.toll.pendingTable.length + x.journal.records.length
      blockLength := 0, blockCheck := 0, blockKind := 0, rejected := 0, duplicates := 0
      forwarded := 0, liveRefused := 0, pendingFull := 0, timeouts := 0, localAnswers := 0
      detachAnswers := 0, restartMoved := 0, answeredByCentre := 0, lateSettled := 0
      unmatched := 0, tollIgnored := 0, reportsForwarded := 0, reportsDropped := 0
      answersDropped := 0 } ∧
    t.journal = { x.journal with
      journalLost := 0, settledFromJournal := 0, settledUnmatched := 0, deferredSent := 0
      drainRefused := 0, inflightTimeouts := 0, verdictSet := 0 } ∧
    (∀ c, t.wx.counts.get c = { samples := 0, rails := 0, saturated := 0, faults := 0
                                reports := 0 }) ∧
    (∀ k, t.wx.analog.get k = { x.wx.analog.get k with conversions := 0 }) ∧
    t.wx = { x.wx with counts := t.wx.counts, analog := t.wx.analog, wxIgnored := 0 } ∧
    t.cond = { x.cond with
      eventsMade := 0, eventRepeats := 0, eventsAcked := 0, alarmReports := 0
      alarmIgnored := 0 } ∧
    t.sign = { x.sign with
      selections := 0, transfersStarted := 0, transferAborts := 0, pagesAccepted := 0
      pagesRejected := 0, answerTimeouts := 0, deliveryFailures := 0, pollsSent := 0
      pollsMissed := 0, badAnswers := 0, signIgnored := 0 } ∧
    t.agent = { x.agent with
      requestsExecuted := 0, requestsDropped := 0, requestsFlushed := 0, responsesSent := 0
      fieldRequests := 0, mgmtIgnored := 0, walks := 0, walkTimeouts := 0, addressesTaken := 0 }

/-- The address walk on the master: ASSIGN_ADDRESSES (executed, counted and out of the queue without
a response while the walk runs, R198, R206), ADDRESS_TAKEN, ADDRESS_OFFER_RETURNED and WALK_TIMEOUT
(R206, R208); ADDRESS_OFFER on an unassigned slave and ADDRESS_CLEAR (R20, R48, R207,
R209). That any returning offer ends a walk is DEDUCED (log 35); the operand `fits` is the model's
(log 4), as is that an offer which comes by MGMT_FRAME_RECEIVED has no place in a zone (log 35). -/
def Obligations.AddressWalks : Prop :=
  (∀ (h : Head) (first : Nat) (a : Octet) (serial : BitVec 48) (s : State),
     let w := s.agent.walk
     let named := if first = 0 then 2 else first
     let ignored := s.modAgent fun g => { g with mgmtIgnored := bump g.mgmtIgnored }
     let ends := fun (given : Nat) (r : Result) (f : Agent → Agent) =>
       respond w.head r ((s.modAgent f).modAgent fun g =>
         { g with walk := { g.walk with running := false, given, timer := none } })
     (Permitted h 24 s →
       (named < 2 ∨ 240 < named → exec (.assignAddresses h first) s =
         .next (answered (.assignAddresses h first) h (refusal .badValue) (countRequest h s))) ∧
       (2 ≤ named → named ≤ 240 → w.running = true → exec (.assignAddresses h first) s =
         .next (answered (.assignAddresses h first) h (refusal .busy) (countRequest h s))) ∧
       (2 ≤ named → named ≤ 240 → w.running = false → s.agent.address = some 1 →
         ∃ t, exec (.assignAddresses h first) s = .next t ∧
           t.agent.walk = { running := true, onOffer := octet named, given := 0, timer := some 0
                            head := h } ∧
           OfferMade s t (octet named) ∧
           t.agent = { (countRequest h s).agent with
             walk := t.agent.walk, walks := bump s.agent.walks
             requests := leaveQueue (.assignAddresses h first) s.agent.requests } ∧
           t.agent.requestsExecuted = bump s.agent.requestsExecuted ∧
           Changes [.agent, .sw, .openIndex] s t)) ∧
     (s.isMaster = true →
       (w.running = false ∨ a ≠ w.onOffer → exec (.addressTaken a serial) s = .next ignored) ∧
       (w.running = true → a = w.onOffer → a = 240 →
         exec (.addressTaken a serial) s =
           .next (ends (w.given + 1) (.refused .full (w.given + 1)) id)) ∧
       (w.running = true → a = w.onOffer → a ≠ 240 → s.agent.address = some 1 →
         ∃ t, exec (.addressTaken a serial) s = .next t ∧
           t.agent = { s.agent with walk := { w with
             onOffer := a + 1, given := w.given + 1, timer := some 0 } } ∧
           OfferMade s t (a + 1) ∧ Changes [.agent, .sw, .openIndex] s t) ∧
       (w.running = false → exec .addressOfferReturned s = .next ignored) ∧
       (w.running = true → exec .addressOfferReturned s =
         .next (ends w.given (.done (w.given * 256 + 1)) id))) ∧
     (s.isMaster = false → exec (.addressTaken a serial) s = .next ignored) ∧
     (w.running = true → (∃ k ∈ w.timer, 2000 ≤ k) →
       exec .walkTimeout s = .next (ends w.given (.done (w.given * 256 + 2)) fun g =>
         { g with walkTimeouts := bump g.walkTimeouts }))) ∧
  (∀ (h : Head) (a : Octet) (fits : Bool) (s : State),
     (s.isMaster = false → s.agent.address = none → 2 ≤ a.toNat → a.toNat ≤ 240 →
       ∃ t, exec (.addressOffer a fits) s = .next t ∧ t.agent.address = some a ∧
         t.agent.addressesTaken = bump s.agent.addressesTaken ∧
         t.prot = { s.prot with linked := decide (s.prot.age < 16) } ∧
         Changes [.agent, .prot, .sw, .openIndex] s t ∧
         (fits = true → t.sw.mgmt = s.sw.mgmt) ∧
         (fits = false → isIsolated s = false → s.sw.mgmt.length < 8 → 24 ≤ s.sw.budget →
           ∃ f ∈ t.sw.mgmt.getLast?, f.dest = 1 ∧ f.source = a ∧ f.service = svcMgmt ∧
             f.payload = [65, a] ++ octetsOf 6 Config.serial.toNat ∧
             t.sw.mgmt.dropLast = s.sw.mgmt)) ∧
     (∀ f : Frame, s.isMaster = false → s.agent.address = none → offerOf f = some a →
       exec (.mgmtFrameReceived .centre f) s = exec (.addressOffer a false) s) ∧
     (s.isMaster = true ∨ s.agent.address.isSome = true ∨ a.toNat < 2 ∨ 240 < a.toNat →
       exec (.addressOffer a fits) s = .next s) ∧
     (Permitted h 25 s →
       (s.isMaster = true → exec (.addressClear h) s =
         .next (answered (.addressClear h) h (refusal .conflict) (countRequest h s))) ∧
       (s.isMaster = false →
         ∃ t, exec (.addressClear h) s = .next t ∧ t.agent.address = none ∧
           t.prot = { s.prot with linked := false } ∧
           t.sw = (respond h (.done 0) (countRequest h s)).sw ∧
           Changes (.prot :: respondParts) s t)))

/-- RESTART: the count of its execution (R198), the DONE (on the master it leaves by the uplink, and the DONE of cause RESTART of a
running walk after it, R199, R208), the flush with its one record, the restart of each service
block, the requests flushed, and what is kept (R63, R84, R123, R137, R160, R175, R196, R205). That
the page selected is the winner after all blocks but the sign have restarted is the model's order
(log 13); that the RESTART itself is not flushed from the request queue is DEDUCED (log 38).
Conditions 56 and 57 follow the journal as the cycle ends: a rise that the RESTART makes is not
judged, one that something else makes in the cycle is (R130, R175); that the RESTART's is told from
the others by the number of records before and after it is DEDUCED (log 14). That the marker of a
command cut off counts among the octets of the transfer that follows is a DESIGN CHOICE (log 47).
LINKED here is as the node's blocks have been told it, at the end of the cycle of a change (log 2).
-/
def Obligations.RestartKeeps : Prop :=
  (∀ (h : Head) (q : Fin 4) (c : Fin 16) (s : State), Permitted h 3 s →
    CustodyOnce s → s.journal.records.length ≤ 512 →
    ∃ t, exec (.restart h) s = .next t ∧ t.sw.alarm = [] ∧
      (∀ k ∈ [QueueName.tollLive, .tollDeferred, .sign, .wx], queueFrames t.sw k = []) ∧
      t.sw.mgmt.length ≤ 1 ∧ t.sw.holding = [] ∧ t.sw.pool = [] ∧
      t.sw.accept = s.sw.accept ∧ t.sw.budget = s.sw.budget ∧
      (∀ f ∈ t.sw.mgmt, ResponseFrame s h (.done 0) f ∧ s.isMaster = false) ∧
      (RingSlave s → t.sw.discards.get (reasonIndex .restartFlush) =
        bumpBy ((allQueues.map fun k => (queueFrames s.sw k).length).sum + s.sw.holding.length +
          s.sw.pool.length) (s.sw.discards.get (reasonIndex .restartFlush))) ∧
      (RingSlave s → isIsolated s = false → s.sw.mgmt.length < 8 → 64 ≤ s.sw.budget →
        t.sw.mgmt.length = 1 ∧
        t.sw.records = ({ reason := .restartFlush, place := .allQueues, cycle := s.timer.number
                          fields := none, flushed := some
                            ((allQueues.map fun k => (queueFrames s.sw k).length).sum +
                              s.sw.holding.length + s.sw.pool.length) } ::
          s.sw.records).take 8) ∧
      (RingSlave s →
        (posAt t q).call = (if (posAt s q).debounced = .on then .idle
          else if reachable s then .requesting else .held) ∧
        (posAt t q).priority = false ∧ (posAt t q).resume = false ∧ (posAt t q).answer = false ∧
        (posAt t q).ring = none ∧ (posAt t q).place = none ∧
        (posAt t q).debounced = (posAt s q).debounced ∧
        (posAt t q).hookCount = (posAt s q).hookCount ∧
        (posAt t q).holdCount = (posAt s q).holdCount ∧
        t.phone.releasesSent =
          bumps ((indices 4).filter fun k => (posAt s k).call != .idle).length
            s.phone.releasesSent ∧
        t.phone.active =
          { version := s.phone.active.version, entries := .fill 4 none } ∧
        t.phone.pendingAt = none ∧ t.phone.cleared = true ∧ t.alloc = s.alloc) ∧
      t.phone.statusTimer = s.phone.statusTimer ∧
      t.toll = { s.toll with
        pendingTable := []
        restartMoved := bumps s.toll.pendingTable.length s.toll.restartMoved } ∧
      t.journal.records =
        (s.journal.records.map (fun (r : JournalRecord) => { r with inFlight := none }) ++
          s.toll.pendingTable.map fun (p : PendingToll) =>
            JournalRecord.mk p.key p.block .unanswered s.journal.seconds 0 none).take 512 ∧
      t.journal.seconds = s.journal.seconds ∧ t.journal.drain = s.journal.drain ∧
      t.wx.table = s.wx.table ∧ t.wx.analog = s.wx.analog ∧ t.wx.pulses = s.wx.pulses ∧
      t.wx.counts = s.wx.counts ∧ t.wx.clock = s.wx.clock ∧
      (t.wx.work.get c).window = [] ∧ (t.wx.work.get c).mean = none ∧
      (t.wx.work.get c).high = false ∧ (t.wx.work.get c).low = false ∧
      (t.wx.work.get c).fault = false ∧ (t.wx.work.get c).ticks = 0 ∧
      (t.wx.work.get c).toReport = (s.wx.table.get c).interval ∧
      t.cond.copy.get condJournalNonempty = s.cond.copy.get condJournalNonempty ∧
      t.cond.copy.get condJournalFull = s.cond.copy.get condJournalFull ∧
      t.cond.events = [] ∧ t.cond.table = s.cond.table ∧ t.cond.mask = s.cond.mask ∧
      t.cond.eventsMade = s.cond.eventsMade ∧
      t.cond.copy.get (condHigh c) = false ∧
      t.sign.test = none ∧ t.sign.centre = s.sign.centre ∧ t.sign.rules = s.sign.rules ∧
      t.sign.pages = s.sign.pages ∧ t.sign.store = s.sign.store ∧
      t.sign.selection.page = (winner t.cond.copy { s.sign with test := none }).page ∧
      TransferStarted t.sign (if t.sign.sender.line.take 2 = [0x18, 0x18] then [0x18, 0x18] else [])
        t.sign.selection.page 1 ∧
      (s.sign.sender.state = .sending → t.sign.sender.line.take 2 = [0x18, 0x18]) ∧
      t.agent.requestsExecuted = bump s.agent.requestsExecuted ∧
      t.agent.fieldRequests = s.agent.fieldRequests ∧
      t.agent.requests = [] ∧ t.agent.requestsFlushed =
        bumpBy (leaveQueue (.restart h) s.agent.requests).length s.agent.requestsFlushed ∧
      t.agent.address = s.agent.address ∧ t.agent.fieldLock = s.agent.fieldLock ∧
      t.agent.centreFlags = s.agent.centreFlags ∧
      (s.isMaster = true → t.agent.walk.running = false ∧
        (s.agent.walk.running = true →
          t.agent.walk = { s.agent.walk with running := false, timer := none }) ∧
        t.agent.responsesSent =
          bumps (if s.agent.walk.running then 2 else 1) s.agent.responsesSent ∧
        (s.pins.uplinkUp = true → ∃ f, ResponseFrame s h (.done 0) f ∧
          if s.agent.walk.running then
            ∃ g, ResponseFrame s s.agent.walk.head (.done (s.agent.walk.given * 256 + 3)) g ∧
              t.out.uplink = s.out.uplink ++ [encodeFrame f, encodeFrame g]
          else t.out.uplink = s.out.uplink ++ [encodeFrame f])) ∧
      t.period = { s.period with
        restarted := true
        raised := s.period.raised ++
          (if s.journal.records = [] ∧ t.journal.records ≠ [] then [condJournalNonempty] else []) ++
          (if s.journal.records.length < 512 ∧ 512 ≤ t.journal.records.length
           then [condJournalFull] else []) } ∧
      Changes ([.phone, .alloc] ++ tollParts ++ [.wx] ++ respondParts ++ [.period]) s t) ∧
  (∀ (c : Fin 64) (s : State), s.period.stage = .closing →
    s.prot.state = protectionOf s.line.w.health s.line.e.health → isIsolated s = false →
    s.prot.handed = s.prot.linked → c = condJournalNonempty ∨ c = condJournalFull →
    s.cond.copy.get c = false → ownerFlag s c.val = true →
    (∀ k ∈ [condWrapped, condIsolated, condJournalNonempty, condJournalFull], k ≠ c →
      s.cond.copy.get k = ownerFlag s k.val) →
    (∀ x ∈ s.cond.events, x.condition ≠ c) → 1 ≤ (s.cond.table.get c).level →
    ∃ t, step (s.withPending []) = .next t ∧ t.cond.copy.get c = true ∧ t.period.raised = [] ∧
      (c ∈ s.period.raised → t.cond = { s.cond with copy := t.cond.copy } ∧ t.sw = s.sw) ∧
      (c ∉ s.period.raised →
        t.cond.events = s.cond.events ++
          [{ condition := c, rise := true, level := (s.cond.table.get c).level
             stamp := s.journal.seconds, repeats := 1 }] ∧
        t.cond.eventsMade = bump s.cond.eventsMade))

/-- WRITE is all or nothing: an empty WRITE, and the first entry that fails in its index, then in a
field its owner refuses, then in being in use (R117, R141, R163, R176, R185, R186, R202); A WRITE of
the settings, the class table or the event table that passes stores every entry, clamped as its
owner clamps it (R12, R58, R115, R117, R132, R163, R183, R187, R202); the timers of the cycle go on
being compared with the values it began with (R10, R115, R183, R187). What a WRITE of raw octets
answers where its length is not that of its entries is the model's, and that an absent B of a sign
rule takes a sense of 0, 1 or 0xFF and no other (log 15), as is the index that a refusal carries
(log 16). -/
def Obligations.TableWrites : Prop :=
  (∀ (h : Head) (first k table count : Nat) (r : Reason) (ints : List (Int × Int))
     (classes : List Nat) (channels : List ChannelWrite) (events : List (Nat × Nat))
     (rules : List RuleWrite) (pages : List (List Segment)) (blocks : List Octets) (raw : Octets)
     (s : State), Permitted h 2 s →
     let replies := fun (i : Instr) (x : Result) =>
       exec i s = .next (answered i h x (countRequest h s))
     let out := fun (lo size i : Nat) (e : Option Reason) =>
       if i < lo ∨ lo + size ≤ i then some Reason.badIndex else e
     let bad := fun (b : Bool) => if b then some Reason.badValue else none
     let sent := pageBeingSent s.sign
     (replies (.writeRingSettings h first []) (refusal .badValue) ∧
      replies (.writeTollSettings h first []) (refusal .badValue) ∧
      replies (.writeSignSettings h first []) (refusal .badValue) ∧
      replies (.writeClassTable h first []) (refusal .badValue) ∧
      replies (.writeChannelTable h first []) (refusal .badValue) ∧
      replies (.writeEventTable h first []) (refusal .badValue) ∧
      replies (.writeSignRules h first []) (refusal .badValue) ∧
      replies (.writePageTable h first []) (refusal .badValue) ∧
      replies (.writePageStore h first []) (refusal .badValue)) ∧
     (FirstRefused (fun i (_ : Int × Int) => out 0 1 i none) first ints k r →
       replies (.writeRingSettings h first ints) (.refused r (first + k)) ∧
       replies (.writeTollSettings h first ints) (.refused r (first + k)) ∧
       replies (.writeSignSettings h first ints) (.refused r (first + k))) ∧
     (FirstRefused (fun i v => out 1 7 i (bad (1 < v))) first classes k r →
       replies (.writeClassTable h first classes) (.refused r (first + k))) ∧
     (FirstRefused (fun i (e : ChannelWrite) => out 0 16 i
         (bad (16 < e.source || 1 < e.compare || 1 < e.highEnable || 1 < e.lowEnable)))
         first channels k r →
       replies (.writeChannelTable h first channels) (.refused r (first + k))) ∧
     (FirstRefused (fun i (e : Nat × Nat) => out 0 64 i (bad (1 < e.2))) first events k r →
       replies (.writeEventTable h first events) (.refused r (first + k))) ∧
     (FirstRefused (fun i (e : RuleWrite) => out 0 16 i
         (bad (63 < e.condA || 1 < e.senseA || e.page == 0 || 63 < e.page || 1 < e.enabled ||
           match e.condB with
           | none => 1 < e.senseB && e.senseB != 255
           | some c => 63 < c || 1 < e.senseB))) first rules k r →
       replies (.writeSignRules h first rules) (.refused r (first + k))) ∧
     (FirstRefused (fun i (d : List Segment) => out 1 63 i
         (if d ≠ [] ∧ descriptorValid d = false then some .badValue
          else if sent.map (·.val) = some i then some .busy else none)) first pages k r →
       replies (.writePageTable h first pages) (.refused r (first + k))) ∧
     (FirstRefused (fun i (b : Octets) => out 0 512 i
         (if b.length ≠ 64 then some .badValue
          else if sent.any (fun p => ((descriptorOf s.sign p).getD []).any fun g =>
            decide (g.block ≤ i ∧ i * 64 < g.block * 64 + g.length)) then some .busy
          else none)) first blocks k r →
       replies (.writePageStore h first blocks) (.refused r (first + k))) ∧
     (writeEntrySize table = none →
       replies (.write h table first count raw) (refusal .badTable)) ∧
     (∀ n ∈ writeEntrySize table, raw.length ≠ n * count →
       replies (.write h table first count raw) (refusal .badValue)) ∧
     (∀ n ∈ writeEntrySize table, raw.length = n * count → s.agent.requests = [] →
       exec (.write h table first count raw) s = exec (writeInstr h table first count raw) s)) ∧
  (∀ (h : Head) (x y : Int) (first : Nat) (classes : List Nat) (events : List (Nat × Nat))
     (k : Fin 7) (c : Fin 64) (s : State), Permitted h 2 s →
     let within := fun (lo hi v : Int) => (max lo (min hi v)).toNat
     exec (.write h 2 0 1 ([octet x.toNat] ++ octetsOf 2 y.toNat)) s =
       .next (answered (.write h 2 0 1 ([octet x.toNat] ++ octetsOf 2 y.toNat)) h (.done 0)
         (((countRequest h s).modLine fun l =>
           { l with wtrSeconds := within 1 60 (x.toNat % 256 : Nat) }).modSw
             fun w => { w with budget := within 64 1008 (y.toNat % 65536 : Nat) })) ∧
     exec (.writeRingSettings h 0 [(x, y)]) s =
       .next (answered (.writeRingSettings h 0 [(x, y)]) h (.done 0)
         (((countRequest h s).modLine fun l => { l with wtrSeconds := within 1 60 x }).modSw
           fun w => { w with budget := within 64 1008 y })) ∧
     exec (.writeTollSettings h 0 [(x, y)]) s =
       .next (answered (.writeTollSettings h 0 [(x, y)]) h (.done 0)
         (((countRequest h s).modToll fun w => { w with tToll := within 50 2000 x }).modJournal
           fun j => { j with drain := within 1 8 y })) ∧
     exec (.writeSignSettings h 0 [(x, y)]) s =
       .next (answered (.writeSignSettings h 0 [(x, y)]) h (.done 0)
         ((countRequest h s).modSign fun g =>
           { g with holdSeconds := within 0 255 x, answerLimit := within 100 2000 y })) ∧
     (classes ≠ [] → 1 ≤ first → first + classes.length ≤ 8 → (∀ v ∈ classes, v ≤ 1) →
       ∃ t, exec (.writeClassTable h first classes) s = .next t ∧
         t.toll = { s.toll with classes := t.toll.classes } ∧
         t.toll.classes.get k =
           (if k.val + 1 < first then s.toll.classes.get k
            else match classes[k.val + 1 - first]? with
             | none => s.toll.classes.get k
             | some v => v == 1) ∧
         t = answered (.writeClassTable h first classes) h (.done 0)
           { countRequest h s with toll := t.toll } ∧
         Changes (.toll :: respondParts) s t) ∧
     (events ≠ [] → first + events.length ≤ 64 → (∀ e ∈ events, e.2 ≤ 1) →
       ∃ t, exec (.writeEventTable h first events) s = .next t ∧
         t.cond = { s.cond with table := t.cond.table } ∧
         t.cond.table.get c =
           (if c.val < first then s.cond.table.get c
            else match events[c.val - first]? with
             | none => s.cond.table.get c
             | some e => { level := if 50 ≤ c.val ∧ c.val ≤ 55 then 7 else min e.1 7
                           fall := e.2 == 0 }) ∧
         t = answered (.writeEventTable h first events) h (.done 0)
           { countRequest h s with cond := t.cond } ∧
         Changes (.cond :: respondParts) s t))

/-! ## What every step keeps -/

/-- Reachability follows its conditions, the address is legal, and a port that a forced-wrap request
names is UNHEALTHY with its timer stopped (R9, R20, R21, R207, R209). -/
def Obligations.StepKeepsReach : Prop :=
  ∀ (s t : State), ForcedHeld s ∧ ReachFollows s ∧ AddressLegal s →
    step s = .next t → ForcedHeld t ∧ ReachFollows t ∧ AddressLegal t

/-- The Condition Unit's copy equals the owners' flags (R161), those of the journal apart, which it
takes as each cycle ends (R130). -/
def Obligations.StepKeepsCopy : Prop :=
  ∀ (s t : State), CopyFollows s → step s = .next t → CopyFollows t

/-- The settings, the tables, the queues and lists, and the weather values stay within their
ranges and capacities, and the page store in canonical form (R12, R49, R51, R53, R58, R60, R90,
R107, R112, R115, R118, R127, R132, R141, R149, R163 to R166, R176, R183, R185 to R187, R198). -/
def Obligations.StepKeepsRanges : Prop :=
  ∀ (s t : State),
    let bounded := fun (s : State) =>
      SettingsInRange s ∧ WeatherInRange s ∧ QueuesBounded s ∧ ListsBounded s ∧
      EventsDistinct s ∧ StoreCanonical s ∧ PagesValid s
    bounded s → step s = .next t → bounded t

/-- No toll is in custody twice, and every charge is accounted for until a count saturates (R112,
R125, R127). -/
def Obligations.StepKeepsTolls : Prop :=
  ∀ (s t : State), CustodyOnce s ∧ TollAccounts s → step s = .next t →
    CustodyOnce t ∧ TollAccounts t

/-- The slots of a call are HELD for its node and serve no other call, U does not exceed S, a
position has at most one call or queued request, and the waiting queue is in its order (R89, R90,
R94). -/
def Obligations.StepKeepsCalls : Prop :=
  ∀ (s t : State),
    let sound := fun (s : State) =>
      CallsHoldSlots s ∧ CapacityCovers s ∧ CallKeysOnce s ∧ WaitingOrdered s
    sound s → step s = .next t → sound t

/-- Every cycle the node sends has 1024 octets, as has the S cycle it holds (R1, R31). -/
def Obligations.StepKeepsCycles : Prop :=
  ∀ (s t : State),
    let whole := fun (s : State) => CyclesWhole s ∧ SpeechWhole s ∧ CyclesHeldWhole s
    whole s → step s = .next t → whole t

/-! ## The passing of a cycle period -/

/-- What a step does when no command waits, in three parts (log 2). The inputs of the period are in:
the centre-header age counts the cycle, an unreadable request at the head of the queue is refused
and leaves it (R200, log 25), and what the inputs brought about is queued: a recirculation and the
sixteenth cycle without a header of the centre, then the expiry of DUPLICATE_MASTER, plans that have
come round, the end of a toll run, the first POLL after a power-on, the request at the head of its
queue (R16, R19, R20, R97, R105, R195, R198). The cycle is settled: the protection state moves once
to what the healths give, the change of reachability is handed, conditions 49, 50, 56 and 57 follow,
and without a net change none of them moves; a cycle already sent takes the FAR_END_FAULT of its
port as the cycle leaves it, and on the master the CENTRE_UP of the uplink (log 18), its slots left as
they were sent, a DESIGN CHOICE (log 50); the cycle of a slave without a processed header is queued, as the settled state steers it, and that of a master
that has not originated one in the period (R2, R7, R14, R15, R18, R22, R24, R25, R33, R78, R102,
R130). The next period opens: a slave's port that nothing has fed has sent the node's own header,
the HOLDOVER header in a cycle that entered ISOLATED (R2, R17, log 22); every timer and count
advances, the settings come into force, the master's cycle is queued (log 12), then the rows that
have come due, those of the line ports first (R6, R10, R11, R65, R66, R100, R115, R140, R183). The
order of the rows where the manual leaves it open, and that the drain and the expiries are taken
before the inputs and a queued request after them, is the model's (log 3); a master's age stands
(log 41), and READ sees the age counted, both the model's (log 2). That the elapsed time of a centre
request stops at 4294967295 (log 46), that a run held in the state closes after a period that brought
no octet of it (log 27) and that an answer made after the opening waits for the next period (log 3) are
DESIGN CHOICES; when a plan has come round is DEDUCED (log 29). -/
def Obligations.PeriodPasses : Prop :=
  (∀ (s : State), s.period.stage = .inputs →
    let reach : List Instr :=
      (if s.isMaster = false ∧ 256 ≤ s.timer.repeatRun ∧ s.timer.recirculating = false
       then [.recirculation] else []) ++
      (if s.isMaster = false ∧ s.prot.linked = true ∧ s.period.qualified = false ∧ 15 ≤ s.prot.age
       then [.centreHeaderAgeExpiry] else [])
    let brought : List Instr :=
      (if s.timer.duplicate.any (fun k => decide (1000 ≤ k)) then [.duplicateMasterClear] else []) ++
      ((indices 240).filter (comeRoundDue s)).map .planComeRound ++
      (if s.toll.run ≠ [] ∧ s.toll.runFresh = false then [.tollRunClose []] else []) ++
      (if s.sign.sender.state = .idle ∧ 10000 ≤ s.sign.sender.pollTimer
       then [.pollTimerExpiry] else []) ++
      s.agent.requests.head?.toList.filterMap entryInstr
    ∃ t rest, step (s.withPending []) = .next t ∧ t.pending = reach ++ rest ∧
      rest.Perm brought ∧ t.period = { s.period with stage := .closing } ∧
      (s.isMaster = true ∨ s.period.qualified = true → t.prot = s.prot) ∧
      (s.isMaster = false → s.period.qualified = false →
        (s.prot.linked = true → s.prot.age < 16 →
          t.prot = { s.prot with age := min 15 (s.prot.age + 1) }) ∧
        (s.prot.linked = false → t.prot = { s.prot with age := min 16 (s.prot.age + 1) })) ∧
      ((∀ r ∈ s.agent.requests.head?, (entryInstr r).isSome = true) →
        Changes [.pending, .choices, .period, .prot] s t) ∧
      (∀ r ∈ s.agent.requests.head?, entryInstr r = none →
        let code := requestCode r.payload
        let field := r.head.origin = .field
        let why : Reason :=
          if field ∧ s.agent.fieldLock = true then .locked
          else if field ∧ code ∉ [1, 9, 21, 22, 23] then .notPermitted
          else if code ∈ [24, 26] ∧ s.isMaster = false then .notMaster
          else .badValue
        let u := respond r.head (refusal why) (countRequest r.head s)
        t.agent = { u.agent with requests := s.agent.requests.drop 1 } ∧ t.sw = u.sw ∧
        t.out = u.out ∧ Changes ([.pending, .choices, .period, .prot] ++ respondParts) s t)) ∧
  (∀ (s : State), s.period.stage = .closing →
    let settled := protectionOf s.line.w.health s.line.e.health
    let fed := fun (p : Port) => match p with
      | .w => s.period.fedW
      | .e => s.period.fedE
    let empty := (∀ q, queueFrames s.sw q = []) ∧ s.sw.holding = []
    ∃ t, step (s.withPending []) = .next t ∧ CycleSettled t ∧
      t.pending =
        (if s.isMaster = true then (if s.period.originated then [] else [.originateCycle])
         else if s.period.processed = true then []
         else if t.timer.holdover = true then [.holdoverCycle]
         else if 3 ≤ t.timer.missing then [.holdoverEntry] else [.missingCycle]) ++
        (if s.isMaster = false ∧ s.period.processed = false ∧
            t.phone.pendingAt.any (fun c => !ahead c (t.timer.number + 1)) = true
         then [.planSwitch] else []) ∧
      t.prot.state = settled ∧
      t.prot.changes =
        (if settled = s.prot.state then s.prot.changes else bump s.prot.changes) ∧
      t.prot.isolations =
        (if settled ≠ s.prot.state ∧ settled = .isolated then bump s.prot.isolations
         else s.prot.isolations) ∧
      (∀ p, fed p = false ∨ decodeCycleHeader (sentAt s p) = none → sentAt t p = sentAt s p) ∧
      (∀ p h, fed p = true → decodeCycleHeader (sentAt s p) = some h →
        sentAt t p = encodeCycleHeader { h with
            farEnd := rxFaulted (portAt s p)
            centreUp := if s.isMaster then s.pins.uplinkUp else h.centreUp } ++
          (sentAt s p).drop 10) ∧
      (if s.period.processed = true then t.out.speech = s.out.speech ∧ t.lanes = s.lanes
       else t.out.speech = .fill 4 silence ∧
        t.lanes = { s.lanes with toCentre := .fill 48 silence }) ∧
      t.period = { s.period with stage := .sending, raised := [] } ∧
      Changes (settleParts ++ [.lanes, .period, .pending]) s t ∧
      (CycleSettled s → settled ≠ .isolated ∨ empty →
        Changes [.out, .lanes, .period, .pending] s t)) ∧
  (∀ (s : State), s.period.stage = .sending →
    let fed := fun (p : Port) => match p with
      | .w => s.period.fedW
      | .e => s.period.fedE
    let next := fun (o : Option Nat) => o.map (· + 1)
    ∃ t, step (s.withPending []) = .next t ∧
      (∀ p, sentAt t p =
        if s.isMaster = true ∨ fed p = true then sentAt s p
        else encodeCycle
          { number := s.timer.number, masterAddr := s.timer.record.masterAddr
            origin := if s.timer.holdover then .holdover else s.timer.record.origin
            u := if s.timer.holdover then 0 else s.timer.record.u
            centreUp := !s.timer.holdover && s.timer.record.centreUp
            farEnd := rxFaulted (portAt s p) }
          (silentVoice (if s.timer.holdover then 0 else s.timer.record.u.toNat)) []) ∧
      t.period =
        { stage := .inputs, processed := false, qualified := false, fedW := false, fedE := false
          originated := false, restarted := false, raised := s.period.raised
          inForce := { wtrSeconds := s.line.wtrSeconds, tToll := s.toll.tToll
                       holdSeconds := s.sign.holdSeconds, answerLimit := s.sign.answerLimit } } ∧
      (∀ p, portAt t p =
        { portAt s p with
          alignCycles := if (portAt s p).rx = .aligning then min 5 ((portAt s p).alignCycles + 1)
            else (portAt s p).alignCycles
          wtrTimer := next (portAt s p).wtrTimer
          bringUp := if portClear (portAt s p) = true ∧ (portAt s p).health = .unhealthy ∧
              (portAt s p).everHealthy = false ∧ s.prot.forced ≠ some p
            then min 16 ((portAt s p).bringUp + 1) else (portAt s p).bringUp
          completed := none }) ∧
      t.line.wtrSeconds = s.line.wtrSeconds ∧
      t.timer = { s.timer with
        duplicate := next s.timer.duplicate
        number := if s.isMaster then s.timer.number + 1 else s.timer.number } ∧
      t.prot = s.prot ∧
      (∀ q, posAt t q =
        { posAt s q with
          hookCount := if s.pins.hooks.get q = (posAt s q).debounced then 0
            else min 20 ((posAt s q).hookCount + 1)
          holdCount := if s.pins.buttons.get q = false then 0
            else if (posAt s q).holdCount < 3999 then (posAt s q).holdCount + 1
            else (posAt s q).holdCount
          resend := next (posAt s q).resend, ring := next (posAt s q).ring }) ∧
      t.phone = { s.phone with
        positions := t.phone.positions, statusTimer := s.phone.statusTimer + 1 } ∧
      (s.isMaster = false → t.alloc = s.alloc) ∧
      (s.isMaster = true →
        t.alloc = { s.alloc with
          plans := t.alloc.plans
          calls := s.alloc.calls.map fun e =>
            if e.phase = .releasing then e else { e with age := min 3000 (e.age + 1) } } ∧
        ∀ n, t.alloc.plans.get n =
          { s.alloc.plans.get n with quarantine := next (s.alloc.plans.get n).quarantine }) ∧
      t.toll = { s.toll with
        runFresh := false
        pendingTable := s.toll.pendingTable.map fun p => { p with timer := p.timer + 1 } } ∧
      t.journal = { s.journal with
        subSecond := s.journal.subSecond + 1
        records := s.journal.records.map fun r => { r with inFlight := next r.inFlight } } ∧
      t.wx = { s.wx with clock := s.wx.clock + 1, pulses := t.wx.pulses } ∧
      (∀ k, t.wx.pulses.get k =
        { s.wx.pulses.get k with
          differ := if s.pins.pulses.get k = (s.wx.pulses.get k).level then 0
            else (s.wx.pulses.get k).differ + 1 }) ∧
      t.sign = { s.sign with
        hold := next s.sign.hold
        centre := s.sign.centre.map fun c => { c with elapsed := min countMax (c.elapsed + 1) }
        test := s.sign.test.map fun c => { c with elapsed := c.elapsed + 1 }
        sender := { s.sign.sender with
          sentCycles := if s.sign.sender.state = .sending then s.sign.sender.sentCycles + 1
            else s.sign.sender.sentCycles
          answerTimer := next s.sign.sender.answerTimer
          pollTimer := if s.sign.sender.state = .idle then s.sign.sender.pollTimer + 1
            else s.sign.sender.pollTimer } } ∧
      t.agent = { s.agent with
        walk := { s.agent.walk with timer := next s.agent.walk.timer } } ∧
      t.out = { s.out with uplink := [], txW := sentAt t .w, txE := sentAt t .e } ∧
      t.pins = s.pins ∧ t.isMaster = s.isMaster ∧
      t.sw = s.sw ∧ t.cond = s.cond ∧ t.lanes = s.lanes ∧
      (if s.isMaster then [.originateCycle] else []) ++ lineRows t <+: t.pending ∧
      (s.isMaster = false → .originateCycle ∉ t.pending) ∧
      (∀ p, let x := portAt t p
        (.alignFaultCount p ∈ t.pending ↔ x.rx = .aligning ∧ x.entryFrom = .fromDown ∧
          5 ≤ x.alignCycles ∧ (x.faulted = false ∨ x.reason ≠ .align)) ∧
        (.wtrExpiry p ∈ t.pending ↔ wtrDue t p = true) ∧
        (.bringUpComplete p ∈ t.pending ↔ bringUpDue t p = true)) ∧
      (∀ q, (.offHook q ∈ t.pending ↔ hookDue t q .off = true) ∧
        (.onHook q ∈ t.pending ↔ hookDue t q .on = true) ∧
        (.priorityPress q ∈ t.pending ↔
          s.pins.buttons.get q = true ∧ (posAt s q).holdCount = 3999) ∧
        (.callRequestResend q ∈ t.pending ↔ requestDue (posAt t q) = true) ∧
        (.callReleaseResend q ∈ t.pending ↔ releaseDue t q = true) ∧
        (.ringTimeout q ∈ t.pending ↔ ringDue (posAt t q) = true)) ∧
      (.statusTimerExpiry ∈ t.pending ↔ 1000 ≤ t.phone.statusTimer) ∧
      (.planSwitch ∈ t.pending ↔ ∃ c ∈ s.phone.pendingAt, ahead c t.timer.number = false) ∧
      (∀ n, (.planComeRound n ∈ t.pending ↔ comeRoundDue t n = true) ∧
        (.planUnanswered n ∈ t.pending ↔ s.isMaster = true ∧
          ∃ f ∈ (s.alloc.plans.get n).inFlight, ahead f.plan.switchCycle t.timer.number = false ∧
            64 ≤ (t.timer.number - f.plan.switchCycle).toNat) ∧
        (.absentQuarantineExpiry n ∈ t.pending ↔ quarantineDue t n = true) ∧
        ∀ q, .callSupervisionExpiry n q ∈ t.pending ↔ s.isMaster = true ∧
          ∃ e ∈ t.alloc.calls, e.node = n ∧ e.position = q ∧ isLive e = true ∧ 3000 ≤ e.age) ∧
      (.pendingTimeout ∈ t.pending ↔ ∃ x ∈ t.toll.pendingTable, s.toll.tToll ≤ x.timer) ∧
      (.answerBlockSent ∈ t.pending ↔ s.toll.answers ≠ []) ∧
      (.inflightTimeout ∈ t.pending ↔ ∃ r ∈ t.journal.records, inFlightDue r = true) ∧
      (.journalDrain ∈ t.pending ↔ reachable s = true ∧
        (drainKeys t.journal ≠ [] ∨ (∃ x ∈ t.toll.pendingTable, s.toll.tToll ≤ x.timer) ∨
          ∃ r ∈ t.journal.records, inFlightDue r = true)) ∧
      (.secondsClock ∈ t.pending ↔ 1000 ≤ t.journal.subSecond) ∧
      (.sampleTick ∈ t.pending ↔ 100 ≤ t.wx.clock) ∧
      (∀ c, .channelSample c ∈ t.pending ↔ 100 ≤ t.wx.clock) ∧
      (∀ k, .pulseEdge k ∈ t.pending ↔ pulseDue t k = true) ∧
      (.testTimerExpiry ∈ t.pending ↔ ∃ x ∈ t.sign.test, 60000 ≤ x.elapsed) ∧
      (.centreLifetimeExpiry ∈ t.pending ↔ ∃ c ∈ t.sign.centre, lifetimeDue c = true) ∧
      (.holdExpiry ∈ t.pending ↔ holdDue t = true) ∧
      (.commandSent ∈ t.pending ↔ commandDone t.sign.sender = true) ∧
      (.answerTimeout ∈ t.pending ↔ answerDue t = true) ∧
      (.pollTimerExpiry ∈ t.pending ↔ pollDue t.sign.sender = true) ∧
      (.walkTimeout ∈ t.pending ↔ walkDue t = true))
end

