-- ==== Sys2Proof/Laws/State.lean ====
section
/-! SUPPORT. The fields of the state after an update of one block: one lemma per field and update. -/

namespace Sys2Proof.Machine

-- One theorem at a time: fewer threads, less memory at once.
set_option Elab.async false

variable (s : State)

/-! ### modLine -/

@[simp] theorem State.modLine_pending (f : LineInterface → LineInterface) : (s.modLine f).pending = s.pending := rfl
@[simp] theorem State.modLine_choices (f : LineInterface → LineInterface) : (s.modLine f).choices = s.choices := rfl
@[simp] theorem State.modLine_openIndex (f : LineInterface → LineInterface) : (s.modLine f).openIndex = s.openIndex := rfl
@[simp] theorem State.modLine_isMaster (f : LineInterface → LineInterface) : (s.modLine f).isMaster = s.isMaster := rfl
@[simp] theorem State.modLine_pins (f : LineInterface → LineInterface) : (s.modLine f).pins = s.pins := rfl
@[simp] theorem State.modLine_line (f : LineInterface → LineInterface) : (s.modLine f).line = f s.line := rfl
@[simp] theorem State.modLine_timer (f : LineInterface → LineInterface) : (s.modLine f).timer = s.timer := rfl
@[simp] theorem State.modLine_prot (f : LineInterface → LineInterface) : (s.modLine f).prot = s.prot := rfl
@[simp] theorem State.modLine_sw (f : LineInterface → LineInterface) : (s.modLine f).sw = s.sw := rfl
@[simp] theorem State.modLine_phone (f : LineInterface → LineInterface) : (s.modLine f).phone = s.phone := rfl
@[simp] theorem State.modLine_alloc (f : LineInterface → LineInterface) : (s.modLine f).alloc = s.alloc := rfl
@[simp] theorem State.modLine_lanes (f : LineInterface → LineInterface) : (s.modLine f).lanes = s.lanes := rfl
@[simp] theorem State.modLine_toll (f : LineInterface → LineInterface) : (s.modLine f).toll = s.toll := rfl
@[simp] theorem State.modLine_journal (f : LineInterface → LineInterface) : (s.modLine f).journal = s.journal := rfl
@[simp] theorem State.modLine_wx (f : LineInterface → LineInterface) : (s.modLine f).wx = s.wx := rfl
@[simp] theorem State.modLine_cond (f : LineInterface → LineInterface) : (s.modLine f).cond = s.cond := rfl
@[simp] theorem State.modLine_sign (f : LineInterface → LineInterface) : (s.modLine f).sign = s.sign := rfl
@[simp] theorem State.modLine_agent (f : LineInterface → LineInterface) : (s.modLine f).agent = s.agent := rfl
@[simp] theorem State.modLine_out (f : LineInterface → LineInterface) : (s.modLine f).out = s.out := rfl
@[simp] theorem State.modLine_period (f : LineInterface → LineInterface) : (s.modLine f).period = s.period := rfl

/-! ### modTimer -/

@[simp] theorem State.modTimer_pending (f : CycleTimer → CycleTimer) : (s.modTimer f).pending = s.pending := rfl
@[simp] theorem State.modTimer_choices (f : CycleTimer → CycleTimer) : (s.modTimer f).choices = s.choices := rfl
@[simp] theorem State.modTimer_openIndex (f : CycleTimer → CycleTimer) : (s.modTimer f).openIndex = s.openIndex := rfl
@[simp] theorem State.modTimer_isMaster (f : CycleTimer → CycleTimer) : (s.modTimer f).isMaster = s.isMaster := rfl
@[simp] theorem State.modTimer_pins (f : CycleTimer → CycleTimer) : (s.modTimer f).pins = s.pins := rfl
@[simp] theorem State.modTimer_line (f : CycleTimer → CycleTimer) : (s.modTimer f).line = s.line := rfl
@[simp] theorem State.modTimer_timer (f : CycleTimer → CycleTimer) : (s.modTimer f).timer = f s.timer := rfl
@[simp] theorem State.modTimer_prot (f : CycleTimer → CycleTimer) : (s.modTimer f).prot = s.prot := rfl
@[simp] theorem State.modTimer_sw (f : CycleTimer → CycleTimer) : (s.modTimer f).sw = s.sw := rfl
@[simp] theorem State.modTimer_phone (f : CycleTimer → CycleTimer) : (s.modTimer f).phone = s.phone := rfl
@[simp] theorem State.modTimer_alloc (f : CycleTimer → CycleTimer) : (s.modTimer f).alloc = s.alloc := rfl
@[simp] theorem State.modTimer_lanes (f : CycleTimer → CycleTimer) : (s.modTimer f).lanes = s.lanes := rfl
@[simp] theorem State.modTimer_toll (f : CycleTimer → CycleTimer) : (s.modTimer f).toll = s.toll := rfl
@[simp] theorem State.modTimer_journal (f : CycleTimer → CycleTimer) : (s.modTimer f).journal = s.journal := rfl
@[simp] theorem State.modTimer_wx (f : CycleTimer → CycleTimer) : (s.modTimer f).wx = s.wx := rfl
@[simp] theorem State.modTimer_cond (f : CycleTimer → CycleTimer) : (s.modTimer f).cond = s.cond := rfl
@[simp] theorem State.modTimer_sign (f : CycleTimer → CycleTimer) : (s.modTimer f).sign = s.sign := rfl
@[simp] theorem State.modTimer_agent (f : CycleTimer → CycleTimer) : (s.modTimer f).agent = s.agent := rfl
@[simp] theorem State.modTimer_out (f : CycleTimer → CycleTimer) : (s.modTimer f).out = s.out := rfl
@[simp] theorem State.modTimer_period (f : CycleTimer → CycleTimer) : (s.modTimer f).period = s.period := rfl

/-! ### modProt -/

@[simp] theorem State.modProt_pending (f : Protection → Protection) : (s.modProt f).pending = s.pending := rfl
@[simp] theorem State.modProt_choices (f : Protection → Protection) : (s.modProt f).choices = s.choices := rfl
@[simp] theorem State.modProt_openIndex (f : Protection → Protection) : (s.modProt f).openIndex = s.openIndex := rfl
@[simp] theorem State.modProt_isMaster (f : Protection → Protection) : (s.modProt f).isMaster = s.isMaster := rfl
@[simp] theorem State.modProt_pins (f : Protection → Protection) : (s.modProt f).pins = s.pins := rfl
@[simp] theorem State.modProt_line (f : Protection → Protection) : (s.modProt f).line = s.line := rfl
@[simp] theorem State.modProt_timer (f : Protection → Protection) : (s.modProt f).timer = s.timer := rfl
@[simp] theorem State.modProt_prot (f : Protection → Protection) : (s.modProt f).prot = f s.prot := rfl
@[simp] theorem State.modProt_sw (f : Protection → Protection) : (s.modProt f).sw = s.sw := rfl
@[simp] theorem State.modProt_phone (f : Protection → Protection) : (s.modProt f).phone = s.phone := rfl
@[simp] theorem State.modProt_alloc (f : Protection → Protection) : (s.modProt f).alloc = s.alloc := rfl
@[simp] theorem State.modProt_lanes (f : Protection → Protection) : (s.modProt f).lanes = s.lanes := rfl
@[simp] theorem State.modProt_toll (f : Protection → Protection) : (s.modProt f).toll = s.toll := rfl
@[simp] theorem State.modProt_journal (f : Protection → Protection) : (s.modProt f).journal = s.journal := rfl
@[simp] theorem State.modProt_wx (f : Protection → Protection) : (s.modProt f).wx = s.wx := rfl
@[simp] theorem State.modProt_cond (f : Protection → Protection) : (s.modProt f).cond = s.cond := rfl
@[simp] theorem State.modProt_sign (f : Protection → Protection) : (s.modProt f).sign = s.sign := rfl
@[simp] theorem State.modProt_agent (f : Protection → Protection) : (s.modProt f).agent = s.agent := rfl
@[simp] theorem State.modProt_out (f : Protection → Protection) : (s.modProt f).out = s.out := rfl
@[simp] theorem State.modProt_period (f : Protection → Protection) : (s.modProt f).period = s.period := rfl

/-! ### modSw -/

@[simp] theorem State.modSw_pending (f : FrameSwitch → FrameSwitch) : (s.modSw f).pending = s.pending := rfl
@[simp] theorem State.modSw_choices (f : FrameSwitch → FrameSwitch) : (s.modSw f).choices = s.choices := rfl
@[simp] theorem State.modSw_openIndex (f : FrameSwitch → FrameSwitch) : (s.modSw f).openIndex = s.openIndex := rfl
@[simp] theorem State.modSw_isMaster (f : FrameSwitch → FrameSwitch) : (s.modSw f).isMaster = s.isMaster := rfl
@[simp] theorem State.modSw_pins (f : FrameSwitch → FrameSwitch) : (s.modSw f).pins = s.pins := rfl
@[simp] theorem State.modSw_line (f : FrameSwitch → FrameSwitch) : (s.modSw f).line = s.line := rfl
@[simp] theorem State.modSw_timer (f : FrameSwitch → FrameSwitch) : (s.modSw f).timer = s.timer := rfl
@[simp] theorem State.modSw_prot (f : FrameSwitch → FrameSwitch) : (s.modSw f).prot = s.prot := rfl
@[simp] theorem State.modSw_sw (f : FrameSwitch → FrameSwitch) : (s.modSw f).sw = f s.sw := rfl
@[simp] theorem State.modSw_phone (f : FrameSwitch → FrameSwitch) : (s.modSw f).phone = s.phone := rfl
@[simp] theorem State.modSw_alloc (f : FrameSwitch → FrameSwitch) : (s.modSw f).alloc = s.alloc := rfl
@[simp] theorem State.modSw_lanes (f : FrameSwitch → FrameSwitch) : (s.modSw f).lanes = s.lanes := rfl
@[simp] theorem State.modSw_toll (f : FrameSwitch → FrameSwitch) : (s.modSw f).toll = s.toll := rfl
@[simp] theorem State.modSw_journal (f : FrameSwitch → FrameSwitch) : (s.modSw f).journal = s.journal := rfl
@[simp] theorem State.modSw_wx (f : FrameSwitch → FrameSwitch) : (s.modSw f).wx = s.wx := rfl
@[simp] theorem State.modSw_cond (f : FrameSwitch → FrameSwitch) : (s.modSw f).cond = s.cond := rfl
@[simp] theorem State.modSw_sign (f : FrameSwitch → FrameSwitch) : (s.modSw f).sign = s.sign := rfl
@[simp] theorem State.modSw_agent (f : FrameSwitch → FrameSwitch) : (s.modSw f).agent = s.agent := rfl
@[simp] theorem State.modSw_out (f : FrameSwitch → FrameSwitch) : (s.modSw f).out = s.out := rfl
@[simp] theorem State.modSw_period (f : FrameSwitch → FrameSwitch) : (s.modSw f).period = s.period := rfl

/-! ### modPhone -/

@[simp] theorem State.modPhone_pending (f : PhoneInterface → PhoneInterface) : (s.modPhone f).pending = s.pending := rfl
@[simp] theorem State.modPhone_choices (f : PhoneInterface → PhoneInterface) : (s.modPhone f).choices = s.choices := rfl
@[simp] theorem State.modPhone_openIndex (f : PhoneInterface → PhoneInterface) : (s.modPhone f).openIndex = s.openIndex := rfl
@[simp] theorem State.modPhone_isMaster (f : PhoneInterface → PhoneInterface) : (s.modPhone f).isMaster = s.isMaster := rfl
@[simp] theorem State.modPhone_pins (f : PhoneInterface → PhoneInterface) : (s.modPhone f).pins = s.pins := rfl
@[simp] theorem State.modPhone_line (f : PhoneInterface → PhoneInterface) : (s.modPhone f).line = s.line := rfl
@[simp] theorem State.modPhone_timer (f : PhoneInterface → PhoneInterface) : (s.modPhone f).timer = s.timer := rfl
@[simp] theorem State.modPhone_prot (f : PhoneInterface → PhoneInterface) : (s.modPhone f).prot = s.prot := rfl
@[simp] theorem State.modPhone_sw (f : PhoneInterface → PhoneInterface) : (s.modPhone f).sw = s.sw := rfl
@[simp] theorem State.modPhone_phone (f : PhoneInterface → PhoneInterface) : (s.modPhone f).phone = f s.phone := rfl
@[simp] theorem State.modPhone_alloc (f : PhoneInterface → PhoneInterface) : (s.modPhone f).alloc = s.alloc := rfl
@[simp] theorem State.modPhone_lanes (f : PhoneInterface → PhoneInterface) : (s.modPhone f).lanes = s.lanes := rfl
@[simp] theorem State.modPhone_toll (f : PhoneInterface → PhoneInterface) : (s.modPhone f).toll = s.toll := rfl
@[simp] theorem State.modPhone_journal (f : PhoneInterface → PhoneInterface) : (s.modPhone f).journal = s.journal := rfl
@[simp] theorem State.modPhone_wx (f : PhoneInterface → PhoneInterface) : (s.modPhone f).wx = s.wx := rfl
@[simp] theorem State.modPhone_cond (f : PhoneInterface → PhoneInterface) : (s.modPhone f).cond = s.cond := rfl
@[simp] theorem State.modPhone_sign (f : PhoneInterface → PhoneInterface) : (s.modPhone f).sign = s.sign := rfl
@[simp] theorem State.modPhone_agent (f : PhoneInterface → PhoneInterface) : (s.modPhone f).agent = s.agent := rfl
@[simp] theorem State.modPhone_out (f : PhoneInterface → PhoneInterface) : (s.modPhone f).out = s.out := rfl
@[simp] theorem State.modPhone_period (f : PhoneInterface → PhoneInterface) : (s.modPhone f).period = s.period := rfl

/-! ### modAlloc -/

@[simp] theorem State.modAlloc_pending (f : SlotAllocator → SlotAllocator) : (s.modAlloc f).pending = s.pending := rfl
@[simp] theorem State.modAlloc_choices (f : SlotAllocator → SlotAllocator) : (s.modAlloc f).choices = s.choices := rfl
@[simp] theorem State.modAlloc_openIndex (f : SlotAllocator → SlotAllocator) : (s.modAlloc f).openIndex = s.openIndex := rfl
@[simp] theorem State.modAlloc_isMaster (f : SlotAllocator → SlotAllocator) : (s.modAlloc f).isMaster = s.isMaster := rfl
@[simp] theorem State.modAlloc_pins (f : SlotAllocator → SlotAllocator) : (s.modAlloc f).pins = s.pins := rfl
@[simp] theorem State.modAlloc_line (f : SlotAllocator → SlotAllocator) : (s.modAlloc f).line = s.line := rfl
@[simp] theorem State.modAlloc_timer (f : SlotAllocator → SlotAllocator) : (s.modAlloc f).timer = s.timer := rfl
@[simp] theorem State.modAlloc_prot (f : SlotAllocator → SlotAllocator) : (s.modAlloc f).prot = s.prot := rfl
@[simp] theorem State.modAlloc_sw (f : SlotAllocator → SlotAllocator) : (s.modAlloc f).sw = s.sw := rfl
@[simp] theorem State.modAlloc_phone (f : SlotAllocator → SlotAllocator) : (s.modAlloc f).phone = s.phone := rfl
@[simp] theorem State.modAlloc_alloc (f : SlotAllocator → SlotAllocator) : (s.modAlloc f).alloc = f s.alloc := rfl
@[simp] theorem State.modAlloc_lanes (f : SlotAllocator → SlotAllocator) : (s.modAlloc f).lanes = s.lanes := rfl
@[simp] theorem State.modAlloc_toll (f : SlotAllocator → SlotAllocator) : (s.modAlloc f).toll = s.toll := rfl
@[simp] theorem State.modAlloc_journal (f : SlotAllocator → SlotAllocator) : (s.modAlloc f).journal = s.journal := rfl
@[simp] theorem State.modAlloc_wx (f : SlotAllocator → SlotAllocator) : (s.modAlloc f).wx = s.wx := rfl
@[simp] theorem State.modAlloc_cond (f : SlotAllocator → SlotAllocator) : (s.modAlloc f).cond = s.cond := rfl
@[simp] theorem State.modAlloc_sign (f : SlotAllocator → SlotAllocator) : (s.modAlloc f).sign = s.sign := rfl
@[simp] theorem State.modAlloc_agent (f : SlotAllocator → SlotAllocator) : (s.modAlloc f).agent = s.agent := rfl
@[simp] theorem State.modAlloc_out (f : SlotAllocator → SlotAllocator) : (s.modAlloc f).out = s.out := rfl
@[simp] theorem State.modAlloc_period (f : SlotAllocator → SlotAllocator) : (s.modAlloc f).period = s.period := rfl

/-! ### modLanes -/

@[simp] theorem State.modLanes_pending (f : Lanes → Lanes) : (s.modLanes f).pending = s.pending := rfl
@[simp] theorem State.modLanes_choices (f : Lanes → Lanes) : (s.modLanes f).choices = s.choices := rfl
@[simp] theorem State.modLanes_openIndex (f : Lanes → Lanes) : (s.modLanes f).openIndex = s.openIndex := rfl
@[simp] theorem State.modLanes_isMaster (f : Lanes → Lanes) : (s.modLanes f).isMaster = s.isMaster := rfl
@[simp] theorem State.modLanes_pins (f : Lanes → Lanes) : (s.modLanes f).pins = s.pins := rfl
@[simp] theorem State.modLanes_line (f : Lanes → Lanes) : (s.modLanes f).line = s.line := rfl
@[simp] theorem State.modLanes_timer (f : Lanes → Lanes) : (s.modLanes f).timer = s.timer := rfl
@[simp] theorem State.modLanes_prot (f : Lanes → Lanes) : (s.modLanes f).prot = s.prot := rfl
@[simp] theorem State.modLanes_sw (f : Lanes → Lanes) : (s.modLanes f).sw = s.sw := rfl
@[simp] theorem State.modLanes_phone (f : Lanes → Lanes) : (s.modLanes f).phone = s.phone := rfl
@[simp] theorem State.modLanes_alloc (f : Lanes → Lanes) : (s.modLanes f).alloc = s.alloc := rfl
@[simp] theorem State.modLanes_lanes (f : Lanes → Lanes) : (s.modLanes f).lanes = f s.lanes := rfl
@[simp] theorem State.modLanes_toll (f : Lanes → Lanes) : (s.modLanes f).toll = s.toll := rfl
@[simp] theorem State.modLanes_journal (f : Lanes → Lanes) : (s.modLanes f).journal = s.journal := rfl
@[simp] theorem State.modLanes_wx (f : Lanes → Lanes) : (s.modLanes f).wx = s.wx := rfl
@[simp] theorem State.modLanes_cond (f : Lanes → Lanes) : (s.modLanes f).cond = s.cond := rfl
@[simp] theorem State.modLanes_sign (f : Lanes → Lanes) : (s.modLanes f).sign = s.sign := rfl
@[simp] theorem State.modLanes_agent (f : Lanes → Lanes) : (s.modLanes f).agent = s.agent := rfl
@[simp] theorem State.modLanes_out (f : Lanes → Lanes) : (s.modLanes f).out = s.out := rfl
@[simp] theorem State.modLanes_period (f : Lanes → Lanes) : (s.modLanes f).period = s.period := rfl

/-! ### modToll -/

@[simp] theorem State.modToll_pending (f : TollRelay → TollRelay) : (s.modToll f).pending = s.pending := rfl
@[simp] theorem State.modToll_choices (f : TollRelay → TollRelay) : (s.modToll f).choices = s.choices := rfl
@[simp] theorem State.modToll_openIndex (f : TollRelay → TollRelay) : (s.modToll f).openIndex = s.openIndex := rfl
@[simp] theorem State.modToll_isMaster (f : TollRelay → TollRelay) : (s.modToll f).isMaster = s.isMaster := rfl
@[simp] theorem State.modToll_pins (f : TollRelay → TollRelay) : (s.modToll f).pins = s.pins := rfl
@[simp] theorem State.modToll_line (f : TollRelay → TollRelay) : (s.modToll f).line = s.line := rfl
@[simp] theorem State.modToll_timer (f : TollRelay → TollRelay) : (s.modToll f).timer = s.timer := rfl
@[simp] theorem State.modToll_prot (f : TollRelay → TollRelay) : (s.modToll f).prot = s.prot := rfl
@[simp] theorem State.modToll_sw (f : TollRelay → TollRelay) : (s.modToll f).sw = s.sw := rfl
@[simp] theorem State.modToll_phone (f : TollRelay → TollRelay) : (s.modToll f).phone = s.phone := rfl
@[simp] theorem State.modToll_alloc (f : TollRelay → TollRelay) : (s.modToll f).alloc = s.alloc := rfl
@[simp] theorem State.modToll_lanes (f : TollRelay → TollRelay) : (s.modToll f).lanes = s.lanes := rfl
@[simp] theorem State.modToll_toll (f : TollRelay → TollRelay) : (s.modToll f).toll = f s.toll := rfl
@[simp] theorem State.modToll_journal (f : TollRelay → TollRelay) : (s.modToll f).journal = s.journal := rfl
@[simp] theorem State.modToll_wx (f : TollRelay → TollRelay) : (s.modToll f).wx = s.wx := rfl
@[simp] theorem State.modToll_cond (f : TollRelay → TollRelay) : (s.modToll f).cond = s.cond := rfl
@[simp] theorem State.modToll_sign (f : TollRelay → TollRelay) : (s.modToll f).sign = s.sign := rfl
@[simp] theorem State.modToll_agent (f : TollRelay → TollRelay) : (s.modToll f).agent = s.agent := rfl
@[simp] theorem State.modToll_out (f : TollRelay → TollRelay) : (s.modToll f).out = s.out := rfl
@[simp] theorem State.modToll_period (f : TollRelay → TollRelay) : (s.modToll f).period = s.period := rfl

/-! ### modJournal -/

@[simp] theorem State.modJournal_pending (f : TollJournal → TollJournal) : (s.modJournal f).pending = s.pending := rfl
@[simp] theorem State.modJournal_choices (f : TollJournal → TollJournal) : (s.modJournal f).choices = s.choices := rfl
@[simp] theorem State.modJournal_openIndex (f : TollJournal → TollJournal) : (s.modJournal f).openIndex = s.openIndex := rfl
@[simp] theorem State.modJournal_isMaster (f : TollJournal → TollJournal) : (s.modJournal f).isMaster = s.isMaster := rfl
@[simp] theorem State.modJournal_pins (f : TollJournal → TollJournal) : (s.modJournal f).pins = s.pins := rfl
@[simp] theorem State.modJournal_line (f : TollJournal → TollJournal) : (s.modJournal f).line = s.line := rfl
@[simp] theorem State.modJournal_timer (f : TollJournal → TollJournal) : (s.modJournal f).timer = s.timer := rfl
@[simp] theorem State.modJournal_prot (f : TollJournal → TollJournal) : (s.modJournal f).prot = s.prot := rfl
@[simp] theorem State.modJournal_sw (f : TollJournal → TollJournal) : (s.modJournal f).sw = s.sw := rfl
@[simp] theorem State.modJournal_phone (f : TollJournal → TollJournal) : (s.modJournal f).phone = s.phone := rfl
@[simp] theorem State.modJournal_alloc (f : TollJournal → TollJournal) : (s.modJournal f).alloc = s.alloc := rfl
@[simp] theorem State.modJournal_lanes (f : TollJournal → TollJournal) : (s.modJournal f).lanes = s.lanes := rfl
@[simp] theorem State.modJournal_toll (f : TollJournal → TollJournal) : (s.modJournal f).toll = s.toll := rfl
@[simp] theorem State.modJournal_journal (f : TollJournal → TollJournal) : (s.modJournal f).journal = f s.journal := rfl
@[simp] theorem State.modJournal_wx (f : TollJournal → TollJournal) : (s.modJournal f).wx = s.wx := rfl
@[simp] theorem State.modJournal_cond (f : TollJournal → TollJournal) : (s.modJournal f).cond = s.cond := rfl
@[simp] theorem State.modJournal_sign (f : TollJournal → TollJournal) : (s.modJournal f).sign = s.sign := rfl
@[simp] theorem State.modJournal_agent (f : TollJournal → TollJournal) : (s.modJournal f).agent = s.agent := rfl
@[simp] theorem State.modJournal_out (f : TollJournal → TollJournal) : (s.modJournal f).out = s.out := rfl
@[simp] theorem State.modJournal_period (f : TollJournal → TollJournal) : (s.modJournal f).period = s.period := rfl

/-! ### modWx -/

@[simp] theorem State.modWx_pending (f : WeatherSampler → WeatherSampler) : (s.modWx f).pending = s.pending := rfl
@[simp] theorem State.modWx_choices (f : WeatherSampler → WeatherSampler) : (s.modWx f).choices = s.choices := rfl
@[simp] theorem State.modWx_openIndex (f : WeatherSampler → WeatherSampler) : (s.modWx f).openIndex = s.openIndex := rfl
@[simp] theorem State.modWx_isMaster (f : WeatherSampler → WeatherSampler) : (s.modWx f).isMaster = s.isMaster := rfl
@[simp] theorem State.modWx_pins (f : WeatherSampler → WeatherSampler) : (s.modWx f).pins = s.pins := rfl
@[simp] theorem State.modWx_line (f : WeatherSampler → WeatherSampler) : (s.modWx f).line = s.line := rfl
@[simp] theorem State.modWx_timer (f : WeatherSampler → WeatherSampler) : (s.modWx f).timer = s.timer := rfl
@[simp] theorem State.modWx_prot (f : WeatherSampler → WeatherSampler) : (s.modWx f).prot = s.prot := rfl
@[simp] theorem State.modWx_sw (f : WeatherSampler → WeatherSampler) : (s.modWx f).sw = s.sw := rfl
@[simp] theorem State.modWx_phone (f : WeatherSampler → WeatherSampler) : (s.modWx f).phone = s.phone := rfl
@[simp] theorem State.modWx_alloc (f : WeatherSampler → WeatherSampler) : (s.modWx f).alloc = s.alloc := rfl
@[simp] theorem State.modWx_lanes (f : WeatherSampler → WeatherSampler) : (s.modWx f).lanes = s.lanes := rfl
@[simp] theorem State.modWx_toll (f : WeatherSampler → WeatherSampler) : (s.modWx f).toll = s.toll := rfl
@[simp] theorem State.modWx_journal (f : WeatherSampler → WeatherSampler) : (s.modWx f).journal = s.journal := rfl
@[simp] theorem State.modWx_wx (f : WeatherSampler → WeatherSampler) : (s.modWx f).wx = f s.wx := rfl
@[simp] theorem State.modWx_cond (f : WeatherSampler → WeatherSampler) : (s.modWx f).cond = s.cond := rfl
@[simp] theorem State.modWx_sign (f : WeatherSampler → WeatherSampler) : (s.modWx f).sign = s.sign := rfl
@[simp] theorem State.modWx_agent (f : WeatherSampler → WeatherSampler) : (s.modWx f).agent = s.agent := rfl
@[simp] theorem State.modWx_out (f : WeatherSampler → WeatherSampler) : (s.modWx f).out = s.out := rfl
@[simp] theorem State.modWx_period (f : WeatherSampler → WeatherSampler) : (s.modWx f).period = s.period := rfl

/-! ### modCond -/

@[simp] theorem State.modCond_pending (f : ConditionUnit → ConditionUnit) : (s.modCond f).pending = s.pending := rfl
@[simp] theorem State.modCond_choices (f : ConditionUnit → ConditionUnit) : (s.modCond f).choices = s.choices := rfl
@[simp] theorem State.modCond_openIndex (f : ConditionUnit → ConditionUnit) : (s.modCond f).openIndex = s.openIndex := rfl
@[simp] theorem State.modCond_isMaster (f : ConditionUnit → ConditionUnit) : (s.modCond f).isMaster = s.isMaster := rfl
@[simp] theorem State.modCond_pins (f : ConditionUnit → ConditionUnit) : (s.modCond f).pins = s.pins := rfl
@[simp] theorem State.modCond_line (f : ConditionUnit → ConditionUnit) : (s.modCond f).line = s.line := rfl
@[simp] theorem State.modCond_timer (f : ConditionUnit → ConditionUnit) : (s.modCond f).timer = s.timer := rfl
@[simp] theorem State.modCond_prot (f : ConditionUnit → ConditionUnit) : (s.modCond f).prot = s.prot := rfl
@[simp] theorem State.modCond_sw (f : ConditionUnit → ConditionUnit) : (s.modCond f).sw = s.sw := rfl
@[simp] theorem State.modCond_phone (f : ConditionUnit → ConditionUnit) : (s.modCond f).phone = s.phone := rfl
@[simp] theorem State.modCond_alloc (f : ConditionUnit → ConditionUnit) : (s.modCond f).alloc = s.alloc := rfl
@[simp] theorem State.modCond_lanes (f : ConditionUnit → ConditionUnit) : (s.modCond f).lanes = s.lanes := rfl
@[simp] theorem State.modCond_toll (f : ConditionUnit → ConditionUnit) : (s.modCond f).toll = s.toll := rfl
@[simp] theorem State.modCond_journal (f : ConditionUnit → ConditionUnit) : (s.modCond f).journal = s.journal := rfl
@[simp] theorem State.modCond_wx (f : ConditionUnit → ConditionUnit) : (s.modCond f).wx = s.wx := rfl
@[simp] theorem State.modCond_cond (f : ConditionUnit → ConditionUnit) : (s.modCond f).cond = f s.cond := rfl
@[simp] theorem State.modCond_sign (f : ConditionUnit → ConditionUnit) : (s.modCond f).sign = s.sign := rfl
@[simp] theorem State.modCond_agent (f : ConditionUnit → ConditionUnit) : (s.modCond f).agent = s.agent := rfl
@[simp] theorem State.modCond_out (f : ConditionUnit → ConditionUnit) : (s.modCond f).out = s.out := rfl
@[simp] theorem State.modCond_period (f : ConditionUnit → ConditionUnit) : (s.modCond f).period = s.period := rfl

/-! ### modSign -/

@[simp] theorem State.modSign_pending (f : SignController → SignController) : (s.modSign f).pending = s.pending := rfl
@[simp] theorem State.modSign_choices (f : SignController → SignController) : (s.modSign f).choices = s.choices := rfl
@[simp] theorem State.modSign_openIndex (f : SignController → SignController) : (s.modSign f).openIndex = s.openIndex := rfl
@[simp] theorem State.modSign_isMaster (f : SignController → SignController) : (s.modSign f).isMaster = s.isMaster := rfl
@[simp] theorem State.modSign_pins (f : SignController → SignController) : (s.modSign f).pins = s.pins := rfl
@[simp] theorem State.modSign_line (f : SignController → SignController) : (s.modSign f).line = s.line := rfl
@[simp] theorem State.modSign_timer (f : SignController → SignController) : (s.modSign f).timer = s.timer := rfl
@[simp] theorem State.modSign_prot (f : SignController → SignController) : (s.modSign f).prot = s.prot := rfl
@[simp] theorem State.modSign_sw (f : SignController → SignController) : (s.modSign f).sw = s.sw := rfl
@[simp] theorem State.modSign_phone (f : SignController → SignController) : (s.modSign f).phone = s.phone := rfl
@[simp] theorem State.modSign_alloc (f : SignController → SignController) : (s.modSign f).alloc = s.alloc := rfl
@[simp] theorem State.modSign_lanes (f : SignController → SignController) : (s.modSign f).lanes = s.lanes := rfl
@[simp] theorem State.modSign_toll (f : SignController → SignController) : (s.modSign f).toll = s.toll := rfl
@[simp] theorem State.modSign_journal (f : SignController → SignController) : (s.modSign f).journal = s.journal := rfl
@[simp] theorem State.modSign_wx (f : SignController → SignController) : (s.modSign f).wx = s.wx := rfl
@[simp] theorem State.modSign_cond (f : SignController → SignController) : (s.modSign f).cond = s.cond := rfl
@[simp] theorem State.modSign_sign (f : SignController → SignController) : (s.modSign f).sign = f s.sign := rfl
@[simp] theorem State.modSign_agent (f : SignController → SignController) : (s.modSign f).agent = s.agent := rfl
@[simp] theorem State.modSign_out (f : SignController → SignController) : (s.modSign f).out = s.out := rfl
@[simp] theorem State.modSign_period (f : SignController → SignController) : (s.modSign f).period = s.period := rfl

/-! ### modAgent -/

@[simp] theorem State.modAgent_pending (f : Agent → Agent) : (s.modAgent f).pending = s.pending := rfl
@[simp] theorem State.modAgent_choices (f : Agent → Agent) : (s.modAgent f).choices = s.choices := rfl
@[simp] theorem State.modAgent_openIndex (f : Agent → Agent) : (s.modAgent f).openIndex = s.openIndex := rfl
@[simp] theorem State.modAgent_isMaster (f : Agent → Agent) : (s.modAgent f).isMaster = s.isMaster := rfl
@[simp] theorem State.modAgent_pins (f : Agent → Agent) : (s.modAgent f).pins = s.pins := rfl
@[simp] theorem State.modAgent_line (f : Agent → Agent) : (s.modAgent f).line = s.line := rfl
@[simp] theorem State.modAgent_timer (f : Agent → Agent) : (s.modAgent f).timer = s.timer := rfl
@[simp] theorem State.modAgent_prot (f : Agent → Agent) : (s.modAgent f).prot = s.prot := rfl
@[simp] theorem State.modAgent_sw (f : Agent → Agent) : (s.modAgent f).sw = s.sw := rfl
@[simp] theorem State.modAgent_phone (f : Agent → Agent) : (s.modAgent f).phone = s.phone := rfl
@[simp] theorem State.modAgent_alloc (f : Agent → Agent) : (s.modAgent f).alloc = s.alloc := rfl
@[simp] theorem State.modAgent_lanes (f : Agent → Agent) : (s.modAgent f).lanes = s.lanes := rfl
@[simp] theorem State.modAgent_toll (f : Agent → Agent) : (s.modAgent f).toll = s.toll := rfl
@[simp] theorem State.modAgent_journal (f : Agent → Agent) : (s.modAgent f).journal = s.journal := rfl
@[simp] theorem State.modAgent_wx (f : Agent → Agent) : (s.modAgent f).wx = s.wx := rfl
@[simp] theorem State.modAgent_cond (f : Agent → Agent) : (s.modAgent f).cond = s.cond := rfl
@[simp] theorem State.modAgent_sign (f : Agent → Agent) : (s.modAgent f).sign = s.sign := rfl
@[simp] theorem State.modAgent_agent (f : Agent → Agent) : (s.modAgent f).agent = f s.agent := rfl
@[simp] theorem State.modAgent_out (f : Agent → Agent) : (s.modAgent f).out = s.out := rfl
@[simp] theorem State.modAgent_period (f : Agent → Agent) : (s.modAgent f).period = s.period := rfl

/-! ### modOut -/

@[simp] theorem State.modOut_pending (f : Outputs → Outputs) : (s.modOut f).pending = s.pending := rfl
@[simp] theorem State.modOut_choices (f : Outputs → Outputs) : (s.modOut f).choices = s.choices := rfl
@[simp] theorem State.modOut_openIndex (f : Outputs → Outputs) : (s.modOut f).openIndex = s.openIndex := rfl
@[simp] theorem State.modOut_isMaster (f : Outputs → Outputs) : (s.modOut f).isMaster = s.isMaster := rfl
@[simp] theorem State.modOut_pins (f : Outputs → Outputs) : (s.modOut f).pins = s.pins := rfl
@[simp] theorem State.modOut_line (f : Outputs → Outputs) : (s.modOut f).line = s.line := rfl
@[simp] theorem State.modOut_timer (f : Outputs → Outputs) : (s.modOut f).timer = s.timer := rfl
@[simp] theorem State.modOut_prot (f : Outputs → Outputs) : (s.modOut f).prot = s.prot := rfl
@[simp] theorem State.modOut_sw (f : Outputs → Outputs) : (s.modOut f).sw = s.sw := rfl
@[simp] theorem State.modOut_phone (f : Outputs → Outputs) : (s.modOut f).phone = s.phone := rfl
@[simp] theorem State.modOut_alloc (f : Outputs → Outputs) : (s.modOut f).alloc = s.alloc := rfl
@[simp] theorem State.modOut_lanes (f : Outputs → Outputs) : (s.modOut f).lanes = s.lanes := rfl
@[simp] theorem State.modOut_toll (f : Outputs → Outputs) : (s.modOut f).toll = s.toll := rfl
@[simp] theorem State.modOut_journal (f : Outputs → Outputs) : (s.modOut f).journal = s.journal := rfl
@[simp] theorem State.modOut_wx (f : Outputs → Outputs) : (s.modOut f).wx = s.wx := rfl
@[simp] theorem State.modOut_cond (f : Outputs → Outputs) : (s.modOut f).cond = s.cond := rfl
@[simp] theorem State.modOut_sign (f : Outputs → Outputs) : (s.modOut f).sign = s.sign := rfl
@[simp] theorem State.modOut_agent (f : Outputs → Outputs) : (s.modOut f).agent = s.agent := rfl
@[simp] theorem State.modOut_out (f : Outputs → Outputs) : (s.modOut f).out = f s.out := rfl
@[simp] theorem State.modOut_period (f : Outputs → Outputs) : (s.modOut f).period = s.period := rfl

/-! ### modPins -/

@[simp] theorem State.modPins_pending (f : Pins → Pins) : (s.modPins f).pending = s.pending := rfl
@[simp] theorem State.modPins_choices (f : Pins → Pins) : (s.modPins f).choices = s.choices := rfl
@[simp] theorem State.modPins_openIndex (f : Pins → Pins) : (s.modPins f).openIndex = s.openIndex := rfl
@[simp] theorem State.modPins_isMaster (f : Pins → Pins) : (s.modPins f).isMaster = s.isMaster := rfl
@[simp] theorem State.modPins_pins (f : Pins → Pins) : (s.modPins f).pins = f s.pins := rfl
@[simp] theorem State.modPins_line (f : Pins → Pins) : (s.modPins f).line = s.line := rfl
@[simp] theorem State.modPins_timer (f : Pins → Pins) : (s.modPins f).timer = s.timer := rfl
@[simp] theorem State.modPins_prot (f : Pins → Pins) : (s.modPins f).prot = s.prot := rfl
@[simp] theorem State.modPins_sw (f : Pins → Pins) : (s.modPins f).sw = s.sw := rfl
@[simp] theorem State.modPins_phone (f : Pins → Pins) : (s.modPins f).phone = s.phone := rfl
@[simp] theorem State.modPins_alloc (f : Pins → Pins) : (s.modPins f).alloc = s.alloc := rfl
@[simp] theorem State.modPins_lanes (f : Pins → Pins) : (s.modPins f).lanes = s.lanes := rfl
@[simp] theorem State.modPins_toll (f : Pins → Pins) : (s.modPins f).toll = s.toll := rfl
@[simp] theorem State.modPins_journal (f : Pins → Pins) : (s.modPins f).journal = s.journal := rfl
@[simp] theorem State.modPins_wx (f : Pins → Pins) : (s.modPins f).wx = s.wx := rfl
@[simp] theorem State.modPins_cond (f : Pins → Pins) : (s.modPins f).cond = s.cond := rfl
@[simp] theorem State.modPins_sign (f : Pins → Pins) : (s.modPins f).sign = s.sign := rfl
@[simp] theorem State.modPins_agent (f : Pins → Pins) : (s.modPins f).agent = s.agent := rfl
@[simp] theorem State.modPins_out (f : Pins → Pins) : (s.modPins f).out = s.out := rfl
@[simp] theorem State.modPins_period (f : Pins → Pins) : (s.modPins f).period = s.period := rfl

/-! ### modPeriod -/

@[simp] theorem State.modPeriod_pending (f : Period → Period) : (s.modPeriod f).pending = s.pending := rfl
@[simp] theorem State.modPeriod_choices (f : Period → Period) : (s.modPeriod f).choices = s.choices := rfl
@[simp] theorem State.modPeriod_openIndex (f : Period → Period) : (s.modPeriod f).openIndex = s.openIndex := rfl
@[simp] theorem State.modPeriod_isMaster (f : Period → Period) : (s.modPeriod f).isMaster = s.isMaster := rfl
@[simp] theorem State.modPeriod_pins (f : Period → Period) : (s.modPeriod f).pins = s.pins := rfl
@[simp] theorem State.modPeriod_line (f : Period → Period) : (s.modPeriod f).line = s.line := rfl
@[simp] theorem State.modPeriod_timer (f : Period → Period) : (s.modPeriod f).timer = s.timer := rfl
@[simp] theorem State.modPeriod_prot (f : Period → Period) : (s.modPeriod f).prot = s.prot := rfl
@[simp] theorem State.modPeriod_sw (f : Period → Period) : (s.modPeriod f).sw = s.sw := rfl
@[simp] theorem State.modPeriod_phone (f : Period → Period) : (s.modPeriod f).phone = s.phone := rfl
@[simp] theorem State.modPeriod_alloc (f : Period → Period) : (s.modPeriod f).alloc = s.alloc := rfl
@[simp] theorem State.modPeriod_lanes (f : Period → Period) : (s.modPeriod f).lanes = s.lanes := rfl
@[simp] theorem State.modPeriod_toll (f : Period → Period) : (s.modPeriod f).toll = s.toll := rfl
@[simp] theorem State.modPeriod_journal (f : Period → Period) : (s.modPeriod f).journal = s.journal := rfl
@[simp] theorem State.modPeriod_wx (f : Period → Period) : (s.modPeriod f).wx = s.wx := rfl
@[simp] theorem State.modPeriod_cond (f : Period → Period) : (s.modPeriod f).cond = s.cond := rfl
@[simp] theorem State.modPeriod_sign (f : Period → Period) : (s.modPeriod f).sign = s.sign := rfl
@[simp] theorem State.modPeriod_agent (f : Period → Period) : (s.modPeriod f).agent = s.agent := rfl
@[simp] theorem State.modPeriod_out (f : Period → Period) : (s.modPeriod f).out = s.out := rfl
@[simp] theorem State.modPeriod_period (f : Period → Period) : (s.modPeriod f).period = f s.period := rfl

/-! ### spendOpen and withPending -/

@[simp] theorem State.spendOpen_pending : s.spendOpen.pending = s.pending := rfl
@[simp] theorem State.spendOpen_choices : s.spendOpen.choices = s.choices := rfl
@[simp] theorem State.spendOpen_openIndex : s.spendOpen.openIndex = s.openIndex + 1 := rfl
@[simp] theorem State.spendOpen_isMaster : s.spendOpen.isMaster = s.isMaster := rfl
@[simp] theorem State.spendOpen_pins : s.spendOpen.pins = s.pins := rfl
@[simp] theorem State.spendOpen_line : s.spendOpen.line = s.line := rfl
@[simp] theorem State.spendOpen_timer : s.spendOpen.timer = s.timer := rfl
@[simp] theorem State.spendOpen_prot : s.spendOpen.prot = s.prot := rfl
@[simp] theorem State.spendOpen_sw : s.spendOpen.sw = s.sw := rfl
@[simp] theorem State.spendOpen_phone : s.spendOpen.phone = s.phone := rfl
@[simp] theorem State.spendOpen_alloc : s.spendOpen.alloc = s.alloc := rfl
@[simp] theorem State.spendOpen_lanes : s.spendOpen.lanes = s.lanes := rfl
@[simp] theorem State.spendOpen_toll : s.spendOpen.toll = s.toll := rfl
@[simp] theorem State.spendOpen_journal : s.spendOpen.journal = s.journal := rfl
@[simp] theorem State.spendOpen_wx : s.spendOpen.wx = s.wx := rfl
@[simp] theorem State.spendOpen_cond : s.spendOpen.cond = s.cond := rfl
@[simp] theorem State.spendOpen_sign : s.spendOpen.sign = s.sign := rfl
@[simp] theorem State.spendOpen_agent : s.spendOpen.agent = s.agent := rfl
@[simp] theorem State.spendOpen_out : s.spendOpen.out = s.out := rfl
@[simp] theorem State.spendOpen_period : s.spendOpen.period = s.period := rfl

@[simp] theorem State.withPending_pending (cs : List Instr) :
    (s.withPending cs).pending = cs := rfl
@[simp] theorem State.withPending_choices (cs : List Instr) :
    (s.withPending cs).choices = s.choices := rfl
@[simp] theorem State.withPending_openIndex (cs : List Instr) :
    (s.withPending cs).openIndex = s.openIndex := rfl
@[simp] theorem State.withPending_isMaster (cs : List Instr) :
    (s.withPending cs).isMaster = s.isMaster := rfl
@[simp] theorem State.withPending_pins (cs : List Instr) :
    (s.withPending cs).pins = s.pins := rfl
@[simp] theorem State.withPending_line (cs : List Instr) :
    (s.withPending cs).line = s.line := rfl
@[simp] theorem State.withPending_timer (cs : List Instr) :
    (s.withPending cs).timer = s.timer := rfl
@[simp] theorem State.withPending_prot (cs : List Instr) :
    (s.withPending cs).prot = s.prot := rfl
@[simp] theorem State.withPending_sw (cs : List Instr) :
    (s.withPending cs).sw = s.sw := rfl
@[simp] theorem State.withPending_phone (cs : List Instr) :
    (s.withPending cs).phone = s.phone := rfl
@[simp] theorem State.withPending_alloc (cs : List Instr) :
    (s.withPending cs).alloc = s.alloc := rfl
@[simp] theorem State.withPending_lanes (cs : List Instr) :
    (s.withPending cs).lanes = s.lanes := rfl
@[simp] theorem State.withPending_toll (cs : List Instr) :
    (s.withPending cs).toll = s.toll := rfl
@[simp] theorem State.withPending_journal (cs : List Instr) :
    (s.withPending cs).journal = s.journal := rfl
@[simp] theorem State.withPending_wx (cs : List Instr) :
    (s.withPending cs).wx = s.wx := rfl
@[simp] theorem State.withPending_cond (cs : List Instr) :
    (s.withPending cs).cond = s.cond := rfl
@[simp] theorem State.withPending_sign (cs : List Instr) :
    (s.withPending cs).sign = s.sign := rfl
@[simp] theorem State.withPending_agent (cs : List Instr) :
    (s.withPending cs).agent = s.agent := rfl
@[simp] theorem State.withPending_out (cs : List Instr) :
    (s.withPending cs).out = s.out := rfl
@[simp] theorem State.withPending_period (cs : List Instr) :
    (s.withPending cs).period = s.period := rfl

end Sys2Proof.Machine
end

