-- ==== Sys2Proof/Laws/Frames.lean ====
section
/-! SUPPORT. What each shared operation leaves alone, said once: an operation changes at most the
parts named. A frame of a longer operation is put together from these by `Changes.trans`. -/

namespace Sys2Proof.Machine

-- One theorem at a time: fewer threads, less memory at once.
set_option Elab.async false

/-! ## The relation -/

theorem Changes.refl (ps : List Part) (s : State) : Changes ps s s := by
  intro p _
  cases p <;> rfl

theorem Changes.trans {ps : List Part} {s t u : State} (h : Changes ps s t) (k : Changes ps t u) :
    Changes ps s u := by
  intro p hp
  have a := h p hp
  have b := k p hp
  cases p <;> exact b.trans a

theorem Changes.mono {ps qs : List Part} {s t : State} (h : Changes ps s t) (hs : ps ⊆ qs) :
    Changes qs s t := fun p hp => h p fun hq => hp (hs hq)

theorem Changes.ite {ps : List Part} {s t u : State} {c : Prop} [Decidable c]
    (h : Changes ps s t) (k : Changes ps s u) : Changes ps s (if c then t else u) := by
  by_cases hc : c
  · rw [if_pos hc]; exact h
  · rw [if_neg hc]; exact k

/-- A fold of operations that each keep to `ps`. -/
theorem Changes.foldl {α : Type} {ps : List Part} {f : State → α → State}
    (hf : ∀ s a, Changes ps s (f s a)) (xs : List α) (s : State) :
    Changes ps s (xs.foldl f s) := by
  induction xs generalizing s with
  | nil => exact .refl ps s
  | cons x xs ih => exact (hf s x).trans (ih (f s x))

/-! ## Updates of one block -/

theorem modLine_changes (f) (s : State) : Changes [.line] s (s.modLine f) := by
  intro p hp; cases p <;> first | rfl | exact absurd (by decide) hp
theorem modTimer_changes (f) (s : State) : Changes [.timer] s (s.modTimer f) := by
  intro p hp; cases p <;> first | rfl | exact absurd (by decide) hp
theorem modProt_changes (f) (s : State) : Changes [.prot] s (s.modProt f) := by
  intro p hp; cases p <;> first | rfl | exact absurd (by decide) hp
theorem modSw_changes (f) (s : State) : Changes [.sw] s (s.modSw f) := by
  intro p hp; cases p <;> first | rfl | exact absurd (by decide) hp
theorem modPhone_changes (f) (s : State) : Changes [.phone] s (s.modPhone f) := by
  intro p hp; cases p <;> first | rfl | exact absurd (by decide) hp
theorem modAlloc_changes (f) (s : State) : Changes [.alloc] s (s.modAlloc f) := by
  intro p hp; cases p <;> first | rfl | exact absurd (by decide) hp
theorem modLanes_changes (f) (s : State) : Changes [.lanes] s (s.modLanes f) := by
  intro p hp; cases p <;> first | rfl | exact absurd (by decide) hp
theorem modToll_changes (f) (s : State) : Changes [.toll] s (s.modToll f) := by
  intro p hp; cases p <;> first | rfl | exact absurd (by decide) hp
theorem modJournal_changes (f) (s : State) : Changes [.journal] s (s.modJournal f) := by
  intro p hp; cases p <;> first | rfl | exact absurd (by decide) hp
theorem modWx_changes (f) (s : State) : Changes [.wx] s (s.modWx f) := by
  intro p hp; cases p <;> first | rfl | exact absurd (by decide) hp
theorem modCond_changes (f) (s : State) : Changes [.cond] s (s.modCond f) := by
  intro p hp; cases p <;> first | rfl | exact absurd (by decide) hp
theorem modSign_changes (f) (s : State) : Changes [.sign] s (s.modSign f) := by
  intro p hp; cases p <;> first | rfl | exact absurd (by decide) hp
theorem modAgent_changes (f) (s : State) : Changes [.agent] s (s.modAgent f) := by
  intro p hp; cases p <;> first | rfl | exact absurd (by decide) hp
theorem modOut_changes (f) (s : State) : Changes [.out] s (s.modOut f) := by
  intro p hp; cases p <;> first | rfl | exact absurd (by decide) hp
theorem modPins_changes (f) (s : State) : Changes [.pins] s (s.modPins f) := by
  intro p hp; cases p <;> first | rfl | exact absurd (by decide) hp
theorem modPeriod_changes (f) (s : State) : Changes [.period] s (s.modPeriod f) := by
  intro p hp; cases p <;> first | rfl | exact absurd (by decide) hp
theorem spendOpen_changes (s : State) : Changes [.openIndex] s s.spendOpen := by
  intro p hp; cases p <;> first | rfl | exact absurd (by decide) hp

/-! ## Frames sent -/

theorem sendUplink_changes (f : Frame) (s : State) : Changes [.out] s (sendUplink f s) :=
  modOut_changes _ s

theorem offerOwn_changes (q : QueueName) (f : Frame) (s : State) :
    Changes [.sw] s (offerOwn q f s).1 :=
  modSw_changes (fun _ =>
    (offerFrame s.agent.address.isSome (isIsolated s) false s.timer.number q f s.sw).1) s

theorem countTaken_changes (s : State) : Changes [.sw] s (countTaken s) := modSw_changes _ s

theorem sendToCentre_changes (q : QueueName) (service channel : Octet) (payload : Octets)
    (s : State) :
    Changes [.sw, .out, .openIndex] s (sendToCentre q service channel payload s).1 := by
  have h0 := (spendOpen_changes s).mono (qs := [.sw, .out, .openIndex]) (by decide)
  unfold sendToCentre
  simp only
  split
  · exact h0.trans ((sendUplink_changes _ _).mono (by decide))
  · exact h0.trans ((offerOwn_changes _ _ _).mono (by decide))

/-! ## Conditions -/

theorem offerReport_changes (s : State) : Changes condParts s (offerReport s) := by
  unfold offerReport
  simp only
  split
  · exact .refl _ _
  · exact ((sendToCentre_changes _ _ _ _ s).mono (by decide)).trans
      ((modCond_changes _ _).mono (by decide))

theorem reportTrigger_changes (s : State) : Changes condParts s (reportTrigger s) :=
  .ite (offerReport_changes s) (.refl _ s)

theorem judgeEdge_changes (c : Fin 64) (rise : Bool) (s : State) :
    Changes condParts s (judgeEdge c rise s) := by
  unfold judgeEdge
  simp only
  split
  · exact .refl _ _
  · split
    · exact (modCond_changes _ s).mono (by decide)
    · split
      · exact ((modCond_changes _ s).mono (by decide)).trans (reportTrigger_changes _)
      · exact (modCond_changes _ s).mono (by decide)

theorem changeCondition_changes (judged : Bool) (c : Fin 64) (v : Bool) (s : State) :
    Changes condParts s (changeCondition judged c v s) := by
  unfold changeCondition
  simp only
  split
  · exact .refl _ _
  · refine Changes.trans ?_ ((modSign_changes _ _).mono (by decide))
    exact .ite (((modCond_changes _ s).mono (by decide)).trans (judgeEdge_changes _ _ _))
      ((modCond_changes _ s).mono (by decide))

theorem changeConditions_changes (judged : Bool) (cs : List (Fin 64 × Bool)) (s : State) :
    Changes condParts s (changeConditions judged cs s) :=
  Changes.foldl (f := fun s c => changeCondition judged c.1 c.2 s)
    (fun s c => changeCondition_changes judged c.1 c.2 s) cs s

/-! ## Tolls -/

theorem journalConditions_changes (s : State) : Changes tollParts s (journalConditions s) :=
  (Changes.foldl (fun t c => changeCondition_changes _ c.1 c.2 t) (journalLevels s) s).mono
    (by decide)

theorem journalRaised_changes (before : List (Fin 64 × Bool)) (s : State) :
    Changes [.period] s (journalRaised before s) := modPeriod_changes _ s

theorem journalTake_changes (k : TollKey) (b : Octets) (v : Verdict) (s : State) :
    Changes [.journal] s (journalTake k b v s) := modJournal_changes _ s

theorem journalRemove_changes (k : TollKey) (s : State) :
    Changes [.journal] s (journalRemove k s) := modJournal_changes _ s

theorem answerGantry_changes (a : TollAnswer) (s : State) : Changes [.toll] s (answerGantry a s) :=
  modToll_changes _ s

theorem answerLocally_changes (k : TollKey) (b : Octets) (s : State) :
    Changes tollParts s (answerLocally k b s) :=
  (((answerGantry_changes _ s).mono (by decide)).trans
    ((modToll_changes _ _).mono (by decide))).trans ((journalTake_changes _ _ _ _).mono (by decide))

theorem endPending_changes (p : PendingToll) (s : State) :
    Changes tollParts s (endPending p s) :=
  ((modToll_changes _ s).mono (by decide)).trans (answerLocally_changes _ _ _)

theorem tollDetach_changes (s : State) : Changes tollParts s (tollDetach s) :=
  Changes.foldl (fun s p => (endPending_changes p s).trans ((modToll_changes _ _).mono (by decide)))
    _ s

theorem tollRestart_changes (s : State) : Changes tollParts s (tollRestart s) := by
  refine Changes.foldl (fun s p => ?_) _ s
  refine Changes.trans ?_ ((journalTake_changes p.key p.block _ _).mono (by decide))
  exact ((modToll_changes _ s).mono (by decide)).trans ((modToll_changes _ _).mono (by decide))

theorem drainLoop_changes (ks : List TollKey) (s : State) : Changes tollParts s (drainLoop ks s) := by
  induction ks generalizing s with
  | nil => exact .refl _ _
  | cons k ks ih =>
    unfold drainLoop
    split
    · exact ih s
    · next r _ =>
      have h := (sendToCentre_changes .tollDeferred svcToll 3 (encodeDeferred (offered r)) s).mono
        (qs := tollParts) (by decide)
      simp only
      split
      · exact h.trans ((modJournal_changes _ _).mono (by decide))
      · exact (h.trans ((modJournal_changes _ _).mono (by decide))).trans (ih _)
      · exact h.trans (ih _)

theorem laneReport_changes (b : Octets) (s : State) : Changes tollParts s (laneReport b s) := by
  unfold laneReport
  simp only
  split
  · have h := (sendToCentre_changes .tollLive svcToll 2 b s).mono (qs := tollParts) (by decide)
    split
    · exact h.trans ((modToll_changes _ _).mono (by decide))
    · exact h.trans ((modToll_changes _ _).mono (by decide))
  · exact (modToll_changes _ s).mono (by decide)

theorem newTransaction_changes (b : Octets) (s : State) :
    Changes tollParts s (newTransaction b s) := by
  unfold newTransaction
  simp only
  split
  · exact ((modToll_changes _ s).mono (by decide)).trans (answerLocally_changes _ _ _)
  · split
    · exact answerLocally_changes _ _ _
    · have h := ((modToll_changes (fun t => { t with
          pendingTable := t.pendingTable ++ [⟨blockKey b, b, s.timer.number, 0⟩]
          forwarded := bump t.forwarded }) s).mono (qs := tollParts) (by decide)).trans
          ((sendToCentre_changes .tollLive svcToll 1 b _).mono (by decide))
      split
      · exact (h.trans ((modToll_changes _ _).mono (by decide))).trans (endPending_changes _ _)
      · exact h

theorem answerJournalled_changes (r : JournalRecord) (s : State) :
    Changes tollParts s (answerJournalled r s) := by
  unfold answerJournalled
  simp only
  split
  · exact ((answerGantry_changes _ s).mono (by decide)).trans
      ((modJournal_changes _ _).mono (by decide))
  · exact (answerGantry_changes _ s).mono (by decide)

theorem judgeCharge_changes (b : Octets) (s : State) : Changes tollParts s (judgeCharge b s) := by
  unfold judgeCharge
  simp only
  have h := (modToll_changes (fun t => { t with receivedCharge := bump t.receivedCharge }) s).mono
    (qs := tollParts) (by decide)
  split
  · exact (h.trans ((modToll_changes _ _).mono (by decide))).trans
      ((answerGantry_changes _ _).mono (by decide))
  · split
    · exact h.trans ((modToll_changes _ _).mono (by decide))
    · split
      · exact (h.trans ((modToll_changes _ _).mono (by decide))).trans
          (answerJournalled_changes _ _)
      · exact h.trans (newTransaction_changes _ _)

theorem judgeRun_changes (run : Octets) (n : Nat) (s : State) :
    Changes tollParts s (judgeRun run n s) := by
  unfold judgeRun
  split
  · exact (modToll_changes _ s).mono (by decide)
  · split
    · exact (modToll_changes _ s).mono (by decide)
    · split
      · exact judgeCharge_changes _ _
      · split
        · exact laneReport_changes _ _
        · exact (modToll_changes _ s).mono (by decide)

theorem matchAnswer_changes (k : TollKey) (v : Verdict) (b : Quad) (s : State) :
    Changes tollParts s (matchAnswer k v b s) := by
  unfold matchAnswer
  simp only
  split
  · exact (((modToll_changes _ s).mono (by decide)).trans
      ((answerGantry_changes _ _).mono (by decide))).trans ((modToll_changes _ _).mono (by decide))
  · split
    · exact ((journalRemove_changes k s).mono (by decide)).trans ((modToll_changes _ _).mono (by decide))
    · exact (modToll_changes _ s).mono (by decide)

theorem settleRecord_changes (k : TollKey) (s : State) :
    Changes tollParts s (settleRecord k s) := by
  unfold settleRecord
  split
  · exact ((journalRemove_changes k s).mono (by decide)).trans ((modJournal_changes _ _).mono (by decide))
  · exact (modJournal_changes _ s).mono (by decide)

theorem takeTollFrame_changes (via : Via) (channel : Octet) (p : Octets) (s : State) :
    Changes tollParts s (takeTollFrame via channel p s) := by
  unfold takeTollFrame
  split
  · exact matchAnswer_changes _ _ _ _
  · exact settleRecord_changes _ _
  · exact (modToll_changes _ s).mono (by decide)

/-! ## Telephones and the Slot Allocator -/

/-- A hand-over that keeps to them. -/
def HandKeeps (hand : Hand) : Prop := ∀ t m s, Changes callParts s (hand t m s)

variable {hand : Hand} (hh : HandKeeps hand)
include hh

theorem sendVsig_changes (t : Target) (dest : Octet) (m : VsigMsg) (s : State) :
    Changes callParts s (sendVsig hand t dest m s) := by
  unfold sendVsig
  split
  · exact ((countTaken_changes s).mono (by decide)).trans (hh _ _ _)
  · exact ((spendOpen_changes s).mono (by decide)).trans
      ((offerOwn_changes _ _ _).mono (by decide))

omit hh in
theorem modPos_changes (q : Fin 4) (f) (s : State) : Changes callParts s (modPos q f s) :=
  (modPhone_changes _ s).mono (by decide)

omit hh in
theorem modPlan_changes (n : Fin 240) (f) (s : State) : Changes callParts s (modPlan n f s) :=
  (modAlloc_changes _ s).mono (by decide)

omit hh in
theorem modCall_changes (n : Fin 240) (q : Fin 4) (f) (s : State) :
    Changes callParts s (modCall n q f s) :=
  (modAlloc_changes _ s).mono (by decide)

omit hh in
theorem talkIfHeld_changes (q : Fin 4) (s : State) : Changes callParts s (talkIfHeld q s) :=
  .ite (modPos_changes _ _ _) (.refl _ _)

theorem offerRequest_changes (q : Fin 4) (s : State) :
    Changes callParts s (offerRequest hand q s) :=
  ((modPos_changes _ _ s).trans ((modPhone_changes _ _).mono (by decide))).trans
    (sendVsig_changes hh _ _ _ _)

theorem offerRelease_changes (q : Fin 4) (s : State) :
    Changes callParts s (offerRelease hand q s) :=
  ((modPhone_changes _ s).mono (by decide)).trans (sendVsig_changes hh _ _ _ _)

theorem enterRequesting_changes (q : Fin 4) (s : State) :
    Changes callParts s (enterRequesting hand q s) :=
  ((modPos_changes _ _ s).trans (offerRequest_changes hh _ _)).trans (talkIfHeld_changes _ _)

theorem offHookIdle_changes (q : Fin 4) (s : State) :
    Changes callParts s (offHookIdle hand q s) :=
  .ite (enterRequesting_changes hh q s) (modPos_changes _ _ _)

theorem takeOffHook_changes (q : Fin 4) (s : State) :
    Changes callParts s (takeOffHook hand q s) := by
  unfold takeOffHook
  split
  · exact offHookIdle_changes hh q s
  · exact ((modPos_changes _ _ s).trans ((modPhone_changes _ _).mono (by decide))).trans
      (.ite (enterRequesting_changes hh _ _) (modPos_changes _ _ _))
  · exact .refl _ _

theorem endClearing_changes (q : Fin 4) (s : State) :
    Changes callParts s (endClearing hand q s) :=
  (modPos_changes _ _ s).trans (.ite (offHookIdle_changes hh _ _) (.refl _ _))

theorem enterClearing_changes (q : Fin 4) (s : State) :
    Changes callParts s (enterClearing hand q s) :=
  ((modPos_changes _ _ s).trans (offerRelease_changes hh _ _)).trans
    (.ite (endClearing_changes hh _ _) (.refl _ _))

theorem takeOnHook_changes (q : Fin 4) (s : State) :
    Changes callParts s (takeOnHook hand q s) := by
  unfold takeOnHook
  split
  · exact enterClearing_changes hh q s
  · exact enterClearing_changes hh q s
  · exact enterClearing_changes hh q s
  · exact modPos_changes _ _ _
  · exact modPos_changes _ _ _
  · exact .refl _ _

theorem takePress_changes (q : Fin 4) (s : State) :
    Changes callParts s (takePress hand q s) := by
  unfold takePress
  simp only
  have hl := (modPos_changes q (fun p => { p with priority := true }) s).trans
    ((modPhone_changes (fun p => { p with priorityPresses := bump p.priorityPresses }) _).mono
      (by decide))
  split
  · exact .refl _ _
  · split
    · exact hl.trans (offerRequest_changes hh _ _)
    · exact hl.trans (offerRequest_changes hh _ _)
    · exact hl
    · exact hl
    · exact .refl _ _

theorem examinePosition_changes (q : Fin 4) (s : State) :
    Changes callParts s (examinePosition hand q s) := by
  unfold examinePosition
  simp only
  split
  · exact talkIfHeld_changes _ _
  · exact talkIfHeld_changes _ _
  · exact .ite ((modPos_changes _ _ s).trans ((modPhone_changes _ _).mono (by decide)))
      (.refl _ _)
  · exact .ite (endClearing_changes hh _ _) (.refl _ _)
  · exact .refl _ _

theorem switchBanks_changes (s : State) : Changes callParts s (switchBanks hand s) :=
  ((modPhone_changes _ s).mono (by decide)).trans
    (Changes.foldl (fun s q => examinePosition_changes hh q s) _ _)

theorem switchIfDue_changes (s : State) : Changes callParts s (switchIfDue hand s) :=
  .ite (switchBanks_changes hh s) (.refl _ s)

theorem answerPlan_changes (late : Bool) (v : Octet) (s : State) :
    Changes callParts s (answerPlan hand late v s) := sendVsig_changes hh _ _ _ _

theorem takePlanUpdate_changes (via : Via) (source v : Octet) (c : Half) (slots : Octets)
    (s : State) : Changes callParts s (takePlanUpdate hand via source v c slots s) := by
  have hp : ∀ f s, Changes callParts s (State.modPhone f s) := fun f s =>
    (modPhone_changes f s).mono (by decide)
  unfold takePlanUpdate
  split
  · exact hp _ _
  · split
    · exact hp _ _
    · split
      · exact hp _ _
      · split
        · exact (hp _ _).trans (answerPlan_changes hh _ _ _)
        · split
          · split
            · exact (hp _ _).trans (answerPlan_changes hh _ _ _)
            · exact (hp _ _).trans (answerPlan_changes hh _ _ _)
          · exact hp _ _

theorem queuedAt_changes (q : Fin 4) (k : Nat) (s : State) :
    Changes callParts s (queuedAt hand q k s) := by
  unfold queuedAt
  split
  · exact modPos_changes _ _ _
  · exact modPos_changes _ _ _
  · exact modPos_changes _ _ _
  · exact (modPos_changes _ _ _).trans (enterRequesting_changes hh _ _)
  · exact (modPhone_changes _ s).mono (by decide)

theorem takeCallQueued_changes (r : CallRef) (k : Nat) (s : State) :
    Changes callParts s (takeCallQueued hand r k s) := by
  unfold takeCallQueued
  split
  · exact (modPhone_changes _ s).mono (by decide)
  · exact .ite (queuedAt_changes hh _ _ _) ((modPhone_changes _ s).mono (by decide))

theorem phoneTake_changes (via : Via) (source : Octet) (m : VsigMsg) (s : State) :
    Changes callParts s (phoneTake hand via source m s) := by
  unfold phoneTake
  split
  · exact takeCallQueued_changes hh _ _ _
  · exact takePlanUpdate_changes hh _ _ _ _ _ _
  · exact (modPhone_changes _ s).mono (by decide)

omit hh in
theorem clearBanks_changes (s : State) : Changes callParts s (clearBanks s) :=
  (modPhone_changes _ s).mono (by decide)

theorem detachPosition_changes (q : Fin 4) (s : State) :
    Changes callParts s (detachPosition hand q s) := by
  unfold detachPosition
  split
  · exact modPos_changes _ _ _
  · exact modPos_changes _ _ _
  · exact modPos_changes _ _ _
  · exact endClearing_changes hh _ _
  · exact .refl _ _

theorem phoneDetach_changes (s : State) : Changes callParts s (phoneDetach hand s) :=
  (clearBanks_changes s).trans (Changes.foldl (fun s q => detachPosition_changes hh q s) _ _)

theorem phoneRelink_changes (s : State) : Changes callParts s (phoneRelink hand s) :=
  Changes.foldl (fun s q => Changes.ite ((modPos_changes q _ s).trans
    (enterRequesting_changes hh q _)) (.refl _ s)) _ _

theorem phoneRestart_changes (s : State) : Changes callParts s (phoneRestart hand s) := by
  have h1 : Changes callParts s ((indices 4).foldl (fun s q => releaseIfBusy hand q s) s) :=
    Changes.foldl (fun s q => Changes.ite (.refl _ s) (offerRelease_changes hh q s)) _ _
  exact ((h1.trans (clearBanks_changes _)).trans ((modPhone_changes _ _).mono (by decide))).trans
    (Changes.foldl (fun s q => Changes.ite (offHookIdle_changes hh q s) (.refl _ s)) _ _)

theorem issuePlan_changes (n : Fin 240) (k : Nat) (es : PlanEntries) (s : State) :
    Changes callParts s (issuePlan hand n k es s) :=
  ((modPlan_changes _ _ s).trans ((modAlloc_changes _ _).mono (by decide))).trans
    (sendVsig_changes hh _ _ _ _)

theorem planCalls_changes (n : Fin 240) (s : State) :
    Changes callParts s (planCalls hand n s) := issuePlan_changes hh _ _ _ _

theorem grant_changes (n : Fin 240) (q : Fin 4) (p : Bool) (s : State) :
    Changes callParts s (grant hand n q p s) := by
  unfold grant
  split
  · exact ((modAlloc_changes _ s).mono (by decide)).trans (planCalls_changes hh _ _)
  · exact .refl _ _

theorem grantQueue_changes (k : Nat) (s : State) : Changes callParts s (grantQueue hand k s) := by
  induction k generalizing s with
  | zero => exact .refl _ _
  | succ k ih =>
    unfold grantQueue
    split
    · exact .refl _ _
    · exact .ite ((((modAlloc_changes _ s).mono (by decide)).trans (grant_changes hh _ _ _ _)).trans
        (ih _)) (.refl _ _)

theorem grantFromQueue_changes (s : State) : Changes callParts s (grantFromQueue hand s) :=
  grantQueue_changes hh _ _

theorem grantAfter_changes {s t : State} (h : Changes callParts s t) :
    Changes callParts s (grantAfter hand s t) :=
  .ite h (h.trans (grantFromQueue_changes hh t))

theorem takeCallRequest_changes (n : Fin 240) (q : Fin 4) (p : Bool) (s : State) :
    Changes callParts s (takeCallRequest hand n q p s) := by
  have ha : ∀ f s, Changes callParts s (State.modAlloc f s) := fun f s =>
    (modAlloc_changes f s).mono (by decide)
  unfold takeCallRequest
  split
  · exact (modCall_changes _ _ _ s).trans (planCalls_changes hh _ _)
  · split
    · exact (ha _ s).trans (sendVsig_changes hh _ _ _ _)
    · split
      · exact grant_changes hh _ _ _ _
      · split
        · exact (ha _ s).trans (sendVsig_changes hh _ _ _ _)
        · exact (ha _ s).trans (sendVsig_changes hh _ _ _ _)

theorem takeCallRelease_changes (n : Fin 240) (q : Fin 4) (s : State) :
    Changes callParts s (takeCallRelease hand n q s) :=
  .ite ((modCall_changes _ _ _ s).trans (planCalls_changes hh _ _))
    ((modAlloc_changes _ s).mono (by decide))

theorem takePlanAccept_changes (n : Fin 240) (v : Octet) (s : State) :
    Changes callParts s (takePlanAccept hand n v s) := by
  unfold takePlanAccept
  simp only
  split
  · unfold acceptPlan
    simp only
    refine grantAfter_changes hh ?_
    have h := (modPlan_changes n (fun r => { r with
      accepted := (‹InFlight›).plan, acceptedSeen := (‹InFlight›).seen
      comeRound := roundDone s.timer.number (‹InFlight›).plan (‹InFlight›).seen
      inFlight := none }) s).trans ((modAlloc_changes (fun a => { a with
        calls := (a.calls.map (settleCall n (‹InFlight›).plan.entries)).filter fun e =>
          !callEnded n (‹InFlight›).plan.entries e }) _).mono (by decide))
    exact .ite (h.trans ((modAlloc_changes _ _).mono (by decide))) h
  · exact .ite (.refl _ _) ((modAlloc_changes _ s).mono (by decide))

theorem takePlanLate_changes (n : Fin 240) (v : Octet) (s : State) :
    Changes callParts s (takePlanLate hand n v s) := by
  unfold takePlanLate
  split
  · exact issuePlan_changes hh _ _ _ _
  · exact (modAlloc_changes _ s).mono (by decide)

omit hh in
theorem markPresent_changes (o : Octet) (s : State) : Changes callParts s (markPresent o s) := by
  unfold markPresent
  split
  · exact .refl _ _
  · exact modPlan_changes _ _ _

omit hh in
theorem renewStatus_changes (n : Fin 240) (q : Fin 4) (s : State) :
    Changes callParts s (renewStatus n q s) :=
  .ite (modCall_changes _ _ _ _) ((modAlloc_changes _ s).mono (by decide))

theorem allocMessage_changes (source : Octet) (n : Fin 240) (m : VsigMsg) (s : State) :
    Changes callParts s (allocMessage hand source n m s) := by
  have hi : ∀ s, Changes callParts s (ignoreAlloc s) := fun s =>
    (modAlloc_changes _ s).mono (by decide)
  unfold allocMessage
  split
  · split
    · exact takeCallRequest_changes hh _ _ _ _
    · exact hi _
  · split
    · exact takeCallRelease_changes hh _ _ _
    · exact hi _
  · split
    · exact Changes.foldl (fun s q => renewStatus_changes n q s) _ _
    · exact hi _
  · exact takePlanAccept_changes hh _ _ _
  · exact takePlanLate_changes hh _ _ _
  · exact hi _

theorem allocTake_changes (source : Octet) (m : VsigMsg) (s : State) :
    Changes callParts s (allocTake hand source m s) := by
  unfold allocTake
  split
  · exact (modAlloc_changes _ s).mono (by decide)
  · exact (markPresent_changes _ _).trans (allocMessage_changes hh _ _ _ _)

theorem resendPlan_changes (n : Fin 240) (s : State) :
    Changes callParts s (resendPlan hand n s) := by
  unfold resendPlan
  split
  · exact .refl _ _
  · split
    · exact ((modAlloc_changes _ s).mono (by decide)).trans (issuePlan_changes hh _ _ _ _)
    · have h : Changes callParts s (modPlan n (fun r =>
          { r with inFlight := none, absent := true, quarantine := some 0 })
          (s.modAlloc fun a => { a with
            calls := a.calls.filter fun e => e.node != n
            waiting := a.waiting.filter fun w => w.node != n
            slots := a.slots.map (markSlot n)
            nodesAbsent := bump a.nodesAbsent })) :=
        ((modAlloc_changes _ s).mono (by decide)).trans (modPlan_changes _ _ _)
      unfold declareAbsent
      simp only
      exact .ite h (h.trans (grantFromQueue_changes hh _))

theorem endQuarantine_changes (n : Fin 240) (s : State) :
    Changes callParts s (endQuarantine hand n s) :=
  grantAfter_changes hh (((modAlloc_changes _ s).mono (by decide)).trans (modPlan_changes _ _ _))

theorem superviseCall_changes (n : Fin 240) (q : Fin 4) (s : State) :
    Changes callParts s (superviseCall hand n q s) :=
  ((modCall_changes _ _ _ s).trans ((modAlloc_changes _ _).mono (by decide))).trans
    (planCalls_changes hh _ _)

theorem setCapacity_changes (c : Nat) (s : State) :
    Changes callParts s (setCapacity hand c s).1 := by
  unfold setCapacity
  simp only
  split
  · exact .refl _ _
  · have h := (modAlloc_changes (fun a => { a with capacity := min c 48 }) s).mono
      (qs := callParts) (by decide)
    exact .ite (h.trans (grantFromQueue_changes hh _)) h

omit hh in
theorem handDeep_keeps (k : Nat) : HandKeeps (handDeep k) := by
  induction k with
  | zero => exact fun _ _ s => .refl _ s
  | succ k ih =>
    intro t m s
    cases t
    · exact phoneTake_changes ih _ _ _ _
    · exact allocTake_changes ih _ _ _

omit hh in
/-- The node's own hand-over keeps to call signalling. -/
theorem hand_keeps : HandKeeps Machine.hand := handDeep_keeps 64

omit hh

/-! ## Reachability and protection -/

theorem detach_changes (s : State) : Changes reachParts s (detach s) := by
  unfold detach
  have h1 := (modProt_changes (fun p => { p with handed := false }) s).mono (qs := reachParts)
    (by decide)
  have h2 := h1.trans ((phoneDetach_changes hand_keeps _).mono (by decide))
  have h3 := h2.trans ((tollDetach_changes _).mono (by decide))
  exact (h3.trans ((modJournal_changes _ _).mono (by decide))).trans
    ((changeCondition_changes _ _ _ _).mono (by decide))

theorem relink_changes (s : State) : Changes reachParts s (relink s) := by
  unfold relink
  have h1 := (modProt_changes (fun p => { p with handed := true }) s).mono (qs := reachParts)
    (by decide)
  have h2 := h1.trans ((phoneRelink_changes hand_keeps _).mono (by decide))
  exact (h2.trans ((reportTrigger_changes _).mono (by decide))).trans
    ((changeCondition_changes _ _ _ _).mono (by decide))

theorem updateReach_changes (s : State) : Changes [.prot] s (updateReach s) := modProt_changes _ s

theorem handReach_changes (s : State) : Changes reachParts s (handReach s) :=
  .ite (.refl _ _) (.ite (relink_changes s) (detach_changes s))

theorem dropHeldS_changes (s : State) : Changes [.sw, .prot] s (dropHeldS s) := by
  unfold dropHeldS
  split
  · exact .refl _ _
  · exact ((modSw_changes _ s).mono (by decide)).trans ((modProt_changes _ _).mono (by decide))

theorem isolateTiming_changes (s : State) : Changes [.timer, .prot] s (isolateTiming s) := by
  unfold isolateTiming
  split
  · exact .refl _ _
  · have h : Changes [.timer, .prot] s
        (if s.timer.holdover then s else s.modTimer enterHoldover) :=
      .ite (.refl _ _) ((modTimer_changes _ s).mono (by decide))
    exact (h.trans ((modProt_changes _ _).mono (by decide))).trans
      ((updateReach_changes _).mono (by decide))

/-- The parts that a move of the protection state reaches. -/
theorem moveProtection_changes (new : ProtState) (s : State) :
    Changes [.timer, .prot, .sw] s (moveProtection new s) := by
  unfold moveProtection
  have h1 : ∀ f, Changes [.timer, .prot, .sw] s
      (State.modProt f (if s.prot.state = .ring then dropHeldS s else s)) := fun f =>
    (Changes.ite ((dropHeldS_changes s).mono (by decide)) (.refl _ _)).trans
      ((modProt_changes f _).mono (by decide))
  have h2 : ∀ f g c, [Decidable c] → Changes [.timer, .prot, .sw] s
      (if c then State.modProt f (if s.prot.state = .ring then dropHeldS s else s)
       else State.modTimer g (State.modProt f
        (if s.prot.state = .ring then dropHeldS s else s))) := fun f g c _ =>
    .ite (h1 f) ((h1 f).trans ((modTimer_changes g _).mono (by decide)))
  exact .ite (((h2 _ _ _).trans ((modSw_changes _ _).mono (by decide))).trans
    ((isolateTiming_changes _).mono (by decide))) (h2 _ _ _)

theorem settleProtection_changes (s : State) :
    Changes [.timer, .prot, .sw] s (settleProtection s) :=
  .ite (.ite ((modSw_changes _ s).mono (by decide)) (.refl _ _)) (moveProtection_changes _ _)

theorem protectionConditions_changes (s : State) :
    Changes condParts s (protectionConditions s) := changeConditions_changes _ _ s

/-- What the end of a cycle reaches through protection, reachability and the conditions. -/
theorem settleCycle_changes (s : State) : Changes settleParts s (settleCycle s) :=
  ((((settleProtection_changes s).mono (by decide)).trans
    ((handReach_changes _).mono (by decide))).trans
    ((protectionConditions_changes _).mono (by decide))).trans
    ((journalConditions_changes _).mono (by decide))

theorem modPort_changes (p : Port) (f) (s : State) : Changes [.line] s (modPort p f s) := by
  cases p <;> exact modLine_changes _ s

theorem changePort_changes (p : Port) (f) (s : State) : Changes [.line] s (changePort p f s) :=
  modPort_changes p _ s

/-! ## Cycles sent, and the passing of a period -/

/-- What sending a cycle reaches. -/
abbrev sendParts : List Part := [.out, .period]

theorem transmit_changes (p : Port) (cycle : Octets) (s : State) :
    Changes sendParts s (transmit p cycle s) := by
  cases p <;> exact ((modOut_changes _ s).mono (by decide)).trans
    ((modPeriod_changes _ _).mono (by decide))

@[simp] theorem sentAt_transmit (p q : Port) (cycle : Octets) (s : State) :
    sentAt (transmit p cycle s) q = if p = q then cycle else sentAt s q := by
  cases p <;> cases q <;> rfl

theorem reflagPort_changes (p : Port) (s : State) : Changes sendParts s (reflagPort p s) :=
  .ite (transmit_changes _ _ _) (.refl _ _)

theorem unlessFed_changes {ps : List Part} (p : Port) {send : State → State}
    (h : ∀ s, Changes ps s (send s)) (s : State) : Changes ps s (unlessFed p send s) :=
  .ite (.refl _ _) (h s)

@[simp] theorem unlessFed_of_fed {p : Port} {s : State} (send : State → State)
    (h : isFed s p = true) : unlessFed p send s = s := by simp [unlessFed, h]

theorem feedPort_changes (p : Port) (s : State) : Changes sendParts s (feedPort p s) :=
  .ite (.refl _ _) (unlessFed_changes p (fun _ => transmit_changes _ _ _) s)

theorem quiet_changes (s : State) : Changes [.out, .lanes] s (quiet s) :=
  .ite (.refl _ _) (((modOut_changes _ s).mono (by decide)).trans
    ((modLanes_changes _ _).mono (by decide)))

theorem takeNumber_changes (s : State) : Changes [.timer, .period] s (takeNumber s) :=
  (Changes.ite ((modTimer_changes _ s).mono (by decide)) (.refl _ _)).trans
    ((modPeriod_changes _ _).mono (by decide))

/-- The state that settling a cycle leaves, but for the rows it queues. -/
theorem settled_changes (s : State) :
    Changes (settleParts ++ [.lanes, .period]) s
      (quiet (reflagPort .e (reflagPort .w (settleCycle s)))) :=
  ((((settleCycle_changes s).mono (by decide)).trans
    ((reflagPort_changes _ _).mono (by decide))).trans
    ((reflagPort_changes _ _).mono (by decide))).trans ((quiet_changes _).mono (by decide))

/-! ## The Management Agent -/

theorem respond_changes (h : Head) (r : Result) (s : State) :
    Changes respondParts s (respond h r s) := by
  unfold respond
  simp only
  have h0 := ((modAgent_changes (fun a => { a with responsesSent := bump a.responsesSent }) s).mono
    (qs := respondParts) (by decide)).trans ((spendOpen_changes _).mono (by decide))
  split
  · exact h0.trans ((sendUplink_changes _ _).mono (by decide))
  · split
    · exact .ite (h0.trans ((sendUplink_changes _ _).mono (by decide)))
        (h0.trans ((modSw_changes _ _).mono (by decide)))
    · exact h0.trans ((offerOwn_changes _ _ _).mono (by decide))

/-- A request whose rule keeps to `ps` keeps to `ps` and the parts of a response. -/
theorem execRequest_changes {ps : List Part} (hps : respondParts ⊆ ps) (h : Head) (code : Nat)
    (me : Instr) {body : State → State} (hb : ∀ s, Changes ps s (body s)) (s : State) :
    Changes ps s (execRequest h code me body s) := by
  unfold execRequest
  simp only
  have hag : Part.agent ∈ ps := hps (by decide)
  have ha : ∀ f s, Changes ps s (State.modAgent f s) := fun f s =>
    (modAgent_changes f s).mono (by simpa using hag)
  refine Changes.trans ?_ (ha _ _)
  split
  · exact (ha _ s).trans ((respond_changes _ _ _).mono hps)
  · exact (ha _ s).trans (hb _)

theorem answering_changes {ps : List Part} (hps : respondParts ⊆ ps) (h : Head)
    {run : State → State × Result} (hr : ∀ s, Changes ps s (run s).1) (s : State) :
    Changes ps s (answering h run s) := (hr s).trans ((respond_changes _ _ _).mono hps)

theorem answeringDone_changes {ps : List Part} (hps : respondParts ⊆ ps) (h : Head)
    {f : State → State} (hf : ∀ s, Changes ps s (f s)) (s : State) :
    Changes ps s (answeringDone h f s) := (hf s).trans ((respond_changes _ _ _).mono hps)

end Sys2Proof.Machine
end

