-- ==== Sys2Proof/Laws/Ops.lean ====
section
/-! SUPPORT. What the small shared operations do: tables, counts, queues, discards, the page store. -/

namespace Sys2Proof

-- One theorem at a time: fewer threads, less memory at once.
set_option Elab.async false

/-! ## Tables and counts -/

@[simp] theorem Tab.get_set {α : Type} {n : Nat} (t : Tab α n) (i j : Fin n) (x : α) :
    (t.set i x).get j = if i = j then x else t.get j := by
  simp [Tab.get, Tab.set, List.getElem_set, Fin.ext_iff]; rfl

@[simp] theorem Tab.get_modify {α : Type} {n : Nat} (t : Tab α n) (i j : Fin n) (f : α → α) :
    (t.modify i f).get j = if i = j then f (t.get j) else t.get j := by
  unfold Tab.modify
  rw [Tab.get_set]
  split
  · next h => rw [h]
  · rfl

@[simp] theorem Tab.get_fill {α : Type} {n : Nat} (x : α) (i : Fin n) :
    (Tab.fill n x).get i = x := by simp [Tab.get, Tab.fill]

@[simp] theorem Tab.get_map {α β : Type} {n : Nat} (f : α → β) (t : Tab α n) (i : Fin n) :
    (t.map f).get i = f (t.get i) := by simp [Tab.get, Tab.map]; rfl

/-- Two tables with the same entries are the same table. -/
theorem Tab.ext_get {α : Type} {n : Nat} {t u : Tab α n} (h : ∀ i, t.get i = u.get i) : t = u := by
  obtain ⟨a, ha⟩ := t
  obtain ⟨b, hb⟩ := u
  have : a = b := by
    refine List.ext_getElem (ha.trans hb.symm) fun k hk _ => ?_
    simpa [Tab.get] using h ⟨k, ha ▸ hk⟩
  subst this
  rfl

@[simp] theorem Tab.get_mk {α : Type} {n : Nat} (f : Fin n → α) (h) (i : Fin n) :
    (Tab.mk ((indices n).map f) h : Tab α n).get i = f i := by simp [Tab.get, indices]; rfl

theorem bump_of_lt {n : Nat} (h : n < countMax) : bump n = n + 1 := by simp [bump, h]

theorem bump_le {n : Nat} : n ≤ bump n := by unfold bump; split <;> omega

namespace Machine

/-! ## Outcomes -/

@[simp] theorem whenever_true (f : State → State) (s : State) :
    whenever true f s = .next (f s) := rfl

@[simp] theorem whenever_false (f : State → State) (s : State) : whenever false f s = .next s := rfl

/-- An event command always answers a next state. -/
theorem whenever_next (c : Bool) (f : State → State) (s : State) :
    whenever c f s = .next (if c then f s else s) := rfl

/-! ## Queues and discards -/

@[simp] theorem queueFrames_setQueue (sw : FrameSwitch) (q r : QueueName) (fs : List Frame) :
    queueFrames (setQueue q fs sw) r = if q = r then fs else queueFrames sw r := by
  cases q <;> cases r <;> rfl

@[simp] theorem queueFrames_recordDiscard (r : DiscardRecord) (sw : FrameSwitch) (q : QueueName) :
    queueFrames (recordDiscard r sw) q = queueFrames sw q := by cases q <;> rfl

@[simp] theorem queueFrames_discardFrame (c : Half) (r : DiscardReason) (p : Place) (f : Frame)
    (sw : FrameSwitch) (q : QueueName) :
    queueFrames (discardFrame c r p f sw) q = queueFrames sw q := queueFrames_recordDiscard _ _ _

@[simp] theorem queueFrames_discardAll (c : Half) (r : DiscardReason) (p : Place) (fs : List Frame)
    (sw : FrameSwitch) (q : QueueName) :
    queueFrames (discardAll c r p fs sw) q = queueFrames sw q := by
  unfold discardAll
  induction fs generalizing sw with
  | nil => rfl
  | cons f fs ih => exact (ih _).trans (queueFrames_discardFrame _ _ _ _ _ _)

/-- A discard record joins at the head, and eight are kept (R51). -/
theorem recordDiscard_records (r : DiscardRecord) (sw : FrameSwitch) :
    (recordDiscard r sw).records = (r :: sw.records).take 8 := rfl

/-- What an offer can do to a queue's length: nothing that outgrows the capacity. -/
theorem offerFrame_bounded (assigned isolated ofCentre : Bool) (c : Half) (q : QueueName) (f : Frame)
    (sw : FrameSwitch) (h : ∀ r, (queueFrames sw r).length ≤ capacityOf r) (r : QueueName) :
    (queueFrames (offerFrame assigned isolated ofCentre c q f sw).1 r).length ≤ capacityOf r := by
  have hr := h r
  unfold offerFrame
  split
  · simpa using hr
  split
  · simpa using hr
  split
  · simpa using hr
  split
  · split
    · simpa using hr
    · unfold offerFull
      cases q <;> simp only [queueFrames_setQueue, queueFrames_discardAll, queueFrames_discardFrame]
      · split
        · subst_vars; simp only [List.length_append, List.length_dropLast, List.length_singleton]
          have : (queueFrames sw .alarm).length ≤ 4 := hr
          have : sw.alarm.length ≤ 4 := this
          show sw.alarm.length - 1 + 1 ≤ 4
          omega
        · exact hr
      · exact hr
      · exact hr
      · exact hr
      · exact hr
      · exact hr
      · split
        · subst_vars; simp only [List.length_append, List.length_drop, List.length_singleton]
          have : (queueFrames sw .wx).length ≤ 8 := hr
          have : sw.wx.length ≤ 8 := this
          show sw.wx.length - 1 + 1 ≤ 8
          omega
        · exact hr
  · next hl =>
    simp only [queueFrames_setQueue]
    split
    · next he => subst he; simp; omega
    · exact hr

/-! ## The page store (R186) -/

theorem storeWf_nil : storeWf [] = true := by decide

/-- Every cell of a store lies past `a`. -/
def pastAll (a : Nat) (m : List Host.Cell) : Prop := ∀ c ∈ m, a < c.1

theorem storeWf_cons {k : Nat} {v : Octet} {m : List Host.Cell} :
    storeWf ((k, v) :: m) = true ↔ pastAll k m ∧ k < 32768 ∧ v ≠ 0 ∧ storeWf m = true := by
  simp only [storeWf, pastAll, List.map_cons, List.pairwise_cons, List.mem_map, List.all_cons,
    Bool.and_eq_true, decide_eq_true_eq, bne_iff_ne, ne_eq]
  constructor
  · rintro ⟨⟨h1, h2⟩, ⟨h3, h4⟩, h5⟩
    exact ⟨fun c hc => h1 c.1 ⟨c, hc, rfl⟩, h3, h4, h2, h5⟩
  · rintro ⟨h1, h3, h4, h2, h5⟩
    exact ⟨⟨fun x ⟨c, hc, e⟩ => e ▸ h1 c hc, h2⟩, ⟨h3, h4⟩, h5⟩

theorem storeRead_past {a : Nat} {m : List Host.Cell} (h : pastAll a m) : storeRead m a = 0 := by
  induction m with
  | nil => rfl
  | cons c m ih =>
    obtain ⟨k, v⟩ := c
    have hk : a < k := h (k, v) (by simp)
    rw [storeRead, if_neg (by omega)]
    exact ih fun c hc => h c (by simp [hc])

theorem pastAll_write {a b : Nat} {v : Octet} {m : List Host.Cell} (h : pastAll a m) (hb : a < b) :
    pastAll a (storeWrite m b v) := by
  induction m with
  | nil => unfold storeWrite; split <;> simp [pastAll, hb]
  | cons c m ih =>
    obtain ⟨k, w⟩ := c
    have hk : a < k := h (k, w) (by simp)
    have hm : pastAll a m := fun c hc => h c (by simp [hc])
    have hi := ih hm
    unfold storeWrite
    split
    · split
      · exact h
      · intro c hc; simp only [List.mem_cons] at hc; rcases hc with rfl | rfl | hc
        · exact hb
        · exact hk
        · exact hm c hc
    · split
      · split
        · exact hm
        · intro c hc; simp only [List.mem_cons] at hc; rcases hc with rfl | hc
          · exact hb
          · exact hm c hc
      · intro c hc; simp only [List.mem_cons] at hc; rcases hc with rfl | hc
        · exact hk
        · exact hi c hc

/-- A write keeps the canonical form. -/
theorem storeWf_write {m : List Host.Cell} (h : storeWf m = true) {a : Nat} (ha : a < 32768)
    (v : Octet) : storeWf (storeWrite m a v) = true := by
  induction m with
  | nil =>
    unfold storeWrite
    split
    · exact storeWf_nil
    · next hv => exact storeWf_cons.2 ⟨by simp [pastAll], ha, hv, storeWf_nil⟩
  | cons c m ih =>
    obtain ⟨k, w⟩ := c
    obtain ⟨hp, hk, hw, hm⟩ := storeWf_cons.1 h
    unfold storeWrite
    split
    · next hlt =>
      split
      · exact h
      · next hv =>
        refine storeWf_cons.2 ⟨?_, ha, hv, h⟩
        intro c hc; simp only [List.mem_cons] at hc; rcases hc with rfl | hc
        · exact hlt
        · exact Nat.lt_trans hlt (hp c hc)
    · split
      · next he =>
        split
        · exact hm
        · next hv => exact storeWf_cons.2 ⟨he ▸ hp, ha, hv, hm⟩
      · next h1 h2 => exact storeWf_cons.2 ⟨pastAll_write hp (by omega), hk, hw, ih hm⟩

/-- A read after a write gives the octet written, and every other octet as before. -/
theorem storeRead_write {m : List Host.Cell} (h : storeWf m = true) (a b : Nat) (v : Octet) :
    storeRead (storeWrite m a v) b = if a = b then v else storeRead m b := by
  induction m with
  | nil =>
    unfold storeWrite
    split
    · next hv => simp [storeRead, hv]
    · simp [storeRead]
  | cons c m ih =>
    obtain ⟨k, w⟩ := c
    obtain ⟨hp, hk, hw, hm⟩ := storeWf_cons.1 h
    unfold storeWrite
    split
    · next hlt =>
      split
      · next hv =>
        split
        · next he =>
          subst he
          have : pastAll a ((k, w) :: m) := by
            intro c hc; simp only [List.mem_cons] at hc; rcases hc with rfl | hc
            · exact hlt
            · exact Nat.lt_trans hlt (hp c hc)
          rw [storeRead_past this, hv]
        · rfl
      · simp [storeRead]
    · split
      · next he =>
        split
        · next hv =>
          split
          · next hb => rw [← hb, he, storeRead_past hp, hv]
          · next hb => rw [storeRead, if_neg (by omega)]
        · split
          · next hb => simp [storeRead, hb]
          · next hb => simp only [storeRead]; rw [if_neg hb, if_neg (by omega)]
      · next h1 h2 =>
        simp only [storeRead]
        split
        · next hb => rw [if_neg (by omega)]
        · exact ih hm

/-- Writing octets one after another keeps the canonical form. -/
theorem storeWf_writeAll {m : List Host.Cell} (h : storeWf m = true) {a : Nat} (os : Octets)
    (ha : a + os.length ≤ 32768) : storeWf (storeWriteAll m a os) = true := by
  induction os generalizing m a with
  | nil => exact h
  | cons o os ih =>
    simp only [List.length_cons] at ha
    exact ih (storeWf_write h (by omega) o) (by omega)

/-- The page store at power-on has the canonical form. -/
theorem storeWf_reset : StoreCanonical State.reset := by
  show storeWf [] = true
  exact storeWf_nil

end Machine

end Sys2Proof
end

