-- ==== Sys2Proof/Laws/PerInstr.lean ====
section
/-! SUPPORT. What is said of every command as syntax, one lemma for each constructor. -/

namespace Sys2Proof.Laws

-- One theorem at a time: fewer threads, less memory at once.
set_option Elab.async false

/-- A well-formed command that executes a request carries a well-formed head: a request of the
centre comes from source 0 (R197). -/
def HeadFits.Statement (i : Instr) : Prop :=
  i.wellFormed = true → i.head?.all Head.wellFormed = true

theorem HeadFits.powerOn (a : Bool) :
    HeadFits.Statement (.powerOn a) :=
  fun _ => rfl
theorem HeadFits.signalLost (a : Port) :
    HeadFits.Statement (.signalLost a) :=
  fun _ => rfl
theorem HeadFits.signalRegained (a : Port) :
    HeadFits.Statement (.signalRegained a) :=
  fun _ => rfl
theorem HeadFits.markerFound (a : Port) :
    HeadFits.Statement (.markerFound a) :=
  fun _ => rfl
theorem HeadFits.headerReceived (a : Port) (b : Octets) :
    HeadFits.Statement (.headerReceived a b) :=
  fun _ => rfl
theorem HeadFits.alignFaultCount (a : Port) :
    HeadFits.Statement (.alignFaultCount a) :=
  fun _ => rfl
theorem HeadFits.wtrExpiry (a : Port) :
    HeadFits.Statement (.wtrExpiry a) :=
  fun _ => rfl
theorem HeadFits.bringUpComplete (a : Port) :
    HeadFits.Statement (.bringUpComplete a) :=
  fun _ => rfl
theorem HeadFits.recirculation :
    HeadFits.Statement .recirculation :=
  fun _ => rfl
theorem HeadFits.duplicateMasterClear :
    HeadFits.Statement .duplicateMasterClear :=
  fun _ => rfl
theorem HeadFits.missingCycle :
    HeadFits.Statement .missingCycle :=
  fun _ => rfl
theorem HeadFits.holdoverEntry :
    HeadFits.Statement .holdoverEntry :=
  fun _ => rfl
theorem HeadFits.holdoverCycle :
    HeadFits.Statement .holdoverCycle :=
  fun _ => rfl
theorem HeadFits.originateCycle :
    HeadFits.Statement .originateCycle :=
  fun _ => rfl
theorem HeadFits.centreHeaderAgeExpiry :
    HeadFits.Statement .centreHeaderAgeExpiry :=
  fun _ => rfl
theorem HeadFits.uplinkDown :
    HeadFits.Statement .uplinkDown :=
  fun _ => rfl
theorem HeadFits.uplinkUp :
    HeadFits.Statement .uplinkUp :=
  fun _ => rfl
theorem HeadFits.uplinkFrame (a : Octets) :
    HeadFits.Statement (.uplinkFrame a) :=
  fun _ => rfl
theorem HeadFits.fieldFrame (a : Octets) :
    HeadFits.Statement (.fieldFrame a) :=
  fun _ => rfl
theorem HeadFits.offHook (a : Fin 4) :
    HeadFits.Statement (.offHook a) :=
  fun _ => rfl
theorem HeadFits.onHook (a : Fin 4) :
    HeadFits.Statement (.onHook a) :=
  fun _ => rfl
theorem HeadFits.priorityPress (a : Fin 4) :
    HeadFits.Statement (.priorityPress a) :=
  fun _ => rfl
theorem HeadFits.callRequestResend (a : Fin 4) :
    HeadFits.Statement (.callRequestResend a) :=
  fun _ => rfl
theorem HeadFits.callReleaseResend (a : Fin 4) :
    HeadFits.Statement (.callReleaseResend a) :=
  fun _ => rfl
theorem HeadFits.ringTimeout (a : Fin 4) :
    HeadFits.Statement (.ringTimeout a) :=
  fun _ => rfl
theorem HeadFits.statusTimerExpiry :
    HeadFits.Statement .statusTimerExpiry :=
  fun _ => rfl
theorem HeadFits.callQueued (a : CallRef) (b : Nat) :
    HeadFits.Statement (.callQueued a b) :=
  fun _ => rfl
theorem HeadFits.planUpdate (a : Via) (b : Octet) (c : Octet) (d : Half) (e : Octets) :
    HeadFits.Statement (.planUpdate a b c d e) :=
  fun _ => rfl
theorem HeadFits.planSwitch :
    HeadFits.Statement .planSwitch :=
  fun _ => rfl
theorem HeadFits.vsigFrameIgnored (a : Octets) :
    HeadFits.Statement (.vsigFrameIgnored a) :=
  fun _ => rfl
theorem HeadFits.callRequest (a : Octet) (b : CallRef) (c : Bool) (d : Bool) (e : Bool) :
    HeadFits.Statement (.callRequest a b c d e) :=
  fun _ => rfl
theorem HeadFits.callRelease (a : Octet) (b : CallRef) :
    HeadFits.Statement (.callRelease a b) :=
  fun _ => rfl
theorem HeadFits.callStatus (a : Octet) (b : List CallRef) :
    HeadFits.Statement (.callStatus a b) :=
  fun _ => rfl
theorem HeadFits.planAccept (a : Octet) (b : Octet) (c : Octet) :
    HeadFits.Statement (.planAccept a b c) :=
  fun _ => rfl
theorem HeadFits.planLate (a : Octet) (b : Octet) (c : Octet) :
    HeadFits.Statement (.planLate a b c) :=
  fun _ => rfl
theorem HeadFits.planComeRound (a : Fin 240) :
    HeadFits.Statement (.planComeRound a) :=
  fun _ => rfl
theorem HeadFits.planUnanswered (a : Fin 240) :
    HeadFits.Statement (.planUnanswered a) :=
  fun _ => rfl
theorem HeadFits.absentQuarantineExpiry (a : Fin 240) :
    HeadFits.Statement (.absentQuarantineExpiry a) :=
  fun _ => rfl
theorem HeadFits.callSupervisionExpiry (a : Fin 240) (b : Fin 4) :
    HeadFits.Statement (.callSupervisionExpiry a b) :=
  fun _ => rfl
theorem HeadFits.setVoiceCapacity (a : Head) (b : Nat) :
    HeadFits.Statement (.setVoiceCapacity a b) := by
  intro w; simp_all [Instr.wellFormed, Instr.head?]
theorem HeadFits.tollRunClose (a : Octets) :
    HeadFits.Statement (.tollRunClose a) :=
  fun _ => rfl
theorem HeadFits.pendingTimeout :
    HeadFits.Statement .pendingTimeout :=
  fun _ => rfl
theorem HeadFits.tollAnswer (a : Via) (b : Octet) (c : Quad) (d : Octet) (e : Quad) :
    HeadFits.Statement (.tollAnswer a b c d e) :=
  fun _ => rfl
theorem HeadFits.settled (a : Via) (b : Octet) (c : Quad) :
    HeadFits.Statement (.settled a b c) :=
  fun _ => rfl
theorem HeadFits.answerBlockSent :
    HeadFits.Statement .answerBlockSent :=
  fun _ => rfl
theorem HeadFits.journalDrain :
    HeadFits.Statement .journalDrain :=
  fun _ => rfl
theorem HeadFits.inflightTimeout :
    HeadFits.Statement .inflightTimeout :=
  fun _ => rfl
theorem HeadFits.secondsClock :
    HeadFits.Statement .secondsClock :=
  fun _ => rfl
theorem HeadFits.tollFrameIgnored (a : Via) (b : Octet) (c : Octets) :
    HeadFits.Statement (.tollFrameIgnored a b c) :=
  fun _ => rfl
theorem HeadFits.sampleTick :
    HeadFits.Statement .sampleTick :=
  fun _ => rfl
theorem HeadFits.pulseEdge (a : Fin 4) :
    HeadFits.Statement (.pulseEdge a) :=
  fun _ => rfl
theorem HeadFits.channelSample (a : Fin 16) :
    HeadFits.Statement (.channelSample a) :=
  fun _ => rfl
theorem HeadFits.wxFrameIgnored :
    HeadFits.Statement .wxFrameIgnored :=
  fun _ => rfl
theorem HeadFits.alarmFrameIgnored :
    HeadFits.Statement .alarmFrameIgnored :=
  fun _ => rfl
theorem HeadFits.setCentreFlag (a : Head) (b : Nat) (c : Nat) :
    HeadFits.Statement (.setCentreFlag a b c) := by
  intro w; simp_all [Instr.wellFormed, Instr.head?]
theorem HeadFits.setMask (a : Head) (b : Nat) :
    HeadFits.Statement (.setMask a b) := by
  intro w; simp_all [Instr.wellFormed, Instr.head?]
theorem HeadFits.eventAck (a : Head) (b : Option (List Nat)) :
    HeadFits.Statement (.eventAck a b) := by
  intro w; simp_all [Instr.wellFormed, Instr.head?]
theorem HeadFits.signShow (a : Head) (b : Nat) (c : Nat) (d : Nat) :
    HeadFits.Statement (.signShow a b c d) := by
  intro w; simp_all [Instr.wellFormed, Instr.head?]
theorem HeadFits.signClear (a : Head) :
    HeadFits.Statement (.signClear a) := by
  intro w; simp_all [Instr.wellFormed, Instr.head?]
theorem HeadFits.signFrame (a : Octet) (b : Octets) :
    HeadFits.Statement (.signFrame a b) :=
  fun _ => rfl
theorem HeadFits.signTest (a : Head) (b : Nat) :
    HeadFits.Statement (.signTest a b) := by
  intro w; simp_all [Instr.wellFormed, Instr.head?]
theorem HeadFits.testTimerExpiry :
    HeadFits.Statement .testTimerExpiry :=
  fun _ => rfl
theorem HeadFits.centreLifetimeExpiry :
    HeadFits.Statement .centreLifetimeExpiry :=
  fun _ => rfl
theorem HeadFits.holdExpiry :
    HeadFits.Statement .holdExpiry :=
  fun _ => rfl
theorem HeadFits.signResend (a : Head) :
    HeadFits.Statement (.signResend a) := by
  intro w; simp_all [Instr.wellFormed, Instr.head?]
theorem HeadFits.commandSent :
    HeadFits.Statement .commandSent :=
  fun _ => rfl
theorem HeadFits.signAccept (a : Nat) :
    HeadFits.Statement (.signAccept a) :=
  fun _ => rfl
theorem HeadFits.signReject (a : Octet) :
    HeadFits.Statement (.signReject a) :=
  fun _ => rfl
theorem HeadFits.signStatusAnswer (a : Nat) (b : Half) :
    HeadFits.Statement (.signStatusAnswer a b) :=
  fun _ => rfl
theorem HeadFits.signBadAnswer (a : Octets) :
    HeadFits.Statement (.signBadAnswer a) :=
  fun _ => rfl
theorem HeadFits.answerTimeout :
    HeadFits.Statement .answerTimeout :=
  fun _ => rfl
theorem HeadFits.pollTimerExpiry :
    HeadFits.Statement .pollTimerExpiry :=
  fun _ => rfl
theorem HeadFits.mgmtFrameReceived (a : Origin) (b : Frame) :
    HeadFits.Statement (.mgmtFrameReceived a b) :=
  fun _ => rfl
theorem HeadFits.read (a : Head) (b : Nat) (c : Nat) (d : Nat) :
    HeadFits.Statement (.read a b c d) := by
  intro w; simp_all [Instr.wellFormed, Instr.head?]
theorem HeadFits.write (a : Head) (b : Nat) (c : Nat) (d : Nat) (e : Octets) :
    HeadFits.Statement (.write a b c d e) := by
  intro w; simp_all [Instr.wellFormed, Instr.head?]
theorem HeadFits.writeRingSettings (a : Head) (b : Nat) (c : List (Int × Int)) :
    HeadFits.Statement (.writeRingSettings a b c) := by
  intro w; simp_all [Instr.wellFormed, Instr.head?, writeFits]
theorem HeadFits.writeTollSettings (a : Head) (b : Nat) (c : List (Int × Int)) :
    HeadFits.Statement (.writeTollSettings a b c) := by
  intro w; simp_all [Instr.wellFormed, Instr.head?, writeFits]
theorem HeadFits.writeClassTable (a : Head) (b : Nat) (c : List Nat) :
    HeadFits.Statement (.writeClassTable a b c) := by
  intro w; simp_all [Instr.wellFormed, Instr.head?, writeFits]
theorem HeadFits.writeChannelTable (a : Head) (b : Nat) (c : List ChannelWrite) :
    HeadFits.Statement (.writeChannelTable a b c) := by
  intro w; simp_all [Instr.wellFormed, Instr.head?, writeFits]
theorem HeadFits.writeEventTable (a : Head) (b : Nat) (c : List (Nat × Nat)) :
    HeadFits.Statement (.writeEventTable a b c) := by
  intro w; simp_all [Instr.wellFormed, Instr.head?, writeFits]
theorem HeadFits.writeSignRules (a : Head) (b : Nat) (c : List RuleWrite) :
    HeadFits.Statement (.writeSignRules a b c) := by
  intro w; simp_all [Instr.wellFormed, Instr.head?, writeFits]
theorem HeadFits.writePageTable (a : Head) (b : Nat) (c : List (List Segment)) :
    HeadFits.Statement (.writePageTable a b c) := by
  intro w; simp_all [Instr.wellFormed, Instr.head?, writeFits]
theorem HeadFits.writePageStore (a : Head) (b : Nat) (c : List Octets) :
    HeadFits.Statement (.writePageStore a b c) := by
  intro w; simp_all [Instr.wellFormed, Instr.head?, writeFits]
theorem HeadFits.writeSignSettings (a : Head) (b : Nat) (c : List (Int × Int)) :
    HeadFits.Statement (.writeSignSettings a b c) := by
  intro w; simp_all [Instr.wellFormed, Instr.head?, writeFits]
theorem HeadFits.restart (a : Head) :
    HeadFits.Statement (.restart a) := by
  intro w; simp_all [Instr.wellFormed, Instr.head?]
theorem HeadFits.forceWrap (a : Head) (b : Nat) :
    HeadFits.Statement (.forceWrap a b) := by
  intro w; simp_all [Instr.wellFormed, Instr.head?]
theorem HeadFits.clearForce (a : Head) :
    HeadFits.Statement (.clearForce a) := by
  intro w; simp_all [Instr.wellFormed, Instr.head?]
theorem HeadFits.denyAdd (a : Head) (b : TagId) :
    HeadFits.Statement (.denyAdd a b) := by
  intro w; simp_all [Instr.wellFormed, Instr.head?]
theorem HeadFits.denyRemove (a : Head) (b : TagId) :
    HeadFits.Statement (.denyRemove a b) := by
  intro w; simp_all [Instr.wellFormed, Instr.head?]
theorem HeadFits.denyClear (a : Head) :
    HeadFits.Statement (.denyClear a) := by
  intro w; simp_all [Instr.wellFormed, Instr.head?]
theorem HeadFits.acceptAdd (a : Head) (b : Nat) (c : Nat) :
    HeadFits.Statement (.acceptAdd a b c) := by
  intro w; simp_all [Instr.wellFormed, Instr.head?]
theorem HeadFits.acceptRemove (a : Head) (b : Nat) (c : Nat) :
    HeadFits.Statement (.acceptRemove a b c) := by
  intro w; simp_all [Instr.wellFormed, Instr.head?]
theorem HeadFits.fieldLock (a : Head) :
    HeadFits.Statement (.fieldLock a) := by
  intro w; simp_all [Instr.wellFormed, Instr.head?]
theorem HeadFits.fieldUnlock (a : Head) :
    HeadFits.Statement (.fieldUnlock a) := by
  intro w; simp_all [Instr.wellFormed, Instr.head?]
theorem HeadFits.callBack (a : Head) (b : Nat) :
    HeadFits.Statement (.callBack a b) := by
  intro w; simp_all [Instr.wellFormed, Instr.head?]
theorem HeadFits.wxRead (a : Head) :
    HeadFits.Statement (.wxRead a) := by
  intro w; simp_all [Instr.wellFormed, Instr.head?]
theorem HeadFits.countsClear (a : Head) :
    HeadFits.Statement (.countsClear a) := by
  intro w; simp_all [Instr.wellFormed, Instr.head?]
theorem HeadFits.identify (a : Head) :
    HeadFits.Statement (.identify a) := by
  intro w; simp_all [Instr.wellFormed, Instr.head?]
theorem HeadFits.assignAddresses (a : Head) (b : Nat) :
    HeadFits.Statement (.assignAddresses a b) := by
  intro w; simp_all [Instr.wellFormed, Instr.head?]
theorem HeadFits.addressClear (a : Head) :
    HeadFits.Statement (.addressClear a) := by
  intro w; simp_all [Instr.wellFormed, Instr.head?]
theorem HeadFits.addressOffer (a : Octet) (b : Bool) :
    HeadFits.Statement (.addressOffer a b) :=
  fun _ => rfl
theorem HeadFits.addressTaken (a : Octet) (b : BitVec 48) :
    HeadFits.Statement (.addressTaken a b) :=
  fun _ => rfl
theorem HeadFits.addressOfferReturned :
    HeadFits.Statement .addressOfferReturned :=
  fun _ => rfl
theorem HeadFits.walkTimeout :
    HeadFits.Statement .walkTimeout :=
  fun _ => rfl
theorem HeadFits.allocFrameIgnored (a : Octet) (b : Octets) :
    HeadFits.Statement (.allocFrameIgnored a b) :=
  fun _ => rfl

end Sys2Proof.Laws
end

