-- ==== Sys2Proof/Tests/Slice0.lean ====
section
/-! SUPPORT. Tests: the manual's worked figures and sequences (01 1.3.1, 03 3.7, 04 4.6, 05 5.7, 06
6.8, 07 7.7, 08 8.6, 09 9.7, 10 10.6, 11 11.5.1), the check that refuses each kind of ill-formed
command, and, for every statement with hypotheses, operands and states that meet them. -/

namespace Sys2Proof.Tests

open Sys2Proof.Machine

-- One theorem at a time: each kernel evaluation takes memory of its own.
set_option Elab.async false

/-! ## Small states -/

/-- The state a command leaves. -/
def after (c : Instr) (s : State) : State :=
  match exec c s with
  | .next t => t
  | .fault _ => s
  | .refused _ => s

/-- The state a step leaves. -/
def stepped (s : State) : State :=
  match step s with
  | .next t => t
  | .fault _ => s
  | .refused _ => s

/-- The state the end of a cycle leaves: protection, reachability and the journal's conditions are
settled (log 2). -/
def ended (s : State) : State :=
  stepped ((s.modPeriod fun x => { x with stage := .closing }).withPending [])

/-- The state as the next period opens, whatever waits. -/
def opened (s : State) : State :=
  stepped ((s.modPeriod fun x => { x with stage := .sending }).withPending [])

/-- The payload of a frame as the uplink port sends it: twelve octets of header, the payload, four of
its check (R212). -/
def sentPayload (os : Octets) : Octets := (os.drop 12).dropLast.dropLast.dropLast.dropLast

/-- A port that is UP and HEALTHY. -/
def upPort : LinePort :=
  { LinePort.reset with rx := .up, faulted := false, health := .healthy, everHealthy := true }

/-- Slave 7 in RING, LINKED. -/
def slave : State :=
  { State.reset with
    line := { w := upPort, e := upPort, wtrSeconds := 10 }
    timer := { CycleTimer.reset false with holdover := false, adoptNext := false, number := 500 }
    prot := { Protection.reset false false with state := .ring, linked := true, handed := true, age := 0 }
    agent := { Agent.reset false with address := some 7 }
    cond := { ConditionUnit.reset false with copy := .fill 64 false } }

/-- The master in RING with its uplink up. -/
def master : State :=
  { slave with
    isMaster := true
    pins := { slave.pins with strap := true, uplinkUp := true }
    timer := { CycleTimer.reset true with number := 1000 }
    agent := Agent.reset true }

/-- The head of a request of the centre, and of a field terminal. -/
def centre : Head := { origin := .centre, source := 0, channel := 9, tag := 77 }
def field : Head := { origin := .field, source := 3, channel := 9, tag := 77 }

/-- A frame of given destination, source, service and payload. -/
def frame (dest source service : Octet) (payload : Octets) : Frame :=
  { dest, source, service, channel := 5, hop := 250, flags := 0, tag := 1, payload
    check := payloadCheck payload }

/-- Slave 7 with position 2 in a given shape. -/
def calling (f : Position → Position) : State := modPos 2 f slave

/-- A cycle header that the master sends. -/
def header : CycleHeader :=
  { number := 501, origin := .master, masterAddr := 1, u := 8, centreUp := true, farEnd := false }

/-- A cycle with a header and nothing else. -/
def bareCycle (h : CycleHeader) : Octets := encodeCycle h (silentVoice h.u.toNat) []

/-! ## Formats (12) -/

/-- The checks over the octets "123456789", as published for their polynomials. -/
theorem test_checks :
    headerCheck [0x31, 0x32, 0x33, 0x34, 0x35, 0x36, 0x37, 0x38, 0x39] = 0x29B1 ∧
    payloadCheck [0x31, 0x32, 0x33, 0x34, 0x35, 0x36, 0x37, 0x38, 0x39] = 0xFC891918 ∧
    payloadCheck [] = 0 := by decide +kernel

/-- R212: the octets of a cycle header. -/
theorem test_header_octets :
    (encodeCycleHeader { header with number := 0x1234, farEnd := true }).take 8 =
      [0xF3, 0x26, 0x12, 0x34, 1, 1, 8, 0xC0] ∧
    decodeCycleHeader (encodeCycleHeader header) = some header := by decide +kernel

/-- R212: the octets of a frame, its fill bits as zero, and of an event record (R213). -/
theorem test_frame_octets :
    (encodeFrame (frame 4 7 3 [1, 2])).take 10 = [4, 7, 3, 5, 250, 0, 0, 1, 0, 2] ∧
    encodeFrame { frame 4 7 3 [1, 2] with flags := 0x7F } =
      encodeFrame { frame 4 7 3 [1, 2] with flags := 0x40 } ∧
    encodeEvent { condition := 49, rise := true, level := 5, stamp := 8000, repeats := 2 } =
      [49, 1, 5, 2, 0, 0, 0x1F, 0x40] := by decide +kernel

/-- R214: a SET_MASK, an EVENT_ACK of all, and a request that cannot be read. -/
theorem test_requests :
    requestInstr centre [16, 2] = some (.setMask centre 2) ∧
    requestInstr centre [15, 0] = some (.eventAck centre none) ∧
    requestInstr centre [16] = none := by decide +kernel

/-- R215: BLANK and POLL, and answers that fail their framing. -/
theorem test_sign_link :
    encodeBlank.length = 4 ∧ (encodePoll).take 2 = [2, 3] ∧
    decodeSignAnswer (withCheck [0x81, 64]) = none ∧
    decodeSignAnswer (withCheck [0x81, 63]) = some (.accept 63) := by decide +kernel

/-! ## Line ports (01 1.3.1) -/

/-- T = 50: the eighth header takes the port to UP; T = 5002: the third failed header in a row takes
it to ALIGNING with reason ALIGN. -/
theorem test_port_sequence :
    (let s := { slave with line := { slave.line with e :=
      { LinePort.reset with
        rx := .aligning, markerFound := true, alignRun := 7, portFaults := 1 } } }
     (after (.headerReceived .e (bareCycle header)) s).line.e.rx = .up) ∧
    (let s := { slave with line := { slave.line with e := { upPort with
      errorRun := 2, headerErrors := 2, portFaults := 1, portRecoveries := 1 } } }
     let p := (after (.headerReceived .e (List.replicate 1024 0)) s).line.e
     p.rx = .aligning ∧ p.reason = .align ∧ p.headerErrors = 3 ∧ p.portFaults = 2 ∧
     p.health = .unhealthy) := by decide +kernel

/-- The second span cut takes a wrapped slave to ISOLATED and DETACHED as its cycle ends; two cuts of
one cycle are one change (R24, R20). -/
theorem test_isolation :
    let s := ended (after (.signalLost .e) slave)
    let t := ended (after (.signalLost .w) s)
    s.prot.state = .wrapEast ∧ t.prot.state = .isolated ∧ t.prot.linked = false ∧
    t.prot.changes = 2 ∧
    (ended (after (.signalLost .w) (after (.signalLost .e) slave))).prot.changes = 1 := by
  decide +kernel

/-- The sixteenth following cycle of a bring-up makes the port HEALTHY, unless it is faulted in that
cycle (R11). -/
theorem test_bring_up :
    let s := after (.bringUpComplete .w) { slave with line := { slave.line with
      w := { slave.line.w with health := .unhealthy, everHealthy := false, bringUp := 16 } } }
    let t := after (.signalLost .w) s
    ((portAt s .w).health = .healthy ∧ (portAt s .w).everHealthy = true ∧
      (portAt s .w).portRecoveries = (portAt slave .w).portRecoveries + 1) ∧
    (portAt t .w).health = .unhealthy ∧ (portAt t .w).everHealthy = false ∧
    (portAt t .w).portRecoveries = (portAt slave .w).portRecoveries := by decide +kernel

/-- An uplink that is back within its cycle makes neither a detach nor a relink (R22). -/
theorem test_back_in_one_cycle :
    (ended (after .uplinkUp (after .uplinkDown master))).phone = master.phone ∧
    (ended (after .uplinkDown master)).cond.copy.get condDetached = true := by decide +kernel

/-- A processed header is taken over and repeated (R13, R17). -/
theorem test_header_repeated :
    let t := after (.headerReceived .w (bareCycle { header with farEnd := false })) slave
    t.timer.number = 501 ∧ t.timer.record.u = 8 ∧
    t.out.txE.take 10 = encodeCycleHeader header ∧ t.out.txE.length = 1024 := by decide +kernel

/-- FORCE_WRAP E on a healthy ring wraps east; from an unhealthy port it is a conflict (R35). -/
theorem test_force_wrap :
    (ended (after (.forceWrap centre 2) slave)).prot.state = .wrapEast ∧
    (after (.forceWrap centre 1) (after (.signalLost .e) slave)).prot.forced = none := by
  decide +kernel

/-! ## Frame Switch (03 3.7) -/

/-- A frame of a given extent. -/
def sized (n : Nat) : Frame := frame 4 7 6 (List.replicate (n - 16) 0)

/-- The queues of 3.7.2. -/
def busy : State := slave.modSw fun w => { w with
  vsig := [sized 28, sized 28], tollLive := List.replicate 4 (sized 76)
  wx := [sized 24, sized 24] }

/-- 3.7.2: with 566 octets left, two VSIG, three TOLL_LIVE and one WX frame are placed; with 50
left, the new VSIG frame alone. -/
theorem test_fill_example :
    (fillAdds 566 busy).2.map extent = [28, 28, 76, 76, 76, 24] ∧
    (fillAdds 566 busy).1.sw.tollLive.length = 1 ∧ (fillAdds 566 busy).1.sw.wx.length = 1 ∧
    (let s := (fillAdds 566 busy).1.modSw fun w => { w with vsig := [sized 28] }
     (fillAdds 50 s).2.map extent = [28]) := by decide +kernel

/-- A frame for this node is taken, its own frame stripped, a frame of hop count 1 discarded. -/
theorem test_frame_fates :
    (handleItem .w (.frame (frame 7 4 6 [1])) slave).1.sw.taken = 1 ∧
    (handleItem .w (.frame (frame 4 7 6 [1])) slave).1.sw.stripped = 1 ∧
    (handleItem .w (.frame { frame 4 5 6 [1] with hop := 1 }) slave).1.sw.discards.get 5 = 1 := by
  decide +kernel

/-- R54: a frame of the centre to node 4 joins the queue of its service. -/
theorem test_uplink_frame :
    ((after (.uplinkFrame (encodeFrame (frame 4 0 6 [1]))) master).sw.wx.map (·.hop)) = [250] ∧
    (after (.uplinkFrame (encodeFrame (frame 0 0 6 [1]))) master).sw.discards.get 3 = 1 := by
  decide +kernel

/-- ACCEPT_ADD keeps a pair once and refuses a thirty-third (R49). -/
theorem test_accept_add :
    let s := after (.acceptAdd centre 6 8) slave
    s.sw.accept = [(6, 8)] ∧ (after (.acceptAdd centre 6 8) s).sw.accept = [(6, 8)] ∧
    (after (.acceptRemove centre 6 8) s).sw.accept = [] := by decide +kernel

/-! ## Telephones and plans (04 4.6, 05 5.7) -/

/-- T = 20: off-hook; T = 26: CALL_QUEUED with place 3. -/
theorem test_call_sequence :
    let s := { calling (fun p => { p with hookCount := 20 }) with
      pins := { slave.pins with hooks := slave.pins.hooks.set 2 .off } }
    let t := after (.offHook 2) s
    let u := after (.callQueued { node := 7, position := 2 } 3) t
    (posAt t 2).call = .requesting ∧ t.cond.copy.get 54 = true ∧ t.sw.vsig.length = 1 ∧
    (posAt u 2).call = .waiting ∧ (posAt u 2).place = some 3 := by decide +kernel

/-- T = 9000 and 9032: the plan is loaded into standby, then active, and the call is TALKING. -/
theorem test_plan_sequence :
    let s := (calling fun p => { p with call := .waiting, debounced := .off }).modTimer
      fun x => { x with number := 9000 }
    let t := after (.planUpdate .taken 1 5 9032 [255, 255, 255, 255, 4, 5, 255, 255]) s
    let u := after .planSwitch (t.modTimer fun x => { x with number := 9032 })
    t.phone.pendingAt = some 9032 ∧ (after .planSwitch t).phone.pendingAt = some 9032 ∧
    u.phone.active.entries.get 2 = some { up := 4, down := 5 } ∧ (posAt u 2).call = .talking := by
  decide +kernel

/-- The master of 5.7: S = 6, slots 0 to 3 HELD for node 3; node 5 has version 7. -/
def allocating : State := master.modAlloc fun a => { a with
  capacity := 6
  slots := [0, 1, 2, 3].foldl (fun t k => t.set k (.held 2 false)) a.slots
  plans := a.plans.set 4 { PlanRecord.reset with
    lastIssued := 7, accepted := { version := 7, switchCycle := 0, entries := .fill 4 none } } }

/-- Cycle 1000: the grant of slots 4 and 5, plan 8 for cycle 1032; cycle 2000: no slot is left. -/
theorem test_grant :
    let t := after (.callRequest 5 { node := 5, position := 0 } false false false) allocating
    let u := after (.callRequest 9 { node := 9, position := 1 } false false false) t
    (t.alloc.plans.get 4).inFlight.map (fun f => (f.plan.version, f.plan.switchCycle)) =
      some (8, 1032) ∧
    t.alloc.calls.map (·.slots) = [{ up := 4, down := 5 }] ∧ currentU t.alloc = 6 ∧
    u.alloc.waiting.map (·.node) = [8] := by decide +kernel

/-- Cycle 5137: with the header come round the slots are freed and granted from the queue. -/
theorem test_grant_from_queue :
    let s := (allocating.modTimer fun x => { x with number := 5137 }).modAlloc fun a => { a with
      slots := (a.slots.set 4 (.held 4 false)).set 5 (.held 4 false)
      waiting := [{ node := 8, position := 1, priority := false, arrival := 0 }]
      plans := a.plans.set 4 { PlanRecord.reset with
        lastIssued := 10, comeRound := false, acceptedSeen := true
        accepted := { version := 10, switchCycle := 5128, entries := .fill 4 none } } }
    let t := after (.planComeRound 4) s
    t.alloc.slots.get 4 = .held 8 false ∧ t.alloc.waiting = [] ∧
    (t.alloc.plans.get 8).inFlight.map (fun f => f.plan.switchCycle) = some 5169 ∧
    t.alloc.grantsFromQueue = 1 := by decide +kernel

/-- R101: S cannot fall below the highest HELD slot, and is at most 48. -/
theorem test_capacity :
    (after (.setVoiceCapacity centre 3) allocating).alloc.capacity = 6 ∧
    (after (.setVoiceCapacity centre 200) allocating).alloc.capacity = 48 := by decide +kernel

/-! ## Tolls (06 6.8, 07 7.7) -/

/-- A CHARGE block of a lane, a class and a transaction number. -/
def charge (lane cls : Octet) (txn : Quad) : Octets :=
  withCheck ([0x7E, 1, lane, cls] ++ octets4 txn ++ List.replicate 30 0)

/-- A run of toll octets that ends. -/
def arrives (b : Octets) (s : State) : State := after (.tollRunClose b) s

/-- T = 0 and 120: K1 is forwarded, and absorbed when it comes back; T = 350: lane 9 is rejected. -/
theorem test_toll_arrivals :
    let t := arrives (charge 3 2 50001) slave
    let u := arrives (charge 9 2 1) (arrives (charge 3 2 50001) t)
    t.toll.pendingTable.map (·.key) = [{ lane := 3, txn := 50001 }] ∧ t.sw.tollLive.length = 1 ∧
    u.toll.duplicates = 1 ∧ u.toll.rejected = 1 ∧ u.toll.receivedCharge = 3 ∧
    u.toll.answers.map (·.verdict) = [.rejected] := by decide +kernel

/-- T = 300 and 410: the timer runs out, then the late answer settles the record. -/
theorem test_toll_timeout :
    let t := after .pendingTimeout ((arrives (charge 3 2 50001) slave).modToll fun x =>
      { x with pendingTable := x.pendingTable.map fun p => { p with timer := 300 } })
    let u := after (.tollAnswer .taken 3 50001 1 2450) t
    t.toll.answers.map (·.verdict) = [.provisional] ∧ t.journal.records.length = 1 ∧
    u.journal.records = [] ∧ u.toll.lateSettled = 1 ∧ u.toll.answers.length = 1 := by decide +kernel

/-- 7.7, T = 1000 and 1001: the drain offers two records a cycle, the oldest first. -/
theorem test_drain :
    let record := fun (n : Quad) => JournalRecord.mk { lane := 1, txn := n } (charge 1 1 n)
      .provisional 5000 0 none
    let s := slave.modJournal fun j => { j with records := [record 1, record 2, record 3] }
    let t := after .journalDrain s
    t.journal.records.map (·.offers) = [1, 1, 0] ∧ t.sw.tollDeferred.map extent = [62, 62] ∧
    (after .journalDrain t).journal.records.map (·.offers) = [1, 1, 1] := by decide +kernel

/-- DENY_ADD keeps the list in ascending order (R118). -/
theorem test_deny :
    let s := after (.denyAdd centre 5) (after (.denyAdd centre 9) slave)
    s.toll.deny = [5, 9] ∧ (after (.denyRemove centre 5) s).toll.deny = [9] ∧
    (after (.denyClear centre) s).toll.deny = [] := by decide +kernel

/-! ## Weather (08 8.6) -/

/-- The channel entry of 8.6.2. -/
def frost : ChannelEntry := { ChannelEntry.reset with
  source := .ain 3, period := 10, zero := 819, gain := 375, offset := -400, window := 4, shift := 2
  compareLong := true, lowSet := 10, lowClear := 20, lowEnable := true, persist := 2
  interval := 5 }

/-- Channel 5 about to sample a code, its working state given. -/
def frosty (code : BitVec 12) (w : ChannelState) : State := slave.modWx fun x => { x with
  table := x.table.set 5 frost
  work := x.work.set 5 { w with ticks := 10 }
  analog := x.analog.set 3 { code, conversions := 0 } }

/-- 8.6.1: the engineering values of codes 1638 and 800. -/
theorem test_engineering :
    let v := fun code =>
      ((after (.channelSample 5) (frosty code (.restarted 5))).wx.work.get 5).mean
    v 1638 = some (-100) ∧ v 800 = some (-407) := by decide +kernel

/-- 8.6.2, samples 5 and 9: the window, the means, the report and its extremes, LOW. -/
theorem test_frost :
    let w := { ChannelState.restarted 5 with
      window := [39, 30, 10, 3], mean := some 21, long := some 32
      extremes := some { peak := 39, trough := 21 }, toReport := 1, since := 4 }
    let t := after (.channelSample 5) (frosty 1899 w)
    let x := { ChannelState.restarted 5 with
      window := [-4, -4, -4, -4], mean := some (-4), long := some 10
      extremes := some { peak := 1, trough := -4 }, lowCount := 1, toReport := 2, since := 3 }
    let u := after (.channelSample 5) (frosty 1899 x)
    (t.wx.work.get 5).window = [30, 10, 3, -4] ∧ (t.wx.work.get 5).mean = some 10 ∧
    (t.wx.work.get 5).long = some 27 ∧ t.sw.wx.map (fun f => f.payload.drop 6) =
      [[0, 39, 0, 10, 0, 5]] ∧
    (u.wx.work.get 5).long = some 7 ∧ (u.wx.work.get 5).low = true ∧
    u.cond.copy.get 21 = true := by decide +kernel

/-! ## Conditions (09 9.7) -/

/-- T = 200: level 5 is reported and level 3 is not; T = 800: SET_MASK 2 reports both. -/
theorem test_events :
    let s := changeCondition true 49 true (changeCondition true 21 true slave)
    let t := after (.setMask centre 2) s
    s.cond.events.map (·.condition) = [21, 49] ∧ s.sw.alarm.map (·.payload.length) = [8] ∧
    t.sw.alarm.map (·.payload.length) = [8, 16] ∧
    (after (.eventAck centre (some [21, 48])) t).cond.events.map (·.condition) = [49] := by
  decide +kernel

/-- T = 300 and T = 700: of conditions 49 and 50 the fall is handed before the rise; with FALL on it is
the older event (log 13). -/
theorem test_fall_before_rise :
    let told := fun (c : Fin 64) (p : ProtState) =>
      let s := (slave.modProt fun x => { x with state := p }).modCond fun u => { u with
        copy := u.copy.set c true, table := u.table.modify c fun e => { e with fall := true } }
      (protectionConditions s).cond.events.map fun e => (e.condition, e.rise)
    told 49 .isolated = [(49, false), (50, true)] ∧
    told 50 .wrapWest = [(50, false), (49, true)] := by decide +kernel

/-! ## The sign (10 10.6) -/

/-- The pages and the rules of 10.6. -/
def signed : State := slave.modSign fun g => { g with
  pages := ((g.pages.set 11 (some [{ block := 0, length := 632, endMark := 1 }])).set 13
    (some [{ block := 10, length := 312, endMark := 1 }])).set 29
    (some [{ block := 60, length := 312, endMark := 1 }])
  rules := (g.rules.set 0 { SignRule.reset with
    condA := 21, page := 12, priority := 3, enabled := true }).set 2
    { SignRule.reset with condA := 3, page := 14, priority := 3, enabled := true } }

/-- T = 1000 and 5000: rule 0 puts page 12 on the line in 640 octets, and wins the tie. -/
theorem test_sign_rules :
    let s := changeCondition true 21 true signed
    let t := changeCondition true 3 true s
    s.sign.selection = { page := 12, priority := 3, source := .rule 0 } ∧
    s.sign.sender.line.length = 640 ∧ t.sign.selection = s.sign.selection := by decide +kernel

/-- T = 1052: ACCEPT; T = 40 060: SIGN_SHOW aborts the transfer in progress. -/
theorem test_sign_exchange :
    let s := changeCondition true 21 true signed
    let t := after (.signAccept 12) (after .commandSent (s.modSign fun g =>
      { g with sender := { g.sender with sentCycles := 40 } }))
    let u := after (.signShow centre 30 6 60) s
    t.sign.sender.displayed = some 12 ∧ t.sign.sender.state = .idle ∧ t.sw.sign.length = 1 ∧
    u.sign.transferAborts = 1 ∧ u.sign.sender.line.length = 322 := by decide +kernel

/-! ## Management (11 11.5.1) -/

/-- T = 0, 5, 8 and 20 of the walk: the offer of 2, of 3, the refusal BUSY, the DONE with its count
and cause. -/
theorem test_walk :
    let s := after (.assignAddresses centre 0) master
    let t := after (.addressTaken 2 0) s
    let u := after .addressOfferReturned t
    s.agent.walk.onOffer = 2 ∧ t.agent.walk.onOffer = 3 ∧ t.agent.walk.given = 1 ∧
    (after (.assignAddresses centre 0) t).out.uplink.map (sentPayload · |>.take 2) = [[2, 6]] ∧
    u.agent.walk.running = false ∧ u.out.uplink.map sentPayload = [[0, 0, 0, 1, 1]] := by
  decide +kernel

/-- A slave without address takes the one offered and is LINKED with a fresh centre header. -/
theorem test_address_taken :
    let s := { slave with
      prot := { slave.prot with linked := false }
      agent := Agent.reset false }
    let t := after (.addressOffer 2 false) s
    t.agent.address = some 2 ∧ t.prot.linked = true ∧ t.sw.mgmt.map (·.payload.take 2) = [[65, 2]] ∧
    (after (.addressClear centre) t).agent.address = none := by decide +kernel

/-- A field terminal's FIELD_LOCK is not permitted; the centre's shuts its requests out (R200). -/
theorem test_field_lock :
    (after (.fieldLock field) slave).agent.fieldLock = false ∧
    (after (.identify field) (after (.fieldLock centre) slave)).out.uplink.map sentPayload =
      [[2, 2, 0xFF, 0xFF]] := by decide +kernel

/-- A WRITE with one bad entry stores none of them (R202); READ returns what was written. -/
theorem test_write_read :
    (after (.writeClassTable centre 1 [1, 2]) slave).toll.classes = slave.toll.classes ∧
    (after (.writeClassTable centre 7 [1]) slave).toll.classes.get 6 = true ∧
    (after (.read field 2 0 1) slave).out.uplink.map sentPayload =
      [[1, 2, 0, 0, 0, 1, 0, 1, 10, 1, 0]] := by decide +kernel

/-! ## Steps -/

/-- The table gives its rows no bits: no word spells a command, and the state stays. -/
theorem test_no_words :
    decodeTableWord 16 0x1234 = none ∧ (slave.withFetchWord 16 0x1234).pending = [] := by
  decide +kernel

/-- A step takes the command in front; an empty queue lets the cycle period pass, in three parts
(log 2). -/
theorem test_steps :
    (let t := stepped (slave.withPending [.signalLost .w, .uplinkUp])
     t.pending = [.uplinkUp] ∧ t.line.w.rx = .down) ∧
    (stepped slave).pending = [.pollTimerExpiry] ∧ (stepped slave).period.stage = .closing ∧
    (ended slave).period.stage = .sending ∧ (ended slave).pending = [.missingCycle] ∧
    (let t := opened (after .missingCycle (ended slave))
     t.out.txE.length = 1024 ∧ t.out.txW.length = 1024 ∧ t.pending = [.pollTimerExpiry] ∧
     t.journal.subSecond = 1) := by
  decide +kernel

/-- R2, R18, R23, R195: the master originates number 0, and the first POLL goes out, in the period in
which it is powered on; the next opens with number 1. R20: a READ in the first cycle without a header
of the centre sees the age at 1. -/
theorem test_first_cycle :
    (let s := after (.powerOn true) State.reset
     let t := ended s
     (stepped s).pending = [.pollTimerExpiry] ∧ t.pending = [.originateCycle] ∧
     (after .originateCycle t).timer.number = 0 ∧
     (opened (after .originateCycle t)).timer.number = 1 ∧
     (opened (after .originateCycle t)).pending.head? = some .originateCycle) ∧
    (stepped slave).prot.age = 1 := by
  decide +kernel

/-- R7, R18, R21: the cycle in which the uplink is lost and port E fails carries CENTRE_UP clear and
FAR_END_FAULT set at E. -/
theorem test_flags_of_the_cycle :
    let t := ended (after (.signalLost .e) (after .uplinkDown (after .originateCycle master)))
    (decodeCycleHeader t.out.txE).map (fun h => (h.centreUp, h.farEnd)) = some (false, true) ∧
    (decodeCycleHeader t.out.txW).map (fun h => (h.centreUp, h.farEnd)) = some (false, false) ∧
    t.cond.copy.get condDetached = true ∧ t.pending = [] := by
  decide +kernel

/-- 5.7: a plan issued in the cycle numbered 1000 for cycle 1032 rides in the next originated cycle,
numbered 1001. -/
theorem test_plan_rides :
    let s := { allocating with sw := { allocating.sw with budget := 256 } }
    let t := after (.callRequest 5 { node := 5, position := 0 } false false false)
      (after .originateCycle s)
    let u := after .originateCycle (opened t)
    u.timer.number = 1001 ∧ t.sw.vsig.length = 1 ∧ u.sw.vsig = [] := by
  decide +kernel

/-- R25: a slave that has passed the S cycle of the period on at W keeps it there when its port E
fails before a header from P. -/
theorem test_begun_cycle :
    let s := after (.headerReceived .e (bareCycle header)) slave
    let t := after .missingCycle (ended (after (.signalLost .e) s))
    t.prot.state = .wrapEast ∧ t.timer.missing = 1 ∧ t.out.txW.drop 10 = s.out.txW.drop 10 := by
  decide +kernel

/-- R211: what leaves by the uplink carries both checks. -/
theorem test_uplink_checks :
    (after (.identify field) slave).out.uplink.map
      (fun os => (checkHolds (os.take 12), os.length)) = [(true, 35)] := by
  decide +kernel

/-- R25: a slave without a header in the cycle that enters ISOLATED is in holdover for it. -/
theorem test_isolated_cycle :
    (ended (after (.signalLost .w) (after (.signalLost .e) slave))).pending = [.holdoverCycle] := by
  decide +kernel

/-- R19: the thousandth cycle still counts a header of a second master. -/
theorem test_duplicate_timer :
    let s := master.modTimer fun x => { x with duplicate := some 1000 }
    let seen := after (.headerReceived .w (bareCycle { header with masterAddr := 9 })) s
    (stepped s).pending = [.duplicateMasterClear, .pollTimerExpiry] ∧
    (stepped seen).pending = [.pollTimerExpiry] := by
  decide +kernel

/-! ## Ill-formed commands

Every check of `Instr.wellFormed` refuses a term that breaks it. -/

/-- Operands wider than the field that carries them. -/
theorem test_wellFormed_operands :
    [Instr.headerReceived .w (List.replicate 1023 0), .uplinkFrame [], .fieldFrame [],
     .callQueued { node := 7, position := 0 } 256,
     .planUpdate .taken 1 1 0 [0], .vsigFrameIgnored (List.replicate 497 0),
     .callStatus 5 [], .callStatus 5 (List.replicate 5 { node := 5, position := 0 }),
     .setVoiceCapacity centre 256, .tollFrameIgnored .taken 1 (List.replicate 497 0),
     .setCentreFlag centre 256 1, .setCentreFlag centre 1 256, .setMask centre 256,
     .eventAck centre (some []), .eventAck centre (some [256]), .signShow centre 256 1 0,
     .signShow centre 1 256 0, .signShow centre 1 1 65536, .signFrame 0 (List.replicate 497 0),
     .signTest centre 256, .signAccept 64, .signStatusAnswer 64 0, .signBadAnswer [],
     .mgmtFrameReceived .centre (frame 7 0 2 []), .read centre 256 0 0, .read centre 1 65536 0,
     .read centre 1 0 65536, .write centre 256 0 0 [], .write centre 1 65536 0 [],
     .write centre 1 0 65536 [], .write centre 1 0 0 (List.replicate 491 0),
     .forceWrap centre 256, .acceptAdd centre 256 0, .acceptAdd centre 0 256,
     .acceptRemove centre 256 0, .callBack centre 256, .assignAddresses centre 256,
     .allocFrameIgnored 5 (List.replicate 497 0)].all (fun i => !i.wellFormed) = true := by
  decide +kernel

/-- Entries of a WRITE that their octets cannot hold, or too many of them. -/
theorem test_wellFormed_writes :
    (let channel := ChannelWrite.mk 0 1 0 0 0 1 0 0 0 0 0 0 0 0 1 0
     let rule := RuleWrite.mk 0 0 none 0 1 1 0
     [Instr.writeRingSettings centre 65536 [], .writeRingSettings centre 0 [(256, 0)],
      .writeRingSettings centre 0 [(0, 65536)], .writeTollSettings centre 0 [(-1, 0)],
      .writeTollSettings centre 0 [(0, 256)], .writeClassTable centre 1 [256],
      .writeChannelTable centre 0 [{ channel with source := 256 }],
      .writeChannelTable centre 0 [{ channel with gain := 32768 }],
      .writeChannelTable centre 0 [{ channel with persist := -1 }],
      .writeChannelTable centre 0 (List.replicate 20 channel),
      .writeEventTable centre 0 [(256, 0)], .writeEventTable centre 0 [(0, 256)],
      .writeSignRules centre 0 [{ rule with condA := 256 }],
      .writeSignRules centre 0 [{ rule with condB := some 255 }],
      .writeSignRules centre 0 [{ rule with priority := 256 }],
      .writePageTable centre 1 [[{ block := 65536, length := 0, endMark := 0 }]],
      .writePageStore centre 0 [[0]], .writePageStore centre 0 (List.replicate 8 []),
      .writeSignSettings centre 0 [(256, 0)]]).all (fun i => !i.wellFormed) = true := by
  decide +kernel

/-- A request of the centre from a source other than 0. -/
theorem test_wellFormed_heads :
    (let h : Head := { centre with source := 3 }
     [Instr.signClear h, .signResend h, .restart h, .clearForce h, .denyAdd h 1, .denyRemove h 1,
      .denyClear h, .fieldLock h, .fieldUnlock h, .wxRead h, .countsClear h, .identify h,
      .addressClear h, .setMask h 0, .read h 1 0 0]).all (fun i => !i.wellFormed) = true ∧
    (Instr.identify field).wellFormed = true := by decide +kernel

/-! ## Hypotheses that can be met

For every statement with hypotheses: operands and states that meet them, clause by clause. -/

theorem slave_ring : RingSlave slave := by unfold RingSlave; decide +kernel

/-- Slave 7 with port W replaced. -/
def withW (p : LinePort) : State := { slave with line := { slave.line with w := p } }

/-- Slave 7 DETACHED. -/
def detached : State := slave.modProt fun x =>
  { x with linked := false, handed := false, age := 16 }

/-- A slave without address. -/
def unassigned : State := { detached with agent := Agent.reset false }

/-- Slave 7 ISOLATED. -/
def isolated : State := detached.modProt fun x => { x with state := .isolated }

/-- Slave 7 ISOLATED, both its ports UNHEALTHY. -/
def isolating : State :=
  { isolated with line := { isolated.line with w := LinePort.reset, e := LinePort.reset } }

theorem test_RowsOutOfTurn_hypotheses :
    (portAt slave .w).rx ≠ .down ∧ (portAt slave .w).rx ≠ .aligning ∧
    wtrDue (withW { upPort with health := .unhealthy, wtrTimer := some 9999 }) .w = false ∧
    bringUpDue (withW { upPort with
      health := .unhealthy, everHealthy := false, bringUp := 15 }) .w = false ∧
    master.isMaster = true ∧ slave.timer.duplicate = none ∧ slave.isMaster = false ∧
    hookDue slave 2 .off = false ∧
    hookDue (calling fun p => { p with debounced := .off, hookCount := 19 }) 2 .on = false ∧
    slave.pins.buttons.get 2 = false ∧ (posAt slave 2).resend = none ∧
    (posAt slave 2).call ≠ .ringing ∧
    (slave.modPhone fun x => { x with statusTimer := 999 }).phone.statusTimer < 1000 ∧
    slave.phone.pendingAt = none ∧ slave.toll.run = [] ∧ slave.toll.pendingTable = [] ∧
    slave.toll.answers = [] ∧ reachable detached = false ∧
    (slave.modPeriod fun x => { x with restarted := true }).period.restarted = true ∧
    slave.journal.subSecond < 1000 ∧
    slave.wx.clock < 100 ∧ pulseDue slave 2 = false ∧ (slave.wx.table.get 3).source = .none ∧
    slave.sign.test = none ∧ slave.sign.centre = none ∧ slave.sign.hold = none ∧
    slave.sign.sender.state ≠ .sending ∧ slave.sign.sender.state ≠ .awaiting ∧
    (after .pollTimerExpiry slave).sign.sender.state ≠ .idle ∧
    slave.agent.walk.running = false := by decide +kernel

theorem test_PortCommands_hypotheses :
    (let s := State.reset
     (portAt s .w).rx = .down ∧ (portAt s .w).errorRun < 3 ∧ (portAt s .w).farEndRun < 3 ∧
     (portAt s .w).health = .unhealthy) ∧
    (let s := withW { LinePort.reset with rx := .aligning, faulted := false, alignCycles := 5 }
     (portAt s .w).rx = .aligning ∧ (portAt s .w).entryFrom = .fromDown ∧
     5 ≤ (portAt s .w).alignCycles) ∧
    (let s := withW { upPort with health := .unhealthy, wtrTimer := some 10000 }
     ∃ k ∈ (portAt s .w).wtrTimer, s.period.inForce.wtrSeconds * 1000 ≤ k) ∧
    (let s := withW { upPort with health := .unhealthy, everHealthy := false, bringUp := 16 }
     portClear (portAt s .w) = true ∧ (portAt s .w).health = .unhealthy ∧
     (portAt s .w).everHealthy = false ∧ s.prot.forced ≠ some .w ∧ 16 ≤ (portAt s .w).bringUp) := by
  decide +kernel

/-- A cycle of a header with two frames, the second without a hop left. -/
def loaded : Octets := encodeCycle header (silentVoice 8)
  [frame 4 5 6 [1], { frame 4 5 6 [1] with hop := 1 }]

/-- The master that holds that cycle for carrying. -/
def carrying : State := master.modProt fun x => { x with heldS := some loaded }

/-- The frames of that cycle, as a reader finds them. -/
theorem loaded_frames :
    loaded.length = 1024 ∧ decodeCycleHeader loaded = some header ∧
    zoneItems (zoneOf 8 loaded) =
      [frame 4 5 6 [1], { frame 4 5 6 [1] with hop := 1 }].map ZoneItem.frame := by decide +kernel

theorem test_HeadersAlign_hypotheses :
    (let aligning := withW { LinePort.reset with
       rx := .aligning, markerFound := true, alignRun := 7 }
     decodeCycleHeader (bareCycle header) = some header ∧
     decodeCycleHeader (List.replicate 1024 0) = none ∧ (portAt slave .w).rx = .up ∧
     (portAt (withW { upPort with errorRun := 2 }) .w).rx = .up ∧
     (portAt (withW { upPort with errorRun := 1 }) .w).errorRun < 2 ∧
     (portAt aligning .w).rx = .aligning ∧ (portAt aligning .w).markerFound = true ∧
     (portAt aligning .w).alignRun ≤ 7 ∧
     (portAt State.reset .w).rx = .down) ∧
    (let s := withW { LinePort.reset with rx := .aligning }
     (portAt s .w).rx = .aligning ∧ (portAt s .w).markerFound = false) ∧
    (slave.prot.state = .ring ∧ slave.isMaster = false ∧ (portAt slave .e).rx = .up ∧
     (portAt (after (.signalLost .e) slave) .e).rx ≠ .up ∧ master.prot.state = .ring ∧
     master.isMaster = true ∧ (portAt master .e).rx = .up ∧
     (decodeCycleHeader (bareCycle header)).isSome = true ∧ master.prot.heldS = none ∧
     loaded ∈ carrying.prot.heldS) := by decide +kernel

/-- R4 to R6, R8: the third failed header in a row faults the port with ALIGN in UP, with HEADERS in an
ALIGNING entered from DOWN; the third header with FAR_END_FAULT faults it with FAR_END. -/
theorem test_header_faults :
    let bad : Octets := List.replicate 1024 0
    let far := bareCycle { header with farEnd := true }
    ([(bad, { upPort with errorRun := 2 }), (far, { upPort with farEndRun := 2 }),
      (bad, { upPort with rx := .aligning, entryFrom := .fromDown, markerFound := true
                          alignCycles := 2, errorRun := 2 })].map fun x =>
      let p := portAt (after (.headerReceived .w x.1) (withW x.2)) .w
      (p.faulted, p.reason, p.health, p.portFaults)) =
    [(true, .align, .unhealthy, 1), (true, .farEnd, .unhealthy, 1),
     (true, .headers, .unhealthy, 1)] := by decide +kernel

theorem test_TimingLocks_hypotheses :
    SpeechWhole slave ∧ (bareCycle header).length = 1024 ∧ slave.isMaster = false ∧
    processedPort slave.prot.state = some .w ∧ outPort slave.prot.state = some .e ∧
    (portAt slave .w).rx = .up ∧ decodeCycleHeader (bareCycle header) = some header ∧
    (slave.timer.adoptNext = false ∧ slave.timer.holdover = false ∧
      header.origin ≠ slave.timer.record.origin) ∧
    header.origin = .master ∧ header.centreUp = true ∧
    (after (.headerReceived .w (bareCycle header)) slave).timer.recirculating = false ∧
    (after (.headerReceived .w (bareCycle header)) slave).timer.repeatRun < 256 ∧
    decodeCycleHeader (bareCycle { header with centreUp := false }) =
      some { header with centreUp := false } ∧
    (let x : SlotPair := { up := 4, down := 5 }
     let active := { slave.phone.active with entries := (Tab.fill 4 none).set 2 (some x) }
     let s := slave.modPhone fun p => { p with active }
     x ∈ s.phone.active.entries.get 2 ∧ x.up.val < header.u.toNat ∧
     (∀ k, k ≠ 2 → ∀ y ∈ s.phone.active.entries.get k, y.up ≠ x.up) ∧
     (7 < header.u.toNat ∧ ∀ q, ∀ x ∈ s.phone.active.entries.get q, x.up.val ≠ 7)) :=
  ⟨by unfold SpeechWhole; decide +kernel, by decide +kernel⟩

/-- Slave 7 in holdover. -/
def drifting : State := slave.modTimer fun x => { x with holdover := true, missing := 4 }

theorem test_MissingHoldover_hypotheses :
    slave.isMaster = false ∧ slave.period.processed = false ∧ slave.timer.holdover = false ∧
    (slave.modTimer fun x => { x with missing := 2 }).timer.missing < 3 ∧
    3 ≤ (slave.modTimer fun x => { x with missing := 3 }).timer.missing ∧
    drifting.timer.holdover = true ∧ drifting.period.processed = false ∧
    outPort slave.prot.state = some .e ∧ isolated.prot.state = .isolated ∧
    isFed slave .e = false ∧ isFed (slave.modPeriod fun x => { x with fedE := true }) .e = true := by
  decide +kernel

theorem test_MasterOriginates_hypotheses :
    SpeechWhole master ∧ master.isMaster = true ∧ master.prot.state ≠ .isolated ∧
    master.period.originated = false ∧ (after .originateCycle master).period.originated = true ∧
    master.prot.state = .ring ∧ outPort master.prot.state = some .e ∧
    master.prot.heldS = none ∧ carrying.prot.state = .ring ∧ loaded ∈ carrying.prot.heldS ∧
    (∀ x ∈ [(ProtState.wrapEast, Port.e), (.wrapWest, .w), (.isolated, .w), (.isolated, .e)],
      x.1 ≠ .ring ∧ outPort x.1 ≠ some x.2) :=
  ⟨by unfold SpeechWhole; decide +kernel, by decide +kernel⟩

/-- The master with position 2 of its own in a given shape. -/
def ownCall (f : Position → Position) : State := modPos 2 f master

/-- A node DETACHED so far as its blocks know, whose cycle ends LINKED, FALL of condition 48 on. -/
def relinking (s : State) : State :=
  let s := s.modProt fun x => { x with handed := false, linked := true }
  let s := s.modCond fun x => { x with
    copy := x.copy.set condDetached true
    table := x.table.modify condDetached fun e => { e with fall := true } }
  s.modPeriod fun x => { x with stage := .closing }

theorem test_CentreLost_hypotheses :
    slave.isMaster = false ∧ slave.prot.linked = true ∧
    256 ≤ (slave.modTimer fun x => { x with repeatRun := 256 }).timer.repeatRun ∧
    slave.timer.recirculating = false ∧
    15 ≤ (slave.modProt fun x => { x with age := 15 }).prot.age ∧
    (let s := detached.modProt fun x => { x with handed := true }
     let s := s.modPeriod fun x => { x with stage := .closing }
     s.period.stage = .closing ∧
     s.prot.state = protectionOf s.line.w.health s.line.e.health ∧ s.prot.handed = true ∧
     s.prot.linked = false ∧ isIsolated s = false ∧ s.toll.answers.length ≤ 32 ∧
     s.journal.records.length ≤ 512) ∧
    (let s := relinking (modPos 2 (fun p => { p with call := .held })
       (changeCondition true condDetached true detached))
     s.prot.state = protectionOf s.line.w.health s.line.e.health ∧ s.prot.handed = false ∧
     s.prot.linked = true ∧ RingSlave s ∧
     (∀ c ∈ [condWrapped, condIsolated, condJournalNonempty, condJournalFull],
       s.cond.copy.get c = ownerFlag s c.val) ∧ (posAt s 2).call = .held ∧
     isIsolated s = false ∧ s.sw.vsig.length + 1 ≤ 16 ∧
     (s.cond.events.filter fun x => decide (s.cond.mask < x.level) || x.level == 7) ≠ [] ∧
     s.sw.alarm.length + 2 ≤ capacityOf .alarm) := by
  unfold RingSlave
  decide +kernel

theorem test_CentreLost_master_hypotheses :
    (let s := relinking (ownCall fun p => { p with call := .held })
     let waits := s.modAlloc fun a => { a with capacity := 1 }
     let called := s.modAlloc fun a => { a with
       slots := (a.slots.set 0 (.held 0 false)).set 1 (.held 0 false)
       calls := [{ node := 0, position := 2, slots := { up := 0, down := 1 }, priority := false
                   phase := .planning, age := 0 }] }
     let version := nextVersion (s.alloc.plans.get 0).lastIssued
     s.isMaster = true ∧ s.agent.address = some 1 ∧ s.pins.uplinkUp = true ∧
     s.period.stage = .closing ∧
     s.prot.state = protectionOf s.line.w.health s.line.e.health ∧ s.prot.handed = false ∧
     s.prot.linked = true ∧
     (∀ c ∈ [condWrapped, condIsolated, condJournalNonempty, condJournalFull],
       s.cond.copy.get c = ownerFlag s c.val) ∧
     (indices 4).filter (fun q => (posAt s q).call == .held) = [2] ∧ holdsSlots s 2 = false ∧
     (canGrant waits.alloc = false ∧ waits.alloc.waiting = [] ∧ callOf waits.alloc 0 2 = none) ∧
     ((callOf called.alloc 0 2).isSome = true ∧ called.alloc.waiting = [] ∧
       CallsHoldSlots called) ∧
     (callOf s.alloc 0 2 = none ∧ canGrant s.alloc = true ∧ CallsHoldSlots s) ∧
     knownVersion s.phone version = false ∧ loadable s.phone version = true ∧
     (wellFormedEntries (encodeEntries (currentEntries called.alloc 0))).isSome = true ∧
     (s.cond.copy.get condDetached = true ∧ 1 ≤ (s.cond.table.get condDetached).level ∧
       (s.cond.table.get condDetached).fall = true)) := by
  unfold CallsHoldSlots callHolds
  decide +kernel

/-- R171, log 13: with FALL of condition 48 on, a relink makes two reports out of the master's uplink,
the second with the falling event. -/
theorem test_relink_reports :
    let s := relinking (ownCall fun p => p)
    let pending : PendingEvent :=
      { condition := 3, rise := true, level := 6, stamp := 9, repeats := 1 }
    let s := s.modCond fun x => { x with events := [pending] }
    ((stepped s).out.uplink.map fun os => (sentPayload os).length) = [8, 16] := by decide +kernel

theorem test_MasterReach_hypotheses :
    SpeechWhole master ∧ master.isMaster = true ∧ processedPort master.prot.state = some .w ∧
    (portAt master .w).rx = .up ∧
    (let own := { header with number := 1 }
     decodeCycleHeader (bareCycle own) = some own ∧ own.masterAddr = 1 ∧
     own.origin = .master ∧ master.agent.address = some 1 ∧
     (master.timer.number - own.number).toNat < 1000 ∧ ahead own.number 0 = true ∧
     ((own.number == 1) = true) ∧ zoneItems (zoneOf own.u.toNat (bareCycle own)) = []) ∧
    (let f := frame 4 5 6 [1]
     let zone := zoneOf 8 (encodeCycle header (silentVoice 8) [f, { f with hop := 2 }])
     zoneItems zone = [f, { f with hop := 2 }].map ZoneItem.frame ∧ frameFault f = none ∧
     frameFault { f with hop := 2 } = none ∧ f.source ≠ 0 ∧ f.source ≠ 1 ∧ f.dest ≠ 0 ∧
     f.dest ≠ 1 ∧ f.dest ≠ 255 ∧ 2 ≤ { f with hop := 2 }.hop.toNat) ∧
    (let other := { header with number := 0 }
     decodeCycleHeader (bareCycle other) = some other ∧ other.origin = .master ∧
     ¬ (other.masterAddr = 1 ∧ (master.timer.number - other.number).toNat < 1000)) ∧
    (let lost := { header with origin := .holdover }
     decodeCycleHeader (bareCycle lost) = some lost ∧ lost.origin = .holdover) ∧
    (let s := changeCondition true condDuplicate true
       (master.modTimer fun x => { x with duplicate := some 1000 })
     (∃ k ∈ s.timer.duplicate, 1000 ≤ k) ∧ s.cond.copy.get condDuplicate = true) ∧
    slave.isMaster = false ∧
    (let x : SlotPair := { up := 4, down := 5 }
     let active := { master.phone.active with entries := (Tab.fill 4 none).set 2 (some x) }
     let s := master.modPhone fun p => { p with active }
     (bareCycle header).length = 1024 ∧ x ∈ s.phone.active.entries.get 2 ∧
     x.up.val < header.u.toNat ∧
     (∀ k, k ≠ 2 → ∀ y ∈ s.phone.active.entries.get k, y.up ≠ x.up) ∧
     header.u.toNat ≤ (8 : Fin 48).val ∧ (7 : Fin 48).val < header.u.toNat ∧
     ∀ q, ∀ x ∈ s.phone.active.entries.get q, x.up ≠ 7) :=
  ⟨by unfold SpeechWhole; decide +kernel, by decide +kernel⟩

theorem test_ForceAndClear_hypotheses :
    (∀ code ∈ [4, 5], Permitted centre code slave) ∧
    (let forced := (withW { upPort with health := .unhealthy }).modProt fun x =>
      { x with forced := some .w, state := .wrapWest }
     ForcedHeld forced ∧ Permitted centre 5 forced ∧ forced.prot.forced = some .w) ∧
    sideOf 0 = none ∧ sideOf 3 = none ∧ sideOf 1 = some .w ∧ sideOf 2 = some .e ∧
    slave.prot.forced = none ∧ slave.prot.forced ≠ some .w ∧
    (portAt slave .e).health = .healthy ∧
    (portAt (withW { upPort with health := .unhealthy }) .w).health = .unhealthy := by
  refine ⟨by unfold Permitted; decide +kernel, ⟨?_, ?_⟩, by decide +kernel⟩
  · intro p h
    cases Option.some.inj h
    decide +kernel
  · unfold Permitted
    decide +kernel

theorem test_IsolationDiscards_hypotheses :
    (portAt (after (.signalLost .e) slave) (otherPort .w)).health = .unhealthy ∧
    (∀ node ∈ [slave, master],
      let s := (after (.signalLost .w) (after (.signalLost .e) node)).modPeriod fun x =>
        { x with stage := .closing }
      s.period.stage = .closing ∧ ReachFollows s ∧ s.prot.state ≠ .isolated ∧
      s.line.w.health = .unhealthy ∧ s.line.e.health = .unhealthy ∧ s.prot.heldS = none ∧
      s.sw.records.length ≤ 8 ∧ s.prot.handed = s.prot.linked) ∧
    (let t := isolating.modPeriod fun x => { x with stage := .closing }
     t.period.stage = .closing ∧ ReachFollows t ∧ t.line.w.health = .unhealthy ∧
     t.line.e.health = .unhealthy ∧ t.prot.state = .isolated ∧ t.prot.handed = false ∧
     t.prot.linked = false ∧ isolating.agent.address.isSome = true) ∧
    (isolated.prot.state = .isolated ∧ isolated.line.w.health = .healthy ∧
     isolated.agent.address.isSome = true ∧ extent (sized 256) ≤ isolated.sw.budget ∧
     ∀ q ∈ allQueues, (queueFrames isolated.sw q).length < capacityOf q) ∧
    slave.isMaster = false ∧ master.isMaster = true := by
  unfold ReachFollows
  decide +kernel

theorem test_CycleRoundTrip_hypotheses :
    let voice := List.replicate 48 silence
    let fs := [frame 4 7 6 (List.replicate 496 0), frame 255 7 6 (List.replicate 102 1)]
    { header with u := 48 }.u.toNat ≤ 48 ∧ voice.length = 48 ∧ (∀ v ∈ voice, v.length = 8) ∧
    (∀ f ∈ fs, f.payload.length ≤ 496 ∧ f.dest ≠ 0xF5) ∧ extents fs = zoneSize 48 := by
  decide +kernel

theorem test_FormatsReadBack_hypotheses :
    let ref : CallRef := { node := 7, position := 3 }
    let es : PlanEntries := (Tab.fill 4 none).set 2 (some { up := 4, down := 47 })
    ([VsigMsg.callRequest ref true true true, .callRelease ref, .callStatus [ref],
      .callStatus [ref, ref, ref, ref], .callQueued ref 0, .callQueued ref 32,
      .planUpdate 1 2 (encodeEntries es), .planAccept 7 1, .planLate 7 1].all vsigFits) = true ∧
    (slotsNamed es.data).Nodup ∧ centre.wellFormed = true ∧
    requestInstr centre [17, 4, 1] = some (.setCentreFlag centre 4 1) ∧
    (Instr.setCentreFlag centre 4 1).wellFormed = true ∧
    (Instr.setCentreFlag centre 4 1).head? = some centre ∧
    requestOctets (.setCentreFlag centre 4 1) = some [17, 4, 1] := by decide +kernel

theorem test_FrameFate_hypotheses :
    RingSlave slave ∧
    (let good := frame 4 5 6 [1]
     (frame 241 5 6 []).dest.toNat = 241 ∧ (frame 254 5 6 []).dest.toNat = 254 ∧
     (frame 240 5 0 []).dest.toNat ≤ 240 ∧ (frame 240 5 0 []).service = 0 ∧
     6 < (frame 255 5 7 []).service.toNat ∧ 1 ≤ good.service.toNat ∧ good.service.toNat ≤ 6 ∧
     { good with check := 0 }.check ≠ payloadCheck good.payload ∧
     good.check = payloadCheck good.payload ∧ slave.agent.address = some (frame 4 7 6 []).source ∧
     slave.agent.address ≠ some good.source ∧ slave.agent.address = some (frame 7 5 6 []).dest ∧
     slave.agent.address ≠ some good.dest ∧ { good with hop := 2 }.hop.toNat = 2 ∧
     { good with hop := 1 }.hop.toNat ≤ 1 ∧ (frame 255 5 2 []).dest = 255 ∧
     slave.agent.address ≠ some (frame 255 1 1 [64, 5]).source ∧
     offerOf (frame 255 1 1 [64, 5]) = some 5) ∧
    (let good := frame 4 5 6 [1]
     frameFault good = none ∧ unassigned.isMaster = false ∧ unassigned.agent.address = none ∧
     offerOf good = none ∧ master.isMaster = true ∧ frameFault (frame 4 0 6 [1]) = none ∧
     (frame 4 1 6 [1]).source = 1 ∧ offerOf (frame 4 1 6 [1]) = none ∧
     master.agent.address = some 1 ∧ good.source ≠ 0 ∧ good.source ≠ 1 ∧
     frameFault (frame 0 5 6 [1]) = none ∧ master.pins.uplinkUp = true ∧
     slave.pins.uplinkUp = false ∧ good.dest ≠ 0 ∧ good.dest ≠ 1 ∧ good.dest ≠ 255) ∧
    (let good := frame 4 5 6 [1]
     let offer := fun (a : Octet) => frame 255 1 1 [64, a]
     (∀ a ∈ [(2 : Octet), 240], frameFault (offer a) = none ∧ offerOf (offer a) = some a ∧
       2 ≤ a.toNat ∧ a.toNat ≤ 240) ∧
     (∀ a ∈ [(1 : Octet), 241], frameFault (offer a) = none ∧ offerOf (offer a) = some a ∧
       (a.toNat < 2 ∨ 240 < a.toNat) ∧ 2 ≤ (offer a).hop.toNat) ∧
     (∀ n ∈ [41, 40],
       zoneItems (encodeZone n [good, offer 2]) = [good, offer 2].map ZoneItem.frame) ∧
     extents [good] + 24 ≤ (encodeZone 41 [good, offer 2]).length ∧
     ¬ extents [good] + 24 ≤ (encodeZone 40 [good, offer 2]).length ∧
     2 ≤ good.hop.toNat ∧ unassigned.isMaster = false ∧ unassigned.agent.address = none ∧
     isIsolated unassigned = false ∧ unassigned.sw.mgmt.length < 8 ∧
     24 ≤ unassigned.sw.budget ∧ frameFault (offer 3) = none ∧ master.isMaster = true) :=
  ⟨slave_ring, by decide +kernel, by decide +kernel, by decide +kernel⟩

/-- Slave 7 with every add queue full. -/
def stuffed : State := slave.modSw fun w => { w with
  alarm := List.replicate 4 (sized 24), vsig := List.replicate 16 (sized 24)
  tollLive := List.replicate 16 (sized 24), mgmt := List.replicate 8 (sized 24)
  tollDeferred := List.replicate 8 (sized 24), sign := List.replicate 4 (sized 24)
  wx := List.replicate 8 (sized 24) }

/-- A frame taken and one copied, on a slave and on the master, for the hand-over to their blocks. -/
theorem test_FrameFate_handed :
    (∀ service ∈ [(1 : Octet), 2, 3, 4, 5, 6],
      let f := frame 7 0 service [1]
      frameFault f = none ∧ slave.agent.address ≠ some f.source ∧
      slave.agent.address = some f.dest) ∧
    (∀ service ∈ [(1 : Octet), 2],
      let f := frame 255 0 service [1]
      frameFault f = none ∧ slave.agent.address ≠ some f.source ∧
      slave.agent.address ≠ some f.dest ∧ offerOf f = none ∧ 2 ≤ f.hop.toNat) ∧
    (let s := slave.modSw fun w => { w with accept := [(4, 5)] }
     let f := frame 255 1 4 [5, 1, 0, 9, 255, 255, 255, 255, 255, 255, 255, 255]
     frameFault f = none ∧ (f.service, f.channel) ∈ s.sw.accept ∧
     handedRow false .copy f = .planUpdate .copy 1 1 9 (List.replicate 8 255)) ∧
    (let f := frame 1 5 4 [2, 5, 0]
     frameFault f = none ∧ f.source ≠ 0 ∧ f.source ≠ 1 ∧ master.agent.address = some f.dest ∧
     handedRow true .taken f = .callRelease 5 { node := 5, position := 0 }) ∧
    handedRow false .taken { frame 7 0 3 [3, 0, 0, 0, 9, 1, 0, 0, 0, 2] with channel := 4 } =
      .tollAnswer .taken 3 9 1 2 ∧
    handedRow false .taken (frame 7 0 3 [3, 0, 0, 0, 9]) = .settled .taken 3 9 := by
  decide +kernel

theorem test_OfferRows_hypotheses :
    slave.agent.address = some 7 ∧ slave.agent.address ≠ some 1 ∧
    unassigned.agent.address = none ∧ isIsolated isolating = true ∧
    isolating.agent.address.isSome = true ∧
    slave.agent.address.isSome = true ∧ isIsolated slave = false ∧ budgeted .wx = true ∧
    slave.sw.budget < extent (sized 257) ∧ extent (sized 256) ≤ slave.sw.budget ∧
    (∀ q ∈ allQueues, ¬ capacityOf q ≤ (queueFrames slave.sw q).length) ∧
    ∀ q ∈ allQueues, capacityOf q ≤ (queueFrames stuffed.sw q).length := by decide +kernel

theorem test_FillWithinBudget_hypotheses :
    (∀ q, budgeted q = true → ∀ f ∈ queueFrames busy.sw q, extent f ≤ busy.sw.budget) ∧
    drifting.isMaster = false ∧ drifting.timer.holdover = true ∧
    drifting.period.processed = false ∧ outPort drifting.prot.state = some .e ∧
    isFed drifting .e = false ∧
    (let s := slave.modSw fun w => { w with wx := [sized 257, sized 300, sized 24] }
     budgeted .wx = true ∧ queueFrames s.sw .wx = [sized 257, sized 300] ++ [sized 24] ∧
     (∀ f ∈ [sized 257, sized 300], s.sw.budget < extent f) ∧ s.sw.records.length ≤ 8 ∧
     ∀ k, budgeted k = true → ∀ f ∈ queueFrames (s.modSw (setQueue .wx [sized 24])).sw k,
       extent f ≤ s.sw.budget) ∧
    (let s := master.modSw fun w => { w with
       holding := [sized 400, sized 400, sized 400], pool := [sized 500, sized 500] }
     SpeechWhole s ∧ s.isMaster = true ∧ outPort s.prot.state = some .e ∧
     s.prot.heldS = none ∧
     (∀ q, budgeted q = true → ∀ f ∈ queueFrames s.sw q, extent f ≤ s.sw.budget) ∧
     zoneSize (currentU s.alloc) < extents s.sw.holding) := by
  refine ⟨?_, by decide +kernel, by decide +kernel, by decide +kernel, by decide +kernel,
    by decide +kernel, ⟨rfl, rfl, by decide +kernel, by decide +kernel, ?_⟩,
    by unfold SpeechWhole; decide +kernel, by decide +kernel, by decide +kernel,
    by decide +kernel, ?_, by decide +kernel⟩ <;>
  · intro q
    cases q <;> decide +kernel

/-- A slave whose cycle goes missing, and one that repeats a cycle with two frames that pass. -/
theorem test_FillWithinBudget_slave :
    (slave.timer.record.u.toNat ≤ 48 ∧ slave.isMaster = false ∧ slave.timer.holdover = false ∧
     slave.timer.missing < 3 ∧ slave.period.processed = false ∧
     outPort slave.prot.state = some .e ∧ isFed slave .e = false) ∧
    RingSlave slave ∧ SpeechWhole slave ∧
    (let f := frame 4 5 6 [1]
     let cycle := encodeCycle header (silentVoice 8) [f, { f with hop := 2 }]
     processedPort slave.prot.state = some .w ∧ (portAt slave .w).rx = .up ∧
     decodeCycleHeader cycle = some header ∧ cycle.length = 1024 ∧
     slave.phone.pendingAt = none ∧
     zoneItems (zoneOf 8 cycle) = [f, { f with hop := 2 }].map ZoneItem.frame ∧
     frameFault f = none ∧ frameFault { f with hop := 2 } = none ∧
     slave.agent.address ≠ some f.source ∧ slave.agent.address ≠ some f.dest ∧ f.dest ≠ 255 ∧
     2 ≤ { f with hop := 2 }.hop.toNat) :=
  ⟨by decide +kernel, slave_ring, by unfold SpeechWhole; decide +kernel, by decide +kernel⟩

/-- The octets of an uplink frame, at the edges of each check of R42. -/
theorem test_readings :
    (let f := frame 4 0 6 [1]
     let os := encodeFrame f
     frameFault f = none ∧ f.payload.length ≤ 496 ∧ 12 ≤ os.length ∧
     halfAt os 10 = headerCheck (os.take 10) ∧ (halfAt os 8).toNat = 1 ∧
     os.length = 16 + 1 ∧ quadAt os (12 + 1) = payloadCheck [1]) ∧
    readUplink (withCheck [4, 0, 6, 5, 250, 0, 0, 1, 0x01, 0xF1]) =
      .bad .tooLong { dest := 4, source := 0, service := 6, channel := 5, hop := 250
                      length := 497 } ∧
    readUplink (withCheck [4, 0, 6, 5, 250, 0, 0, 1, 0x01, 0xF0]) =
      .bad .payloadCheck { dest := 4, source := 0, service := 6, channel := 5, hop := 250
                           length := 496 } ∧
    readUplink (encodeFrame (frame 254 0 9 [])) =
      .bad .badAddress { dest := 254, source := 0, service := 9, channel := 5, hop := 250
                         length := 0 } ∧
    readUplink (encodeFrame { frame 4 0 6 [1] with check := 0 }) =
      .bad .payloadCheck { dest := 4, source := 0, service := 6, channel := 5, hop := 250
                           length := 1 } := by
  decide +kernel

theorem test_UplinkPortFrames_hypotheses :
    let read := fun f => readUplink (encodeFrame f) = .frame f
    master.isMaster = true ∧ master.pins.uplinkUp = true ∧ slave.isMaster = false ∧
    readUplink [1] = .badHeader ∧ readUplink (List.replicate 12 0) = .badHeader ∧
    (∃ h ∈ [fieldsOf (encodeFrame (frame 4 0 7 []))],
      readUplink (encodeFrame (frame 4 0 7 [])) = .bad .badService h) ∧
    read (frame 0 0 6 []) ∧ read (frame 1 0 6 []) ∧ (frame 1 0 6 []).service ≠ svcVsig ∧
    read (frame 1 0 4 []) ∧ (frame 1 0 4 []).service = svcVsig ∧ (frame 1 0 4 []).source = 0 ∧
    read (frame 2 0 6 []) ∧ read (frame 240 0 6 []) ∧ isIsolated master = false ∧
    (isIsolated { isolating with isMaster := true, pins := master.pins } = true) ∧
    extent (frame 2 0 6 []) ≤ master.sw.budget ∧ budgeted (queueOf 6) = true ∧
    (master.modSw fun w => { w with budget := 64 }).sw.budget <
      extent (frame 2 0 6 (List.replicate 49 1)) ∧ read (frame 2 0 6 (List.replicate 49 1)) ∧
    (queueFrames master.sw (queueOf 6)).length < capacityOf (queueOf 6) ∧
    capacityOf (queueOf 6) ≤ (queueFrames stuffed.sw (queueOf 6)).length ∧
    read (frame 255 0 6 []) ∧ (frame 255 0 6 []).service ≠ svcMgmt ∧
    read (frame 255 0 1 [23]) ∧ decodeTaken (frame 255 0 1 [23]).payload = none ∧
    (frame 255 0 4 []).source = 0 ∧
    (frame 7 0 6 []).service ≠ svcMgmt ∧ read (frame 7 3 1 [23]) ∧
    isRequestFrame (frame 7 3 1 [23]) = true ∧ slave.agent.requests.length < 4 ∧
    4 ≤ (List.replicate 4 (QueuedRequest.mk field [23])).length := by decide +kernel

theorem test_ListsChange_hypotheses :
    (∀ code ∈ [10, 11, 12, 13, 14], Permitted centre code slave) ∧
    (let pairs : List (Octet × Octet) := List.replicate 32 (1, 31)
     let tags : List TagId := List.replicate 256 9
     let full := (slave.modSw fun w => { w with accept := pairs }).modToll fun x =>
       { x with deny := tags }
     (octet 6, octet 255) ∉ slave.sw.accept ∧ slave.sw.accept.length < 32 ∧
     (octet 1, octet 31) ∈ full.sw.accept ∧ (octet 6, octet 255) ∉ full.sw.accept ∧
     32 ≤ full.sw.accept.length ∧ (9 : TagId) ∈ full.toll.deny ∧ (5 : TagId) ∉ full.toll.deny ∧
     256 ≤ full.toll.deny.length ∧ (5 : TagId) ∉ slave.toll.deny ∧
     slave.toll.deny.length < 256 ∧ [(5 : TagId), 9].Pairwise (· < ·)) :=
  ⟨by unfold Permitted; decide +kernel, by decide +kernel⟩

/-- Slave 7 whose position 2 is about to go off-hook. -/
def lifting (f : Position → Position) : State :=
  { calling (fun p => f { p with hookCount := 20 }) with
    pins := { slave.pins with hooks := slave.pins.hooks.set 2 .off } }

/-- Slave 7 whose position 2 is about to go on-hook. -/
def hanging (f : Position → Position) : State :=
  calling fun p => f { p with debounced := .off, hookCount := 20 }

/-- Position 2 has slots 4 and 5 in the active bank. -/
def slotted (s : State) : State := s.modPhone fun x =>
  { x with active :=
    { version := 5, entries := (Tab.fill 4 none).set 2 (some { up := 4, down := 5 }) } }

theorem test_OffHook_hypotheses :
    (∀ s ∈ [lifting id, lifting fun p => { p with call := .ringing },
        lifting fun p => { p with call := .held }, slotted (lifting id)],
      RingSlave s ∧ s.pins.hooks.get 2 = .off ∧ (posAt s 2).debounced = .on ∧
      20 ≤ (posAt s 2).hookCount ∧ reachable s = true ∧
      s.cond.copy.get (condOffhook 2) = false) ∧
    (let s := (lifting id).modProt fun x => { x with linked := false, age := 16 }
     RingSlave s ∧ reachable s = false) := by
  unfold RingSlave
  decide +kernel

theorem test_OnHookAndPress_hypotheses :
    (∀ c ∈ [CallState.idle, .requesting, .waiting, .talking, .held, .ringing, .clearing, .dropped],
      let s := hanging fun p => { p with call := c }
      RingSlave s ∧ s.pins.hooks.get 2 = .on ∧ (posAt s 2).debounced = .off ∧
      20 ≤ (posAt s 2).hookCount ∧ (posAt s 2).call = c) ∧
    (let s := changeCondition true (condOffhook 2) true (hanging id)
     s.cond.copy.get (condOffhook 2) = true ∧ s.pins.hooks.get 2 = .on ∧
     (posAt s 2).debounced = .off ∧ 20 ≤ (posAt s 2).hookCount) ∧
    holdsSlots (slotted (hanging fun p => { p with call := .talking })) 2 = true ∧
    (∀ c ∈ [CallState.idle, .requesting, .waiting, .talking, .held],
      let s := { calling (fun p => { p with call := c, holdCount := 3999 }) with
        pins := { slave.pins with buttons := slave.pins.buttons.set 2 true } }
      RingSlave s ∧ s.pins.buttons.get 2 = true ∧ (posAt s 2).holdCount = 3999 ∧
      (posAt s 2).priority = false ∧ (posAt s 2).call = c) := by
  unfold RingSlave
  decide +kernel

theorem test_CallSignalling_hypotheses :
    (let s := calling fun p => { p with call := .requesting, resend := some 2000 }
     RingSlave s ∧ (posAt s 2).call = .requesting ∧ ∃ k ∈ (posAt s 2).resend, 2000 ≤ k) ∧
    (let s := calling fun p => { p with call := .waiting, resend := some 10000 }
     RingSlave s ∧ (posAt s 2).call = .waiting ∧ ∃ k ∈ (posAt s 2).resend, 10000 ≤ k) ∧
    (let s := slotted (calling fun p => { p with call := .clearing, resend := some 2000 })
     RingSlave s ∧ (posAt s 2).call = .clearing ∧ holdsSlots s 2 = true ∧
     ∃ k ∈ (posAt s 2).resend, 2000 ≤ k) ∧
    (let s := (calling fun p => { p with call := .talking }).modPhone fun x =>
       { x with statusTimer := 1000 }
     RingSlave s ∧ 1000 ≤ s.phone.statusTimer ∧ (posAt s 2).call == .talking) ∧
    (let s := (ownCall fun p => { p with call := .requesting, resend := some 2000 }).modAlloc
       fun a => { a with capacity := 1 }
     s.isMaster = true ∧ s.agent.address = some 1 ∧ (posAt s 2).call = .requesting ∧
     (∃ k ∈ (posAt s 2).resend, 2000 ≤ k) ∧ callOf s.alloc 0 2 = none ∧
     s.alloc.waiting.any (isRequest 0 2) = false ∧ canGrant s.alloc = false ∧
     s.alloc.waiting.length < 32) ∧
    (let s := (ownCall fun p => { p with call := .requesting, resend := some 2000 }).modAlloc
       fun a => { a with
         slots := (a.slots.set 0 (.held 0 false)).set 1 (.held 0 false)
         calls := [{ node := 0, position := 2, slots := { up := 0, down := 1 }, priority := false
                     phase := .planning, age := 0 }] }
     s.isMaster = true ∧ s.agent.address = some 1 ∧ (callOf s.alloc 0 2).isSome = true ∧
     reachable s = true ∧ CallsHoldSlots s ∧ s.alloc.waiting = [] ∧
     knownVersion s.phone (nextVersion (s.alloc.plans.get 0).lastIssued) = false ∧
     loadable s.phone (nextVersion (s.alloc.plans.get 0).lastIssued) = true ∧
     ((wellFormedEntries (encodeEntries
       (currentEntries (modCall 0 2 (renewCall false) s).alloc 0))).isSome = true)) := by
  unfold RingSlave CallsHoldSlots callHolds
  decide +kernel

theorem test_PositionCommands_hypotheses :
    Permitted centre 20 slave ∧
    ((posAt slave 2).call = .idle ∧
     (posAt (calling fun p => { p with call := .held }) 2).call ≠ .idle ∧
     slave.agent.address ≠ some (CallRef.mk 8 0).node ∧ 4 ≤ (CallRef.mk 7 4).position.toNat ∧
     slave.agent.address = some (CallRef.mk 7 3).node ∧
     (CallRef.mk 7 3).position.toNat = (3 : Fin 4).val ∧
     decodeVsig [] = none ∧ decodeVsig [4, 7, 3, 33] = none ∧
     decodeVsig (encodeVsig (.callRelease { node := 7, position := 3 })) =
       some (.callRelease { node := 7, position := 3 }) ∧
     phoneCanUse (.callRelease { node := 7, position := 3 }) = false) ∧
    (let s := calling fun p => { p with call := .ringing, ring := some 60000 }
     (posAt s 2).call = .ringing ∧ ∃ k ∈ (posAt s 2).ring, 60000 ≤ k) ∧
    (∀ c ∈ [CallState.requesting, .waiting, .talking],
      (posAt (calling fun p => { p with call := c }) 2).call = c) ∧
    RingSlave (calling fun p => { p with call := .waiting }) := by
  refine ⟨by unfold Permitted; decide +kernel, by decide +kernel, by decide +kernel,
    by decide +kernel, ?_⟩
  unfold RingSlave
  decide +kernel

/-- Slots 4 and 5 for position 2, as a PLAN_UPDATE carries them. -/
def slots45 : Octets := [255, 255, 255, 255, 4, 5, 255, 255]

theorem test_PlanUpdate_hypotheses :
    RingSlave slave ∧ reachable slave = true ∧ reachable detached = false ∧
    wellFormedEntries [4, 4, 255, 255, 255, 255, 255, 255] = none ∧
    (wellFormedEntries slots45).isSome = true ∧
    (let x := (slave.modPhone fun x => { x with cleared := false }).phone
     ¬ (255 = x.active.version) ∧ ¬ (newer 255 x.active.version = true ∨ x.cleared = true)) ∧
    slave.phone.active.version = 0 ∧ newer 127 slave.phone.active.version = true ∧
    slave.phone.pendingAt.isSome = false ∧ ahead 755 slave.timer.number = true ∧
    ahead 500 slave.timer.number = false ∧ ahead 756 slave.timer.number = false := by
  unfold RingSlave
  decide +kernel

/-- Slave 7 with a plan for position 2 whose switch cycle has come. -/
def switching (c : CallState) : State := (calling fun p => { p with call := c }).modPhone fun x =>
  { x with
    pendingAt := some 500
    standby := { version := 5, entries := (Tab.fill 4 none).set 2 (some { up := 4, down := 5 }) } }

theorem test_PlanSwitch_hypotheses :
    (∀ c ∈ [CallState.requesting, .waiting, .talking, .clearing, .idle], RingSlave (switching c)) ∧
    (∃ c ∈ (switching .talking).phone.pendingAt,
      ahead c (switching .talking).timer.number = false) ∧
    ((switching .talking).phone.standby.entries.get 2).isSome = true ∧
    (posAt (switching .talking) 2).call = .talking :=
  ⟨by unfold RingSlave; decide +kernel, ⟨500, rfl, by decide +kernel⟩, by decide +kernel⟩

/-- The master with one call of node 5, slots 4 and 5 HELD for it. -/
def oneCall (phase : CallPhase) (age : Nat) : State := allocating.modAlloc fun a => { a with
  slots := (a.slots.set 4 (.held 4 false)).set 5 (.held 4 false)
  calls := [{ node := 4, position := 0, slots := { up := 4, down := 5 }, priority := false, phase
              age }] }

/-- The master with `k` ordinary requests of node 9 waiting. -/
def queueing (k : Nat) (s : State) : State := s.modAlloc fun a => { a with
  waiting := List.replicate k { node := 8, position := 1, priority := false, arrival := 0 } }

theorem test_CallRequestRows_hypotheses :
    (let s := oneCall .releasing 0
     s.isMaster = true ∧ s.agent.address = some 1 ∧ (4 : Fin 240).val ≠ 0 ∧
     (callOf s.alloc 4 0).isSome = true) ∧
    (let s := queueing 1 (oneCall .planning 0)
     callOf s.alloc 8 1 = none ∧ (s.alloc.waiting.find? (isRequest 8 1)).isSome = true ∧
     canGrant s.alloc = false ∧ callOf s.alloc 6 1 = none ∧
     s.alloc.waiting.find? (isRequest 6 1) = none ∧ s.alloc.waiting.length < 32) ∧
    (let s := queueing 32 (oneCall .planning 0)
     callOf s.alloc 6 1 = none ∧ s.alloc.waiting.find? (isRequest 6 1) = none ∧
     canGrant s.alloc = false ∧ 32 ≤ s.alloc.waiting.length) ∧
    (callOf allocating.alloc 4 0 = none ∧
     allocating.alloc.waiting.find? (isRequest 4 0) = none ∧
     canGrant allocating.alloc = true) := by decide +kernel

theorem test_AllocMessages_hypotheses :
    (let s := oneCall .inForce 2999
     s.isMaster = true ∧ s.agent.address = some 1 ∧ (4 : Fin 240).val ≠ 0 ∧
     (callOf s.alloc 4 0).isSome = true ∧ callOf s.alloc 4 1 = none ∧
     (s.alloc.calls.map fun e => (e.node, e.position)).Nodup) ∧
    ((0 : Octet) = 0 ∧ 240 < (241 : Octet).toNat ∧ (CallRef.mk 6 0).node ≠ nodeAddr 4 ∧
     4 ≤ (CallRef.mk 5 4).position.toNat ∧ decodeVsig [9] = none ∧
     decodeVsig (encodeVsig (.callQueued { node := 5, position := 0 } 1)) =
       some (.callQueued { node := 5, position := 0 } 1) ∧
     phoneCanUse (.callQueued { node := 5, position := 0 } 1) = true) := by decide +kernel

/-- Node 5 with plan 8 in flight, sent a number of times. -/
def awaited (sends : Nat) (seen : Bool) (s : State) : State := s.modAlloc fun a => { a with
  plans := a.plans.modify 4 fun r => { r with
    lastIssued := 8
    inFlight := some {
      plan := { version := 8, switchCycle := 936, entries := .fill 4 none }, sends, seen } } }

theorem test_PlanAnswers_hypotheses :
    (let r := allocating.alloc.plans.get 4
     r.inFlight.filter (fun f => f.plan.version == 7) = none ∧ r.accepted.version = 7 ∧
     r.accepted.version ≠ 6) ∧
    (∀ seen ∈ [true, false],
      let s := awaited 1 seen (oneCall .releasing 0)
      s.isMaster = true ∧ s.agent.address = some 1 ∧ (4 : Fin 240).val ≠ 0 ∧
      ((s.alloc.plans.get 4).inFlight.filter fun f => f.plan.version == 8).isSome = true ∧
      s.alloc.waiting = []) := by decide +kernel

/-- Node 5 with its accepted plan not come round, and with a quarantine timer. -/
def rounding (c : Half) (seen : Bool) (s : State) : State := s.modAlloc fun a => { a with
  plans := a.plans.modify 4 fun r => { r with
    comeRound := false, acceptedSeen := seen
    accepted := { version := 7, switchCycle := c, entries := .fill 4 none } } }

/-- Node 5 absent, its slots 4 and 5 in quarantine. -/
def quarantined : State := allocating.modAlloc fun a => { a with
  slots := (a.slots.set 4 (.held 4 true)).set 5 (.held 4 true)
  plans := a.plans.modify 4 fun r => { r with absent := true, quarantine := some 5000 } }

theorem test_AllocClock_hypotheses :
    (let s := rounding 990 true allocating
     s.isMaster = true ∧ s.agent.address = some 1 ∧ (s.alloc.plans.get 4).comeRound = false ∧
     (s.alloc.plans.get 4).acceptedSeen = true ∧ s.alloc.waiting = []) ∧
    (let s := rounding 0 false allocating
     (s.alloc.plans.get 4).comeRound = false ∧
     ahead (s.alloc.plans.get 4).accepted.switchCycle s.timer.number = false ∧
     1000 ≤ (s.timer.number - (s.alloc.plans.get 4).accepted.switchCycle).toNat) ∧
    (∀ sends ∈ [1, 3, 4], ∃ f ∈ ((awaited sends false allocating).alloc.plans.get 4).inFlight,
      ahead f.plan.switchCycle allocating.timer.number = false ∧
      64 ≤ (allocating.timer.number - f.plan.switchCycle).toNat ∧ f.sends = sends) ∧
    (∃ k ∈ (quarantined.alloc.plans.get 4).quarantine, 5000 ≤ k) ∧
    ∃ e ∈ (callOf (oneCall .inForce 3000).alloc 4 0).filter isLive, 3000 ≤ e.age := by
  decide +kernel

theorem test_CapacityAndGrants_hypotheses :
    (∀ s ∈ [allocating, queueing 1 allocating], Permitted centre 26 s) ∧
    (3 < currentU allocating.alloc ∧ currentU allocating.alloc ≤ 4 ∧
     min 6 48 ≤ allocating.alloc.capacity ∧ allocating.alloc.waiting = [] ∧
     (queueing 1 allocating).alloc.capacity < min 7 48) ∧
    (let s := rounding 990 true (queueing 1 (allocating.modAlloc fun a => { a with
       slots := a.slots.set 4 (.held 4 false) }))
     s.isMaster = true ∧ comeRoundDue s 4 = true ∧ ∃ k, slotFreed s.alloc 4 k = true) ∧
    ((∃ k ∈ ((queueing 1 quarantined).alloc.plans.get 4).quarantine, 5000 ≤ k) ∧
     ∃ k, (queueing 1 quarantined).alloc.slots.get k = .held 4 true) ∧
    (let s := awaited 1 true (queueing 1 (oneCall .releasing 0))
     ∃ f ∈ (s.alloc.plans.get 4).inFlight, f.plan.version = 8 ∧
       s.alloc.calls.any (callEnded 4 f.plan.entries) = true) :=
  ⟨by unfold Permitted; decide +kernel, by decide +kernel⟩

/-- The toll block of a run that the next octets complete. -/
def block (kind cls : Octet) (lane : Octet) : Octets :=
  withCheck ([0x7E, kind, lane, cls] ++ octets4 7710 ++ List.replicate 30 1)

/-- The key of those blocks on lane 3. -/
def key3 : TollKey := { lane := 3, txn := 7710 }

/-- Slave 7 holding that charge in its pending table, at a given timer. -/
def pendingCharge (timer : Nat) : State := slave.modToll fun x =>
  { x with pendingTable := [{ key := key3, block := block 1 2 3, arrival := 1, timer }] }

/-- Slave 7 holding that charge in its journal. -/
def journalled (v : Verdict) (inFlight : Option Nat) : State := slave.modJournal fun j =>
  { j with records := [{ key := key3, block := block 1 2 3, verdict := v, journalledAt := 0
                         offers := 0, inFlight }] }

/-- R130, R175: a journal that loses its record, is restarted and gains one in one cycle moves
neither condition; a record that the RESTART hands over sets condition 56 without an event. -/
theorem test_journal_net :
    (let record := JournalRecord.mk key3 (block 1 2 3) .provisional 0 0 none
     let s := (slave.modJournal fun j => { j with records := [record] }).modCond fun u =>
       { u with copy := u.copy.set condJournalNonempty true }
     let t := after (.restart centre) (after (.tollAnswer .taken 3 7710 1 0) s)
     let u := ended (t.modJournal fun j => { j with records := [record] })
     t.journal.records = [] ∧ u.cond.copy.get condJournalNonempty = true ∧ u.cond.events = []) ∧
    (let t := ended (after (.restart centre) (pendingCharge 5))
     t.cond.copy.get condJournalNonempty = true ∧ t.cond.events = []) ∧
    (ended (after (.restart centre) (journalled .provisional none))).cond.events.map
      (·.condition) = [condJournalNonempty] := by
  decide +kernel

theorem test_TollBlocks_hypotheses :
    (slave.toll.run = [] ∧ slave.toll.runExtra = 0 ∧
     octetAt (0 :: (block 1 2 3).drop 1) 0 ≠ 0x7E ∧ ((block 1 2 3).take 39).length + 0 ≠ 40 ∧
     octetAt (block 1 2 3) 0 = 0x7E ∧ (block 1 2 3).length = 40 ∧
     checkHolds ((block 1 2 3).take 39 ++ [~~~octetAt (block 1 2 3) 39]) = false ∧
     checkHolds (block 1 2 3) = true ∧ octetAt (block 3 2 3) 1 = 3 ∧ octetAt (block 2 2 3) 1 = 2 ∧
     checkHolds (block 2 2 3) = true ∧ reachable detached = false ∧
     reachable slave = true ∧ octetAt (block 1 2 3) 1 = 1 ∧ isIsolated slave = false ∧
     reachable stuffed = true ∧ isIsolated stuffed = false ∧ 56 ≤ stuffed.sw.budget ∧ 16 ≤ stuffed.sw.tollLive.length ∧
     (blockKey (block 1 1 1)).lane.toNat = 1 ∧ (blockKey (block 1 7 8)).lane.toNat = 8 ∧
     blockClass (block 1 1 1) = 1 ∧ blockClass (block 1 7 8) = 7 ∧
     ¬ (blockKey (block 1 7 9)).lane.toNat ≤ 8 ∧ ¬ blockClass (block 1 8 8) ≤ 7 ∧
     blockKey (block 1 2 3) = key3 ∧ (pendingOf (pendingCharge 0) key3).isSome = true ∧
     (journalRecord (journalled .provisional none) key3).isSome = true ∧
     pendingOf (journalled .provisional none) key3 = none ∧
     (∃ r ∈ journalRecord (journalled .unanswered none) key3, r.verdict = .unanswered)) ∧
    CentreOpen .tollLive 56 slave ∧ RingSlave stuffed := by
  unfold CentreOpen RingSlave
  decide +kernel

theorem test_NewCharges_hypotheses :
    (slave.toll.run = [] ∧ slave.toll.runExtra = 0 ∧ octetAt (block 1 2 3) 0 = 0x7E ∧
     (block 1 2 3).length = 40 ∧ checkHolds (block 1 2 3) = true ∧ octetAt (block 1 2 3) 1 = 1 ∧
     1 ≤ (blockKey (block 1 2 3)).lane.toNat ∧ (blockKey (block 1 2 3)).lane.toNat ≤ 8 ∧
     1 ≤ blockClass (block 1 2 3) ∧ blockClass (block 1 2 3) ≤ 7 ∧
     pendingOf slave key3 = none ∧ journalRecord slave key3 = none ∧
     reachable detached = false ∧ reachable slave = true ∧
     ¬ 16 ≤ slave.toll.pendingTable.length ∧ isIsolated slave = false ∧
     reachable stuffed = true ∧ isIsolated stuffed = false ∧
     56 ≤ stuffed.sw.budget ∧ 16 ≤ stuffed.sw.tollLive.length) ∧
    (let other : PendingToll :=
       { key := { lane := 4, txn := 1 }, block := [], arrival := 0, timer := 0 }
     let s := slave.modToll fun x => { x with pendingTable := List.replicate 16 other }
     16 ≤ s.toll.pendingTable.length ∧ pendingOf s key3 = none) ∧
    CentreOpen .tollLive 56 slave ∧ RingSlave stuffed := by
  unfold CentreOpen RingSlave
  decide +kernel

theorem test_PendingExpires_hypotheses :
    (∀ s ∈ [pendingCharge 299, pendingCharge 300],
      CustodyOnce s ∧ s.toll.answers.length ≤ 32 ∧ s.journal.records.length ≤ 512) ∧
    ∃ p ∈ (pendingCharge 300).toll.pendingTable,
      (pendingCharge 300).period.inForce.tToll ≤ p.timer := by
  unfold CustodyOnce
  decide +kernel

theorem test_CentreAnswers_hypotheses :
    (∀ v ∈ [(1 : Octet), 3], 1 ≤ v.toNat ∧ v.toNat ≤ 3) ∧
    (∀ v ∈ [(0 : Octet), 4], ¬ (1 ≤ v.toNat ∧ v.toNat ≤ 3)) ∧
    (pendingOf (pendingCharge 0) key3).isSome = true ∧
    (let s := journalled .provisional (some 5)
     pendingOf s key3 = none ∧ (journalRecord s key3).isSome = true) ∧
    pendingOf slave key3 = none ∧ journalRecord slave key3 = none ∧
    ((3 : Octet) ≠ 4 ∧ (3 : Octet) ≠ 5) ∧ octetAt [3, 0, 0, 0, 1, 0] 5 = 0 ∧
    3 < (octetAt [3, 0, 0, 0, 1, 4] 5).toNat := by decide +kernel

theorem test_JournalCommands_hypotheses :
    (let s := answerGantry (localAnswer key3 .provisional) slave
     ∃ a ∈ s.toll.answers.head?, a.verdict = .provisional) ∧
    (∃ r ∈ (journalled .provisional (some 2000)).journal.records,
      r.inFlight.any fun k => decide (2000 ≤ k)) ∧
    (slave.journal.inflightTimeouts ≤ countMax ∧
     1000 ≤ (slave.modJournal fun j => { j with subSecond := 1000 }).journal.subSecond) ∧
    (∀ s ∈ [journalled .provisional none,
        { master with journal := (journalled .provisional none).journal }],
      reachable s = true ∧ s.period.restarted = false ∧ CustodyOnce s ∧
      s.agent.address.isSome = true ∧
      (s.isMaster = true ∨ isIsolated s = false ∧ s.sw.tollDeferred.length ≤ 8) ∧
      64 ≤ s.sw.budget ∧ ∀ r ∈ s.journal.records, r.block.length = 40) ∧
    (slave.modPeriod fun x => { x with restarted := true }).period.restarted = true := by
  unfold CustodyOnce
  decide +kernel

/-- A channel entry as a WRITE carries it. -/
def writtenChannel : ChannelWrite :=
  { source := 16, period := 0, zero := 65535, gain := 375, offset := -400, window := 17, shift := 9
    compare := 1, highSet := 5, highClear := 6, lowSet := 20, lowClear := 10, highEnable := 0
    lowEnable := 1, persist := 16, interval := 65535 }

theorem test_WeatherTables_hypotheses :
    Permitted centre 2 slave ∧ Permitted field 21 slave ∧
    (100 ≤ (slave.modWx fun x => { x with clock := 100 }).wx.clock ∧
     2 ≤ (({ level := false, differ := 2, count := 65535 } : PulseInput)).differ ∧
     [writtenChannel] ≠ [] ∧ 15 + [writtenChannel].length ≤ 16 ∧
     (∀ e ∈ [writtenChannel],
       e.source ≤ 16 ∧ e.compare ≤ 1 ∧ e.highEnable ≤ 1 ∧ e.lowEnable ≤ 1) ∧
     (14 : Fin 16).val < 15 ∧ 15 ≤ (15 : Fin 16).val) := by
  unfold Permitted
  decide +kernel

theorem test_ChannelStages_hypotheses :
    let s := frosty 2019 (.restarted 5)
    let faulty := frosty 2019 { ChannelState.restarted 5 with fault := true, goodRun := 1 }
    let healing := frosty 2019 { ChannelState.restarted 5 with fault := true, goodRun := 2 }
    (s.wx.table.get 5).source ≠ .none ∧ (s.wx.table.get 5).period ≤ (s.wx.work.get 5).ticks ∧
    sampleRails (frosty 0 (.restarted 5)) 5 = true ∧
    sampleRails (frosty 4095 { ChannelState.restarted 5 with railRun := 2 }) 5 = true ∧
    sampleRuns s 5 = true ∧ sampleRails faulty 5 = false ∧ sampleRuns faulty 5 = false ∧
    sampleRuns healing 5 = true ∧
    (let pulse := s.modWx fun x => { x with table := x.table.set 5 { frost with source := .pin 3 } }
     (pulse.wx.table.get 5).source = .pin 3 ∧ pulseChannel pulse 5 = true ∧
     sampleRuns pulse 5 = true) ∧
    (let moved := fun (s : State) (k : Fin 64) =>
       (after (.channelSample 5) s).cond.copy.get k ≠ s.cond.copy.get k
     (∀ k ∈ [condFault 5, condHigh 5, condLow 5], ¬ moved (frosty 0 (.restarted 5)) k) ∧
     moved (frosty 4095 { ChannelState.restarted 5 with railRun := 2 }) (condFault 5) ∧
     ∀ k ∈ [condHigh 5, condLow 5],
       ¬ moved (frosty 4095 { ChannelState.restarted 5 with railRun := 2 }) k) := by decide +kernel

theorem test_ChannelReports_hypotheses :
    let s := frosty 2019 { ChannelState.restarted 5 with toReport := 1 }
    ((s.wx.table.get 5).source ≠ .none ∧ (s.wx.table.get 5).period ≤ (s.wx.work.get 5).ticks ∧
     (s.wx.table.get 5).interval ≠ 0 ∧ (s.wx.work.get 5).toReport ≤ 1 ∧ reachable s = true ∧
     reachable detached = false ∧
     ¬ ((frosty 2019 (.restarted 5)).wx.work.get 5).toReport ≤ 1) ∧ CentreOpen .wx 28 s := by
  unfold CentreOpen
  decide +kernel

theorem test_WxIgnored_hypotheses :
    (let f := frame 7 5 6 [1]
     f.service = svcWx ∧ frameFault f = none ∧ slave.agent.address.isSome = true ∧
     slave.agent.address ≠ some f.source ∧ slave.agent.address = some f.dest) ∧
    (let f := frame 255 5 6 [1]
     slave.agent.address ≠ some f.dest ∧ f.dest = 255 ∧ frameFault f = none) ∧
    (let f := frame 1 5 6 [1]
     f.source ≠ 0 ∧ f.source ≠ 1 ∧ frameFault f = none ∧
     readUplink (encodeFrame f) = .frame f ∧ master.agent.address ≠ some f.source ∧
     master.isMaster = true ∧ master.pins.uplinkUp = true) ∧
    (let f := frame 1 0 6 [1]
     f.source = 0 ∧ frameFault f = none ∧ master.agent.address.isSome = true ∧
     readUplink (encodeFrame f) = .frame f ∧ slave.agent.address = some (frame 4 7 6 [1]).source) := by
  decide +kernel

theorem test_AlarmIgnored_hypotheses :
    (let f := frame 7 5 2 [1]
     f.service = svcAlarm ∧ frameFault f = none ∧ slave.agent.address.isSome = true ∧
     slave.agent.address ≠ some f.source ∧ slave.agent.address = some f.dest) ∧
    (let f := frame 0 5 2 [1]
     f.source ≠ 0 ∧ f.source ≠ 1 ∧ frameFault f = none ∧ master.agent.address ≠ some f.source ∧
     master.agent.address ≠ some f.dest ∧ f.dest ≠ 255) ∧
    (let f := frame 1 5 2 [1]
     frameFault f = none ∧ readUplink (encodeFrame f) = .frame f ∧ master.isMaster = true ∧
     master.pins.uplinkUp = true) := by decide +kernel

/-- A rule of the sign names 21 as its A, none names 4, and the sign follows the one alone; a centre
flag that a rule names as its B (R161, R184). -/
theorem test_SignFollows_hypotheses :
    NamedByRule signed.sign 21 ∧ ¬ NamedByRule signed.sign 4 ∧
    signed.cond.copy.get 21 ≠ true ∧ signed.cond.copy.get 4 ≠ true ∧
    (changeCondition true 21 true signed).sign ≠ signed.sign ∧
    (changeCondition true 4 true signed).sign = signed.sign ∧
    (let s := signed.modSign fun g => { g with rules := g.rules.set 5 { SignRule.reset with
      condA := 21, condB := some (condCentreFlag 4), page := 14, priority := 3, enabled := true } }
     NamedByRule s.sign (condCentreFlag 4) ∧ s.agent.centreFlags.get 4 ≠ true ∧
     s.cond.copy.get (condCentreFlag 4) ≠ true ∧ Permitted centre 17 s) := by
  unfold NamedByRule Permitted
  decide +kernel

theorem test_ConditionChanges_hypotheses :
    (slave.cond.copy.get 49 ≠ true ∧ 1 ≤ (slave.cond.table.get 49).level ∧
     (slave.cond.table.get 59).level = 0 ∧ slave.cond.copy.get 59 ≠ true ∧
     (changeCondition true 49 true slave).cond.copy.get 49 ≠ false ∧
     (slave.cond.table.get 49).fall = false ∧
     slave.cond.events.any (fun x => x.condition == 49 && x.rise) = false ∧
     (let s := changeCondition true 49 false (changeCondition true 49 true slave)
      s.cond.copy.get 49 ≠ true ∧
      s.cond.events.any (fun x => x.condition == 49 && x.rise) = true) ∧
     slave.cond.mask < (slave.cond.table.get 49).level ∧ reachable slave = true ∧
     reachable detached = false ∧ slave.agent.centreFlags.get 4 = false ∧
     slave.agent.centreFlags.get 4 ≠ true ∧ (63 < 64 ∧ (64 : Nat) ∈ [64]) ∧
     (∀ l ∈ [[0, 63]], ∀ x ∈ l, x ≤ 63) ∧ 2 < slave.cond.mask ∧
     (changeCondition true 21 true slave).cond.events.any
       (fun e => decide (2 < e.level) && e.level != 7 && decide (e.level ≤ slave.cond.mask)) =
         true) ∧
    CentreOpen .alarm 0 slave ∧ ∀ code ∈ [15, 16, 17], Permitted centre code slave := by
  unfold CentreOpen Permitted
  decide +kernel

/-- Slave 7 with condition 21 set, rule 0 active, and each kind of request. -/
def candidatesAll (g : SignController → SignController) : State :=
  (changeCondition true 21 true signed).modSign g

theorem test_Selection_hypotheses :
    (let s := candidatesAll fun g => { g with
       centre := some { page := 30, priority := 7, lifetime := 0, elapsed := 0 } }
     (∃ c ∈ s.sign.centre, (descriptorOf s.sign c.page).isSome = true ∧ 1 ≤ c.priority) ∧
     (winner s.cond.copy s.sign).source = .centre ∧
     (winner s.cond.copy s.sign).page ≠ s.sign.selection.page ∧
     s.sign.selection.priority < (winner s.cond.copy s.sign).priority ∧
     s.sign.sender.state = .sending) ∧
    (let s := candidatesAll id
     let r := s.sign.rules.get 0
     r.enabled = true ∧ s.cond.copy.get r.condA = r.senseA ∧ r.condB = none ∧
     (descriptorOf s.sign r.page).isSome = true ∧ 1 ≤ r.priority ∧
     (winner s.cond.copy s.sign).source = .rule 0 ∧
     (winner s.cond.copy s.sign).page = s.sign.selection.page) ∧
    (let s := signed.modSign fun g => { g with test := some { page := 14, elapsed := 0 } }
     (∃ c ∈ s.sign.test, (descriptorOf s.sign c.page).isSome = true) ∧
     (winner s.cond.copy s.sign).source = .test ∧ s.sign.hold = none ∧
     s.sign.sender.state = .idle) ∧
    (winner signed.cond.copy signed.sign).source = .default ∧
    (let s := candidatesAll fun g => { g with
       hold := some 5
       rules := g.rules.modify 0 fun r => { r with priority := 2 }
       sender := { g.sender with state := .awaiting } }
     let t := { s.cond with copy := s.cond.copy.set 3 true }
     (winner t.copy s.sign).page ≠ s.sign.selection.page ∧ s.sign.hold ≠ none ∧
     (descriptorOf s.sign s.sign.selection.page).isSome = true ∧
     ¬ s.sign.selection.priority < (winner t.copy s.sign).priority ∧
     s.sign.sender.state = .awaiting) := by decide +kernel

theorem test_SignRequests_hypotheses :
    (∀ code ∈ [6, 7, 8, 9], Permitted centre code slave) ∧
    (1 ≤ 1 ∧ 7 ≤ 7 ∧ 65535 ≤ 65535 ∧ ¬ (1 ≤ 0) ∧ ¬ (8 ≤ 7) ∧ 63 < 64 ∧ (0 : Octet) = 0 ∧
     (7 : Octet) ≠ 0 ∧ decodeSignRequest [] = none ∧
     decodeSignRequest [1, 64, 1, 0, 0] = some (.signShow 64 1 0) ∧
     decodeSignRequest [1, 0, 8, 0, 0] = some (.signShow 0 8 0)) ∧
    (let s := signed.modSign fun g => { g with
       test := some { page := 1, elapsed := 60000 }
       centre := some { page := 1, priority := 1, lifetime := 1, elapsed := 1000 }
       hold := some 30000 }
     (∃ c ∈ s.sign.test, 60000 ≤ c.elapsed) ∧
     (∃ c ∈ s.sign.centre, c.lifetime ≠ 0 ∧ c.lifetime * 1000 ≤ c.elapsed) ∧
     ∃ k ∈ s.sign.hold, s.period.inForce.holdSeconds * 1000 ≤ k) ∧
    (let s := candidatesAll id
     pageBeingSent s.sign = some s.sign.selection.page) ∧
    (¬ pageBeingSent signed.sign = some signed.sign.selection.page ∧
     signed.sign.sender.state = .idle) ∧
    (let s := after .pollTimerExpiry signed
     ¬ pageBeingSent s.sign = some s.sign.selection.page ∧ s.sign.sender.state ≠ .idle) := by
  unfold Permitted
  decide +kernel

/-- Slave 7 awaiting the answer to an exchange, its answer timer at its limit. -/
def awaiting (e : Exchange) (owed : Bool) : State := signed.modSign fun g =>
  { g with sender :=
    { g.sender with state := .awaiting, exchange := e, owed, answerTimer := some 500 } }

/-- Slave 7 sending its POLL. -/
def polling : State := after .pollTimerExpiry signed

/-- Slave 7 awaiting the answer to its POLL, two polls missed, rule 1 falling back to page 14 on
SIGN_FAIL. -/
def failing (owed : Bool) : State := (awaiting .poll owed).modSign fun g =>
  { g with
    sender := { g.sender with missedPolls := 2 }
    rules := g.rules.set 1
      { SignRule.reset with condA := condSignFail, page := 14, priority := 3, enabled := true } }

/-- The third missed poll: SIGN_FAIL rises, the rule's page is owed, and its transfer starts at once,
none aborted (R184, R189, R192). -/
theorem test_third_missed_poll :
    ∀ owed ∈ [true, false], ∀ t ∈ [after .answerTimeout (failing owed)],
      t.sign.sender.signFail = true ∧ t.sign.sender.exchange = .transfer 14 1 ∧
      t.sign.transfersStarted = 1 ∧ t.sign.transferAborts = 0 := by decide +kernel

theorem test_third_missed_poll_hypotheses :
    (∀ owed ∈ [true, false],
      let x := (failing owed).sign.sender
      x.state = .awaiting ∧ x.exchange = .poll ∧ 2 ≤ x.missedPolls ∧ x.owed = owed ∧
      (∃ k ∈ x.answerTimer, (failing owed).period.inForce.answerLimit ≤ k) ∧
      (failing owed).cond.copy.get condSignFail = false ∧
      NamedByRule (failing owed).sign condSignFail ∧
      ¬ NamedByRule (awaiting .poll owed).sign condSignFail ∧
      ((failing owed).modCond fun u =>
        { u with copy := u.copy.set condSignFail true }).cond.copy.get condSignFail = true) := by
  unfold NamedByRule
  decide +kernel

theorem test_SignExchanges_hypotheses :
    (∀ a ∈ [1, 2, 3], ∀ owed ∈ [true, false],
      let x := (awaiting (.transfer 12 a) owed).sign.sender
      x.state = .awaiting ∧ x.exchange = .transfer 12 a ∧ x.owed = owed ∧
      ∃ k ∈ x.answerTimer, signed.period.inForce.answerLimit ≤ k) ∧
    (∀ owed ∈ [true, false],
      let x := (awaiting .poll owed).sign.sender
      x.state = .awaiting ∧ x.exchange = .poll ∧ x.owed = owed) ∧
    signed.cond.copy.get condSignFail = false ∧ signed.sign.sender.state ≠ .awaiting ∧
    signed.sign.sender.exchange = .none ∧ signed.sign.sender.undelivered = true ∧
    (let x := { signed.sign.sender with missedPolls := 2 }
     2 ≤ x.missedPolls ∧ signed.sign.sender.missedPolls ≤ 1) ∧
    63 < 64 ∧ decodeSignAnswer [0x84] = none ∧
    CentreOpen .sign 25 signed ∧
    (master.isMaster = true ∧ master.pins.uplinkUp = true) ∧
    (let s := { master with pins := { master.pins with uplinkUp := false } }
     s.isMaster = true ∧ s.pins.uplinkUp = false) ∧
    (let x := (polling.modSign fun g =>
       { g with sender := { g.sender with sentCycles := 1 } }).sign.sender
     x.state = .sending ∧ x.line.length ≤ 16 * x.sentCycles) ∧
    (signed.sign.sender.state = .idle ∧ 10000 ≤ signed.sign.sender.pollTimer) := by
  unfold CentreOpen
  decide +kernel

/-- A rule, a page and a block as a WRITE carries them. -/
def writtenRule : RuleWrite :=
  { condA := 63, senseA := 0, condB := some 0, senseB := 1, page := 63, priority := 9
    enabled := 0 }
def writtenPage : List Segment := [{ block := 511, length := 64, endMark := 1 }]

theorem test_SignWrites_hypotheses :
    Permitted centre 2 signed ∧ StoreCanonical signed ∧
    ([writtenRule] ≠ [] ∧ 15 + [writtenRule].length ≤ 16 ∧
     (∀ e ∈ [writtenRule], checkRule 0 e = none) ∧ (14 : Fin 16).val < 15 ∧
     15 ≤ (15 : Fin 16).val) ∧
    ([writtenPage, []] ≠ [] ∧ 1 ≤ 62 ∧ 62 + [writtenPage, []].length ≤ 64 ∧
     (∀ d ∈ [writtenPage, []], d = [] ∨ descriptorValid d = true) ∧
     (∀ b ∈ pageBeingSent signed.sign, b.val < 62) ∧ (60 : Fin 63).val + 1 < 62 ∧
     62 ≤ (61 : Fin 63).val + 1) ∧
    (let s := candidatesAll id
     (∀ b ∈ pageBeingSent s.sign, b.val < 62 ∨ 64 ≤ b.val) ∧ (pageBeingSent s.sign).isSome = true) ∧
    (let s := candidatesAll fun g => { g with sender := { g.sender with state := .awaiting } }
     s.sign.selection.page = 12 ∧ s.sign.sender.state ≠ .idle) ∧
    ([List.replicate 64 (7 : Octet)] ≠ [] ∧ 511 + 1 ≤ 512 ∧
     (∀ b ∈ [List.replicate 64 (7 : Octet)], b.length = 64) ∧
     ∀ i < 1, blockBusy signed.sign (511 + i) = false) := by
  unfold Permitted StoreCanonical
  decide +kernel

theorem test_RequestsAnswered_hypotheses :
    ((Instr.identify field).head? = some field ∧ requestCodeOf (.identify field) = some 23 ∧
     field.origin = .field ∧ (after (.fieldLock centre) slave).agent.fieldLock = true ∧
     slave.agent.fieldLock = false ∧ requestCodeOf (.fieldLock field) = some 18 ∧
     18 ∉ [1, 9, 21, 22, 23] ∧ centre.origin = .centre ∧ slave.isMaster = false ∧
     requestCodeOf (.assignAddresses centre 0) = some 24 ∧ (1 : Nat) ∉ [3, 22, 24] ∧
     26 ∉ [3, 22, 24]) ∧
    (∀ code ∈ [1, 2, 4, 25], Permitted centre code slave) ∧ Permitted field 23 slave ∧
    Permitted centre 26 master := by
  unfold Permitted
  decide +kernel

theorem test_RequestPaths_hypotheses :
    (∀ code ∈ [18, 19, 23], Permitted centre code slave) ∧
    (let f := frame 7 0 1 [23]
     f.flags.getLsbD 6 = false ∧ requestCode f.payload ≠ 64 ∧ requestCode f.payload ≠ 65 ∧
     f.source = 0 ∧ (frame 7 5 1 [23]).source ≠ 0 ∧ slave.agent.requests.length < 4 ∧
     { f with flags := 0x40 }.flags.getLsbD 6 = true ∧
     requestCode (frame 7 5 1 [64, 2]).payload = 64 ∧ slave.agent.address.isSome = true ∧
     slave.isMaster = false ∧ requestCode (frame 1 5 1 [64, 2]).payload ≠ 65) ∧
    (field.origin = .field ∧ master.isMaster = true ∧ master.pins.uplinkUp = true ∧
     centre.origin = .centre ∧ slave.pins.uplinkUp = false ∧ slave.isMaster = false ∧
     slave.agent.address.isSome = true ∧ isIsolated slave = false ∧ slave.sw.mgmt.length < 8 ∧
     16 + (encodeResult (.done 0)).length ≤ slave.sw.budget ∧ unassigned.agent.address = none ∧
     isIsolated isolating = true ∧ unassigned.isMaster = false) := by
  unfold Permitted
  decide +kernel

theorem test_ReadTables_hypotheses :
    Permitted field 1 slave ∧
    (let bounds := fun k => (tableOf slave k).map fun x => (x.lo, x.size)
     bounds 0 = none ∧ bounds 32 = none ∧ bounds 12 = some (1, 240) ∧ bounds 9 = some (0, 48) ∧
     (0 < 1 ∧ 1 + 240 ≤ 241 ∧ 1 ≤ 1 ∧ 240 < 1 + 240)) ∧
    23 < 24 ∧ (queueing 2 allocating).alloc.waiting[1]?.isSome = true ∧
    isolating.sw.records.length ≤ 8 ∧ (pendingCharge 5).toll.pendingTable.length ≤ 16 ∧
    (after (.addressClear centre) isolating).sw.records[0]?.isSome = true ∧
    (after (.acceptAdd centre 4 5) slave).sw.accept[0]? = some (4, 5) ∧
    (after (.denyAdd centre 9) slave).toll.deny[0]? = some 9 ∧
    (∃ r ∈ (journalled .provisional none).journal.records[0]?, r.verdict = .provisional) ∧
    (changeCondition true condDetached true detached).cond.events[0]?.isSome = true ∧
    ((slave.sign.pages.get 0).getD []).length ≤ 8 ∧ 511 < 512 ∧
    ((frosty 2019 { ChannelState.restarted 5 with
      window := List.replicate 16 3 }).wx.work.get 5).window.length ≤ 16 := by
  unfold Permitted
  decide +kernel

theorem test_CountsClear_hypotheses : Permitted field 22 slave := by
  unfold Permitted
  decide +kernel

/-- The master with a walk RUNNING, an address on offer. -/
def walking (a : Octet) : State := master.modAgent fun g =>
  { g with walk :=
    { running := true, onOffer := a, given := 3, timer := some 2000, head := centre } }

theorem test_AddressWalks_hypotheses :
    Permitted centre 24 master ∧ Permitted centre 25 slave ∧ Permitted centre 25 master ∧
    ((1 : Nat) < 2 ∧ 240 < 241 ∧ master.agent.walk.running = false ∧
     master.agent.address = some 1 ∧ master.isMaster = true ∧ slave.isMaster = false ∧
     (walking 240).agent.walk.running = true ∧ (240 : Octet) = (walking 240).agent.walk.onOffer ∧
     (239 : Octet) = (walking 239).agent.walk.onOffer ∧ (239 : Octet) ≠ 240 ∧
     (5 : Octet) ≠ (walking 239).agent.walk.onOffer ∧
     (∃ k ∈ (walking 239).agent.walk.timer, 2000 ≤ k)) ∧
    (unassigned.isMaster = false ∧ unassigned.agent.address = none ∧ 2 ≤ (2 : Octet).toNat ∧
     (240 : Octet).toNat ≤ 240 ∧ isIsolated unassigned = false ∧
     offerOf (frame 255 1 1 [64, 5]) = some 5 ∧
     unassigned.sw.mgmt.length < 8 ∧ 24 ≤ unassigned.sw.budget ∧
     slave.agent.address.isSome = true ∧ (1 : Octet).toNat < 2 ∧ 240 < (241 : Octet).toNat ∧
     slave.prot.linked = true) := by
  unfold Permitted
  decide +kernel

/-- R205, R208: on the master the DONE of the RESTART leaves by the uplink, then that of the walk, with
its count 3 and the end cause RESTART. -/
theorem test_restart_walk :
    ((after (.restart centre) (walking 5)).out.uplink.map fun os =>
      (sentPayload os).drop 3) = [[0, 0], [3, 3]] := by
  decide +kernel

theorem test_RestartKeeps_hypotheses :
    Permitted centre 3 (pendingCharge 5) ∧ CustodyOnce (pendingCharge 5) ∧
    RingSlave (pendingCharge 5) ∧ (pendingCharge 5).journal.records.length ≤ 512 ∧
    isIsolated (pendingCharge 5) = false ∧ (pendingCharge 5).sw.mgmt.length < 8 ∧
    64 ≤ (pendingCharge 5).sw.budget ∧ reachable (pendingCharge 5) = true ∧ reachable detached = false ∧
    (∀ raised ∈ [[], [condJournalNonempty]],
      let s := (journalled .provisional none).modPeriod fun x =>
        { x with stage := .closing, raised }
      s.period.stage = .closing ∧
      s.prot.state = protectionOf s.line.w.health s.line.e.health ∧ isIsolated s = false ∧
      s.prot.handed = s.prot.linked ∧ s.cond.copy.get condJournalNonempty = false ∧
      ownerFlag s 56 = true ∧
      (∀ k ∈ [condWrapped, condIsolated, condJournalFull],
        s.cond.copy.get k = ownerFlag s k.val) ∧ s.cond.events = [] ∧
      1 ≤ (s.cond.table.get condJournalNonempty).level) ∧
    polling.sign.sender.state = .sending ∧ master.isMaster = true ∧
    Permitted centre 3 (walking 5) ∧ CustodyOnce (walking 5) ∧
    (walking 5).journal.records.length ≤ 512 ∧ (walking 5).isMaster = true ∧
    (walking 5).agent.walk.running = true ∧ (walking 5).pins.uplinkUp = true ∧
    master.agent.walk.running = false := by
  unfold Permitted CustodyOnce RingSlave
  decide +kernel

/-- R214: the sense of an absent condition B of a sign rule is absent, or one of the two senses. -/
theorem test_sense_of_absent_b :
    [0, 1, 2, 254, 255].map (fun b => checkRule 0 { writtenRule with condB := none, senseB := b }) =
      [none, none, some .badValue, some .badValue, none] ∧
    checkRule 0 { writtenRule with condB := some 1, senseB := 255 } = some .badValue := by
  decide +kernel

theorem test_TableWrites_hypotheses :
    Permitted centre 2 slave ∧
    (let out := fun (lo size i : Nat) (e : Option Reason) =>
       if i < lo ∨ lo + size ≤ i then some Reason.badIndex else e
     let bad := fun (b : Bool) => if b then some Reason.badValue else none
     FirstRefused (fun i (_ : Int × Int) => out 0 1 i none) 0 [(1, 1), (1, 1)] 1 .badIndex ∧
     FirstRefused (fun i v => out 1 7 i (bad (1 < v))) 6 [1, 2] 1 .badValue ∧
     FirstRefused (fun i v => out 1 7 i (bad (1 < v))) 0 [1] 0 .badIndex ∧
     FirstRefused (fun i (e : Nat × Nat) => out 0 64 i (bad (1 < e.2))) 63 [(0, 1), (0, 0)] 1
       .badIndex ∧
     FirstRefused (fun i (e : ChannelWrite) => out 0 16 i
       (bad (16 < e.source || 1 < e.compare || 1 < e.highEnable || 1 < e.lowEnable)))
       14 [writtenChannel, { writtenChannel with source := 17 }] 1 .badValue ∧
     FirstRefused (fun i (e : RuleWrite) => out 0 16 i
       (bad (63 < e.condA || 1 < e.senseA || e.page == 0 || 63 < e.page || 1 < e.enabled ||
         match e.condB with
         | none => 1 < e.senseB && e.senseB != 255
         | some c => 63 < c || 1 < e.senseB)))
       14 [writtenRule, { writtenRule with page := 64 }] 1 .badValue) ∧
    (let g := (candidatesAll id).sign
     let sent := pageBeingSent g
     let out := fun (lo size i : Nat) (e : Option Reason) =>
       if i < lo ∨ lo + size ≤ i then some Reason.badIndex else e
     FirstRefused (fun i (d : List Segment) => out 1 63 i
       (if d ≠ [] ∧ descriptorValid d = false then some .badValue
        else if sent.map (·.val) = some i then some .busy else none)) 11 [[], []] 1 .busy ∧
     FirstRefused (fun i (b : Octets) => out 0 512 i
       (if b.length ≠ 64 then some .badValue
        else if sent.any (fun p => ((descriptorOf g p).getD []).any fun x =>
          decide (x.block ≤ i ∧ i * 64 < x.block * 64 + x.length)) then some .busy else none))
       9 [List.replicate 64 0, [0]] 0 .busy) ∧
    (writeEntrySize 1 = none ∧ writeEntrySize 15 = some 1 ∧ [(0 : Octet)].length ≠ 1 * 2 ∧
     [(0 : Octet)].length = 1 * 1 ∧ slave.agent.requests = []) ∧
    ([1] ≠ ([] : List Nat) ∧ 1 ≤ 7 ∧ 7 + [1].length ≤ 8 ∧ (∀ v ∈ [1], v ≤ 1)) ∧
    ([(9, 1)] ≠ ([] : List (Nat × Nat)) ∧ 63 + [(9, 1)].length ≤ 64 ∧
     ∀ e ∈ [(9, 1)], e.2 ≤ 1) := by
  have none_before (P : Nat → Prop) : ∀ j, j < 0 → P j := fun j h => absurd h (Nat.not_lt_zero j)
  have one_before (P : Nat → Prop) (h : P 0) : ∀ j, j < 1 → P j := fun j hj => by
    cases Nat.lt_one_iff.mp hj
    exact h
  refine ⟨by unfold Permitted; decide +kernel, ?_, ?_, by decide +kernel, by decide +kernel,
    by decide +kernel⟩
  · exact ⟨⟨⟨_, rfl, by decide⟩, one_before _ (by decide)⟩,
      ⟨⟨_, rfl, by decide⟩, one_before _ (by decide)⟩, ⟨⟨_, rfl, by decide⟩, none_before _⟩,
      ⟨⟨_, rfl, by decide⟩, one_before _ (by decide)⟩,
      ⟨⟨_, rfl, by decide⟩, one_before _ (by decide)⟩,
      ⟨⟨_, rfl, by decide⟩, one_before _ (by decide)⟩⟩
  · exact ⟨⟨⟨_, rfl, by decide +kernel⟩, one_before _ (by decide +kernel)⟩,
      ⟨⟨_, rfl, by decide +kernel⟩, none_before _⟩⟩

/-- SIGNAL_LOST answers a next state from any state. -/
theorem slave_steps (s : State) : ∃ t, step (s.withPending [.signalLost .w]) = .next t := ⟨_, rfl⟩

theorem test_StepKeepsReach_hypotheses :
    let s := slave.withPending [.signalLost .w]
    (ForcedHeld s ∧ ReachFollows s ∧ AddressLegal s) ∧ ∃ t, step s = .next t :=
  ⟨⟨fun _ h => (nomatch h), by unfold ReachFollows; decide +kernel,
    by unfold AddressLegal; decide +kernel⟩, slave_steps slave⟩

theorem test_StepKeepsCopy_hypotheses :
    let s := slave.withPending [.signalLost .w]
    CopyFollows s ∧ ∃ t, step s = .next t :=
  ⟨by unfold CopyFollows; decide +kernel, slave_steps slave⟩

theorem test_StepKeepsRanges_hypotheses :
    let s := (pendingCharge 5).withPending [.signalLost .w]
    (SettingsInRange s ∧ WeatherInRange s ∧ QueuesBounded s ∧ ListsBounded s ∧ EventsDistinct s ∧
      StoreCanonical s ∧ PagesValid s) ∧ ∃ t, step s = .next t := by
  refine ⟨⟨by unfold SettingsInRange; decide +kernel, ?_, ⟨?_, by decide +kernel⟩,
    by unfold ListsBounded; decide +kernel, by unfold EventsDistinct; decide +kernel,
    by unfold StoreCanonical; decide +kernel, by unfold PagesValid; decide +kernel⟩,
    slave_steps (pendingCharge 5)⟩
  · unfold WeatherInRange wxValue
    decide +kernel
  · intro q
    cases q <;> decide +kernel

theorem test_StepKeepsTolls_hypotheses :
    let s := ((pendingCharge 5).modToll fun x => { x with receivedCharge := 1 }).withPending
      [.signalLost .w]
    (CustodyOnce s ∧ TollAccounts s) ∧ ∃ t, step s = .next t :=
  ⟨⟨by unfold CustodyOnce; decide +kernel, by unfold TollAccounts; decide +kernel⟩, slave_steps _⟩

theorem test_StepKeepsCalls_hypotheses :
    let s := ((queueing 1 (oneCall .inForce 0)).modAlloc fun a =>
      { a with nextArrival := 1 }).withPending [.signalLost .w]
    (CallsHoldSlots s ∧ CapacityCovers s ∧ CallKeysOnce s ∧ WaitingOrdered s) ∧
      ∃ t, step s = .next t :=
  ⟨⟨by unfold CallsHoldSlots callHolds; decide +kernel, by unfold CapacityCovers; decide +kernel,
    by unfold CallKeysOnce; decide +kernel, by unfold WaitingOrdered; decide +kernel⟩,
    slave_steps _⟩

theorem test_StepKeepsCycles_hypotheses :
    let s := (master.modProt fun x => { x with heldS := some (bareCycle header) }).withPending
      [.signalLost .w]
    (CyclesWhole s ∧ SpeechWhole s ∧ CyclesHeldWhole s) ∧ ∃ t, step s = .next t := by
  refine ⟨⟨⟨.inl rfl, .inl rfl⟩, by unfold SpeechWhole; decide +kernel,
    by decide +kernel, by decide +kernel, ?_⟩, slave_steps _⟩
  intro p c h
  cases List.mem_singleton.mp h

theorem test_PeriodPasses_hypotheses :
    (let s := slave.modAgent fun g => { g with requests := [{ head := field, payload := [23] }] }
     s.period.stage = .inputs ∧
     (∀ r ∈ s.agent.requests.head?, (entryInstr r).isSome = true) ∧ s.isMaster = false ∧
     s.period.processed = false ∧ s.period.qualified = false ∧ s.prot.linked = true ∧
     s.prot.age < 16 ∧ detached.prot.linked = false ∧ master.isMaster = true) ∧
    (let s := slave.modAgent fun g => { g with requests := [{ head := field, payload := [] }] }
     s.period.stage = .inputs ∧ ∃ r ∈ s.agent.requests.head?, entryInstr r = none) ∧
    (let s := (after (.headerReceived .w (bareCycle header)) slave).modPeriod fun x =>
       { x with stage := .closing }
     s.period.stage = .closing ∧ CycleSettled s ∧ s.period.fedE = true ∧
     decodeCycleHeader s.out.txE = some header ∧ s.period.fedW = false ∧
     protectionOf s.line.w.health s.line.e.health ≠ .isolated) ∧
    ((∀ q ∈ allQueues, queueFrames isolating.sw q = []) ∧ isolating.sw.holding = []) ∧
    (ended slave).period.stage = .sending ∧ (ended slave).isMaster = false ∧
    (ended master).period.stage = .sending ∧ (ended master).isMaster = true := by
  unfold CycleSettled
  decide +kernel

end Sys2Proof.Tests
end

section
/-! PROOFS. Ring cycles and line ports, part 1: the standing relations of the step lemmas, block by
block, and what each operation on the Frame Switch keeps of them. -/

namespace Sys2Proof.Machine

set_option Elab.async false

/-! ## The Frame Switch: which fields an operation leaves alone -/

section Fields
variable (sw : FrameSwitch) (q : QueueName) (fs : List Frame)

@[simp] theorem setQueue_budget : (setQueue q fs sw).budget = sw.budget := by cases q <;> rfl
@[simp] theorem setQueue_holding : (setQueue q fs sw).holding = sw.holding := by cases q <;> rfl
@[simp] theorem setQueue_pool : (setQueue q fs sw).pool = sw.pool := by cases q <;> rfl
@[simp] theorem setQueue_accept : (setQueue q fs sw).accept = sw.accept := by cases q <;> rfl
@[simp] theorem setQueue_records : (setQueue q fs sw).records = sw.records := by cases q <;> rfl
@[simp] theorem setQueue_discards : (setQueue q fs sw).discards = sw.discards := by cases q <;> rfl
@[simp] theorem setQueue_added : (setQueue q fs sw).added = sw.added := by cases q <;> rfl

/-- A queue set to what it holds is the switch as it was. -/
@[simp] theorem setQueue_self : setQueue q (queueFrames sw q) sw = sw := by cases q <;> rfl

end Fields

/-- A discard moves the counts of discards and the records alone. -/
theorem discardFrame_eq (c : Half) (r : DiscardReason) (p : Place) (f : Frame) (sw : FrameSwitch) :
    discardFrame c r p f sw =
      { sw with
        discards := sw.discards.modify (reasonIndex r) bump
        records := ({ reason := r, place := p, cycle := c, fields := some (frameFields f)
                      flushed := none } :: sw.records).take 8 } := rfl

section Discards
variable (c : Half) (r : DiscardReason) (p : Place) (f : Frame) (fs : List Frame) (sw : FrameSwitch)

@[simp] theorem discardFrame_budget : (discardFrame c r p f sw).budget = sw.budget := rfl
@[simp] theorem discardFrame_holding : (discardFrame c r p f sw).holding = sw.holding := rfl
@[simp] theorem discardFrame_pool : (discardFrame c r p f sw).pool = sw.pool := rfl
@[simp] theorem discardFrame_accept : (discardFrame c r p f sw).accept = sw.accept := rfl
@[simp] theorem discardFrame_added : (discardFrame c r p f sw).added = sw.added := rfl
@[simp] theorem discardFrame_discards :
    (discardFrame c r p f sw).discards = sw.discards.modify (reasonIndex r) bump := rfl

@[simp] theorem discardAll_nil : discardAll c r p [] sw = sw := rfl
@[simp] theorem discardAll_cons :
    discardAll c r p (f :: fs) sw = discardAll c r p fs (discardFrame c r p f sw) := rfl

theorem discardAll_append (gs : List Frame) :
    discardAll c r p (fs ++ gs) sw = discardAll c r p gs (discardAll c r p fs sw) :=
  List.foldl_append

/-- The discard of several frames moves the counts of discards and the records alone. -/
theorem discardAll_eq : discardAll c r p fs sw =
    { sw with
      discards := (discardAll c r p fs sw).discards
      records := (discardAll c r p fs sw).records } := by
  induction fs generalizing sw with
  | nil => rfl
  | cons f fs ih => exact ih (discardFrame c r p f sw)

@[simp] theorem discardAll_budget : (discardAll c r p fs sw).budget = sw.budget := by
  rw [discardAll_eq]
@[simp] theorem discardAll_holding : (discardAll c r p fs sw).holding = sw.holding := by
  rw [discardAll_eq]
@[simp] theorem discardAll_pool : (discardAll c r p fs sw).pool = sw.pool := by rw [discardAll_eq]
@[simp] theorem discardAll_accept : (discardAll c r p fs sw).accept = sw.accept := by
  rw [discardAll_eq]
@[simp] theorem discardAll_added : (discardAll c r p fs sw).added = sw.added := by
  rw [discardAll_eq]

end Discards

/-! ## The bounds of each block -/

/-- The Frame Switch within its bounds (R49, R51, R53, R58, R60). -/
structure SwBounded (sw : FrameSwitch) : Prop where
  budget  : 64 ≤ sw.budget ∧ sw.budget ≤ 1008
  queues  : ∀ q, (queueFrames sw q).length ≤ capacityOf q
  holding : extents sw.holding ≤ 2048
  accept  : sw.accept.length ≤ 32
  records : sw.records.length ≤ 8

/-- The Slot Allocator within its bounds (R90, R101). -/
structure AllocBounded (a : SlotAllocator) : Prop where
  capacity : a.capacity ≤ 48
  calls    : a.calls.length ≤ 24
  waiting  : a.waiting.length ≤ 32

/-- The Toll Relay within its bounds (R107, R112, R115, R118). -/
structure TollBounded (t : TollRelay) : Prop where
  limit   : 50 ≤ t.tToll ∧ t.tToll ≤ 2000
  answers : t.answers.length ≤ 32
  pending : t.pendingTable.length ≤ 16
  deny    : t.deny.length ≤ 256

/-- The Toll Journal within its bounds (R127, R132). -/
structure JournalBounded (j : TollJournal) : Prop where
  drain   : 1 ≤ j.drain ∧ j.drain ≤ 8
  records : j.records.length ≤ 512

/-- The working state of a weather channel whose window holds `n` values (R148, R149). -/
structure ChannelBounded (n : Nat) (w : ChannelState) : Prop where
  values   : ∀ v ∈ w.window, wxValue v
  window   : w.window.length ≤ n
  mean     : ∀ m ∈ w.mean, wxValue m
  long     : ∀ l ∈ w.long, wxValue l
  extremes : ∀ e ∈ w.extremes, wxValue e.peak ∧ wxValue e.trough
  railRun  : w.railRun ≤ 3
  goodRun  : w.goodRun ≤ 3
  since    : w.since ≤ 65535

/-- The Weather Sampler within its bounds (R140, R141, R148, R149). -/
structure WxBounded (x : WeatherSampler) : Prop where
  table  : ∀ c, channelInRange (x.table.get c) = true
  work   : ∀ c, ChannelBounded (x.table.get c).window (x.work.get c)
  pulses : ∀ k, (x.pulses.get k).count ≤ 65535

/-- The pending events: one of each condition and edge, with a repeat count of an octet (R164). -/
structure EventsBounded (es : List PendingEvent) : Prop where
  once    : (es.map fun e => (e.condition, e.rise)).Nodup
  repeats : ∀ e ∈ es, 1 ≤ e.repeats ∧ e.repeats ≤ 255

/-- The level of condition `c` in the event table (R163). -/
def levelInRange (c : Fin 64) (e : EventSetting) : Prop :=
  e.level ≤ 7 ∧ (50 ≤ c.val ∧ c.val ≤ 55 → e.level = 7)

/-- The Condition Unit within its bounds (R163, R164, R166). -/
structure CondBounded (u : ConditionUnit) : Prop where
  table  : ∀ c, levelInRange c (u.table.get c)
  mask   : u.mask ≤ 7
  events : EventsBounded u.events

/-- The Sign Controller within its bounds (R176, R183, R185 to R187). -/
structure SignBounded (g : SignController) : Prop where
  rules  : ∀ k, 1 ≤ (g.rules.get k).priority ∧ (g.rules.get k).priority ≤ 6
  hold   : g.holdSeconds ≤ 255
  answer : 100 ≤ g.answerLimit ∧ g.answerLimit ≤ 2000
  store  : storeWf g.store = true
  pages  : ∀ k, (g.pages.get k).all descriptorValid = true

/-- Every block within its bounds: what `StepKeepsRanges` asks, block by block. -/
structure Bounds (s : State) : Prop where
  line    : 1 ≤ s.line.wtrSeconds ∧ s.line.wtrSeconds ≤ 60
  sw      : SwBounded s.sw
  alloc   : AllocBounded s.alloc
  toll    : TollBounded s.toll
  journal : JournalBounded s.journal
  wx      : WxBounded s.wx
  cond    : CondBounded s.cond
  sign    : SignBounded s.sign
  agent   : s.agent.requests.length ≤ 4

theorem bounds_iff (s : State) : Bounds s ↔
    SettingsInRange s ∧ WeatherInRange s ∧ QueuesBounded s ∧ ListsBounded s ∧
      EventsDistinct s ∧ StoreCanonical s ∧ PagesValid s := by
  constructor
  · rintro ⟨line, sw, alloc, toll, journal, wx, cond, sign, agent⟩
    exact ⟨⟨line, sw.budget, alloc.capacity, toll.limit, journal.drain, wx.table, cond.table,
        cond.mask, sign.rules, sign.hold, sign.answer⟩,
      ⟨fun c => ⟨(wx.work c).values, (wx.work c).window, (wx.work c).mean, (wx.work c).long,
        (wx.work c).extremes, (wx.work c).railRun, (wx.work c).goodRun, (wx.work c).since⟩,
        wx.pulses⟩,
      ⟨sw.queues, sw.holding⟩,
      ⟨sw.accept, sw.records, alloc.calls, alloc.waiting, toll.answers, toll.pending, toll.deny,
        journal.records, agent⟩,
      ⟨cond.events.once, cond.events.repeats⟩, sign.store, sign.pages⟩
  · rintro ⟨⟨line, budget, capacity, limit, drain, table, levels, mask, rules, hold, answer⟩,
      ⟨work, pulses⟩, ⟨queues, holding⟩,
      ⟨accept, records, calls, waiting, answers, pending, deny, journal, requests⟩,
      ⟨once, repeats⟩, store, pages⟩
    refine ⟨line, ⟨budget, queues, holding, accept, records⟩, ⟨capacity, calls, waiting⟩,
      ⟨limit, answers, pending, deny⟩, ⟨drain, journal⟩, ⟨table, fun c => ?_, pulses⟩,
      ⟨levels, mask, ⟨once, repeats⟩⟩, ⟨rules, hold, answer, store, pages⟩, requests⟩
    obtain ⟨values, window, mean, long, extremes, rail, good, since⟩ := work c
    exact ⟨values, window, mean, long, extremes, rail, good, since⟩

/-! ## What each operation keeps of the four relations -/

/-- The three relations of `StepKeepsReach`. -/
def ReachSound (s : State) : Prop := ForcedHeld s ∧ ReachFollows s ∧ AddressLegal s

/-- The three relations of `StepKeepsCycles`. -/
def CyclesSound (s : State) : Prop := CyclesWhole s ∧ SpeechWhole s ∧ CyclesHeldWhole s

/-- The copy follows the owners but for the conditions listed, and those of the journal (R161). -/
def CopyBut (cs : List (Fin 64)) (s : State) : Prop :=
  ∀ c, c ∉ cs → c ≠ condJournalNonempty → c ≠ condJournalFull →
    s.cond.copy.get c = ownerFlag s c.val

theorem copyBut_nil {s : State} : CopyBut [] s ↔ CopyFollows s :=
  ⟨fun h c => h c (by simp), fun h c _ => h c⟩

/-- From `s` to `t` three of the standing relations are kept: reachability (R20, R21), the bounds,
the cycles (R1). -/
structure Steady (s t : State) : Prop where
  reach  : ReachSound s → ReachSound t
  bounds : Bounds s → Bounds t
  cycles : CyclesSound s → CyclesSound t

/-- From `s` to `t` each of the four standing relations that every step keeps is kept: those of
`Steady`, and that the copy of the flags follows their owners (R161), but for conditions whose change
is still to be handed. -/
structure Safe (s t : State) : Prop extends Steady s t where
  copy : ∀ cs, CopyBut cs s → CopyBut cs t

/-- The owners' flags, those of the journal apart, stand the same in two states (R161). -/
structure SameFlags (s t : State) : Prop where
  work      : ∀ c, (t.wx.work.get c).high = (s.wx.work.get c).high ∧
    (t.wx.work.get c).low = (s.wx.work.get c).low ∧
    (t.wx.work.get c).fault = (s.wx.work.get c).fault
  handed    : t.prot.handed = s.prot.handed
  state     : t.prot.state = s.prot.state
  duplicate : t.timer.duplicate.isSome = s.timer.duplicate.isSome
  debounced : ∀ q, (posAt t q).debounced = (posAt s q).debounced
  signFail  : t.sign.sender.signFail = s.sign.sender.signFail
  centre    : t.agent.centreFlags = s.agent.centreFlags

theorem SameFlags.refl (s : State) : SameFlags s s :=
  ⟨fun _ => ⟨rfl, rfl, rfl⟩, rfl, rfl, rfl, fun _ => rfl, rfl, rfl⟩

/-- The flag of an owner other than the journal is made of the fields that `SameFlags` names. -/
theorem SameFlags.ownerFlag {s t : State} (h : SameFlags s t) {c : Nat} (h56 : c ≠ 56)
    (h57 : c ≠ 57) : ownerFlag t c = ownerFlag s c := by
  unfold Machine.ownerFlag
  simp only [h.work, h.handed, h.state, h.duplicate, h.debounced, h.signFail, h.centre, if_neg h56,
    if_neg h57]

/-- With the copy and the flags as they were, the copy goes on following. -/
theorem SameFlags.copyBut {s t : State} (h : SameFlags s t) (hc : t.cond.copy = s.cond.copy)
    (cs : List (Fin 64)) (hs : CopyBut cs s) : CopyBut cs t := fun c hcs h56 h57 =>
  calc t.cond.copy.get c = s.cond.copy.get c := by rw [hc]
    _ = Machine.ownerFlag s c.val := hs c hcs h56 h57
    _ = Machine.ownerFlag t c.val :=
      (h.ownerFlag (fun e => h56 (Fin.ext e)) fun e => h57 (Fin.ext e)).symm

namespace Steady

theorem refl (s : State) : Steady s s := ⟨id, id, id⟩

theorem trans {s t u : State} (h : Steady s t) (k : Steady t u) : Steady s u :=
  ⟨k.reach ∘ h.reach, k.bounds ∘ h.bounds, k.cycles ∘ h.cycles⟩

theorem ite {s t u : State} {c : Prop} [Decidable c] (h : Steady s t) (k : Steady s u) :
    Steady s (if c then t else u) := by
  by_cases hc : c
  · rw [if_pos hc]; exact h
  · rw [if_neg hc]; exact k

/-! ### Updates of one block -/

variable {s : State}

theorem phone (f : PhoneInterface → PhoneInterface) (s : State) : Steady s (s.modPhone f) :=
  ⟨id, fun ⟨l, sw, a, t, j, w, c, g, r⟩ => ⟨l, sw, a, t, j, w, c, g, r⟩, id⟩

theorem wx {f : WeatherSampler → WeatherSampler} (h : WxBounded s.wx → WxBounded (f s.wx)) :
    Steady s (s.modWx f) :=
  ⟨id, fun ⟨l, sw, a, t, j, w, c, g, r⟩ => ⟨l, sw, a, t, j, h w, c, g, r⟩, id⟩

theorem cond {f : ConditionUnit → ConditionUnit}
    (h : CondBounded s.cond → CondBounded (f s.cond)) : Steady s (s.modCond f) :=
  ⟨id, fun ⟨l, sw, a, t, j, w, c, g, r⟩ => ⟨l, sw, a, t, j, w, h c, g, r⟩, id⟩

theorem sign {f : SignController → SignController}
    (h : SignBounded s.sign → SignBounded (f s.sign)) : Steady s (s.modSign f) :=
  ⟨id, fun ⟨l, sw, a, t, j, w, c, g, r⟩ => ⟨l, sw, a, t, j, w, c, h g, r⟩, id⟩

theorem agent {f : Agent → Agent} (ha : (f s.agent).address = s.agent.address)
    (hr : s.agent.requests.length ≤ 4 → (f s.agent).requests.length ≤ 4) :
    Steady s (s.modAgent f) :=
  ⟨fun ⟨h1, h2, h3⟩ => ⟨h1, by
      have hl : shouldBeLinked (s.modAgent f) = shouldBeLinked s := by
        show (if s.isMaster then s.pins.uplinkUp
          else decide (s.prot.age < 16) && (f s.agent).address.isSome) = _
        rw [ha]; rfl
      exact h2.trans hl.symm, by
      unfold AddressLegal at *; simpa [ha] using h3⟩,
    fun ⟨l, sw, a, t, j, w, c, g, r⟩ => ⟨l, sw, a, t, j, w, c, g, hr r⟩, id⟩

theorem timer {f : CycleTimer → CycleTimer}
    (hu : s.timer.record.u ≤ 48 → (f s.timer).record.u ≤ 48) : Steady s (s.modTimer f) :=
  ⟨id, fun ⟨l, sw, a, t, j, w, c, g, r⟩ => ⟨l, sw, a, t, j, w, c, g, r⟩,
    fun ⟨h1, h2, h3, h4⟩ => ⟨h1, h2, hu h3, h4⟩⟩

end Steady

namespace Safe

theorem refl (s : State) : Safe s s := ⟨.refl s, fun _ => id⟩

theorem trans {s t u : State} (h : Safe s t) (k : Safe t u) : Safe s u :=
  ⟨h.toSteady.trans k.toSteady, fun cs => k.copy cs ∘ h.copy cs⟩

theorem ite {s t u : State} {c : Prop} [Decidable c] (h : Safe s t) (k : Safe s u) :
    Safe s (if c then t else u) := by
  by_cases hc : c
  · rw [if_pos hc]; exact h
  · rw [if_neg hc]; exact k

/-- A fold of operations, each of which keeps the relations. -/
theorem foldl {α : Type} {f : State → α → State} (hf : ∀ s a, Safe s (f s a)) (xs : List α)
    (s : State) : Safe s (xs.foldl f s) := by
  induction xs generalizing s with
  | nil => exact .refl s
  | cons x xs ih => exact (hf s x).trans (ih (f s x))

/-! ### Updates of one block -/

variable {s : State}

theorem sw {f : FrameSwitch → FrameSwitch} (h : SwBounded s.sw → SwBounded (f s.sw)) :
    Safe s (s.modSw f) :=
  ⟨⟨id, fun ⟨l, sw, a, t, j, w, c, g, r⟩ => ⟨l, h sw, a, t, j, w, c, g, r⟩, id⟩, fun _ => id⟩

theorem alloc {f : SlotAllocator → SlotAllocator} (h : AllocBounded s.alloc → AllocBounded (f s.alloc)) :
    Safe s (s.modAlloc f) :=
  ⟨⟨id, fun ⟨l, sw, a, t, j, w, c, g, r⟩ => ⟨l, sw, h a, t, j, w, c, g, r⟩, id⟩, fun _ => id⟩

theorem toll {f : TollRelay → TollRelay} (h : TollBounded s.toll → TollBounded (f s.toll)) :
    Safe s (s.modToll f) :=
  ⟨⟨id, fun ⟨l, sw, a, t, j, w, c, g, r⟩ => ⟨l, sw, a, h t, j, w, c, g, r⟩, id⟩, fun _ => id⟩

theorem phone {f : PhoneInterface → PhoneInterface}
    (h : ∀ q, ((f s.phone).positions.get q).debounced = (s.phone.positions.get q).debounced) :
    Safe s (s.modPhone f) :=
  ⟨.phone f s, SameFlags.copyBut { SameFlags.refl s with debounced := h } rfl⟩

theorem journal {f : TollJournal → TollJournal}
    (h : JournalBounded s.journal → JournalBounded (f s.journal)) : Safe s (s.modJournal f) :=
  ⟨⟨id, fun ⟨l, sw, a, t, j, w, c, g, r⟩ => ⟨l, sw, a, t, h j, w, c, g, r⟩, id⟩,
    SameFlags.copyBut { SameFlags.refl s with } rfl⟩

theorem wx {f : WeatherSampler → WeatherSampler} (h : WxBounded s.wx → WxBounded (f s.wx))
    (hf : ∀ c, ((f s.wx).work.get c).high = (s.wx.work.get c).high ∧
      ((f s.wx).work.get c).low = (s.wx.work.get c).low ∧
      ((f s.wx).work.get c).fault = (s.wx.work.get c).fault) : Safe s (s.modWx f) :=
  ⟨.wx h, SameFlags.copyBut { SameFlags.refl s with work := hf } rfl⟩

theorem cond {f : ConditionUnit → ConditionUnit} (h : CondBounded s.cond → CondBounded (f s.cond))
    (hc : (f s.cond).copy = s.cond.copy) : Safe s (s.modCond f) :=
  ⟨.cond h, SameFlags.copyBut { SameFlags.refl s with } hc⟩

theorem sign {f : SignController → SignController}
    (h : SignBounded s.sign → SignBounded (f s.sign))
    (hf : (f s.sign).sender.signFail = s.sign.sender.signFail) : Safe s (s.modSign f) :=
  ⟨.sign h, SameFlags.copyBut { SameFlags.refl s with signFail := hf } rfl⟩

theorem agent {f : Agent → Agent} (ha : (f s.agent).address = s.agent.address)
    (hc : (f s.agent).centreFlags = s.agent.centreFlags)
    (hr : s.agent.requests.length ≤ 4 → (f s.agent).requests.length ≤ 4) : Safe s (s.modAgent f) :=
  ⟨.agent ha hr, SameFlags.copyBut { SameFlags.refl s with centre := hc } rfl⟩

theorem out {f : Outputs → Outputs} (hw : cycleOrNone s.out.txW → cycleOrNone (f s.out).txW)
    (he : cycleOrNone s.out.txE → cycleOrNone (f s.out).txE) : Safe s (s.modOut f) :=
  ⟨⟨id, fun ⟨l, sw, a, t, j, w, c, g, r⟩ => ⟨l, sw, a, t, j, w, c, g, r⟩,
    fun ⟨⟨h1, h2⟩, h3, h4⟩ => ⟨⟨hw h1, he h2⟩, h3, h4⟩⟩, fun _ => id⟩

theorem lanes {f : Lanes → Lanes} (h : (f s.lanes).fromCentre = s.lanes.fromCentre) :
    Safe s (s.modLanes f) :=
  ⟨⟨id, fun ⟨l, sw, a, t, j, w, c, g, r⟩ => ⟨l, sw, a, t, j, w, c, g, r⟩,
    fun ⟨h1, ⟨h2, h3⟩, h4⟩ => ⟨h1, ⟨h2, fun k => by
      have := h3 k; simpa [h] using this⟩, h4⟩⟩, fun _ => id⟩

theorem timer {f : CycleTimer → CycleTimer}
    (hd : (f s.timer).duplicate.isSome = s.timer.duplicate.isSome)
    (hu : s.timer.record.u ≤ 48 → (f s.timer).record.u ≤ 48) : Safe s (s.modTimer f) :=
  ⟨.timer hu, SameFlags.copyBut { SameFlags.refl s with duplicate := hd } rfl⟩

theorem period (f : Period → Period) (s : State) : Safe s (s.modPeriod f) :=
  ⟨⟨id, fun ⟨l, sw, a, t, j, w, c, g, r⟩ => ⟨l, sw, a, t, j, w, c, g, r⟩, id⟩, fun _ => id⟩

theorem spendOpen (s : State) : Safe s s.spendOpen :=
  ⟨⟨id, fun ⟨l, sw, a, t, j, w, c, g, r⟩ => ⟨l, sw, a, t, j, w, c, g, r⟩, id⟩, fun _ => id⟩

/-! ### Updates that touch no bound -/

theorem sw_count {f : FrameSwitch → FrameSwitch} (hb : (f s.sw).budget = s.sw.budget)
    (hq : queueFrames (f s.sw) = queueFrames s.sw) (hh : (f s.sw).holding = s.sw.holding)
    (ha : (f s.sw).accept = s.sw.accept) (hr : (f s.sw).records = s.sw.records) :
    Safe s (s.modSw f) :=
  sw fun h => ⟨hb ▸ h.budget, hq ▸ h.queues, hh ▸ h.holding, ha ▸ h.accept, hr ▸ h.records⟩

theorem alloc_count {f : SlotAllocator → SlotAllocator}
    (hk : (f s.alloc).capacity = s.alloc.capacity)
    (hc : (f s.alloc).calls.length = s.alloc.calls.length)
    (hw : (f s.alloc).waiting.length = s.alloc.waiting.length) : Safe s (s.modAlloc f) :=
  alloc fun h => ⟨hk ▸ h.capacity, hc ▸ h.calls, hw ▸ h.waiting⟩

theorem toll_count {f : TollRelay → TollRelay} (hk : (f s.toll).tToll = s.toll.tToll)
    (ha : (f s.toll).answers.length ≤ s.toll.answers.length)
    (hp : (f s.toll).pendingTable.length ≤ s.toll.pendingTable.length)
    (hd : (f s.toll).deny.length ≤ s.toll.deny.length) : Safe s (s.modToll f) :=
  toll fun h => ⟨hk ▸ h.limit, ha.trans h.answers, hp.trans h.pending, hd.trans h.deny⟩

theorem journal_count {f : TollJournal → TollJournal} (hd : (f s.journal).drain = s.journal.drain)
    (hr : (f s.journal).records.length ≤ s.journal.records.length) : Safe s (s.modJournal f) :=
  journal fun h => ⟨hd ▸ h.drain, hr.trans h.records⟩

theorem cond_count {f : ConditionUnit → ConditionUnit} (hc : (f s.cond).copy = s.cond.copy)
    (ht : (f s.cond).table = s.cond.table) (hm : (f s.cond).mask = s.cond.mask)
    (he : (f s.cond).events = s.cond.events) : Safe s (s.modCond f) :=
  cond (fun h => ⟨ht ▸ h.table, hm ▸ h.mask, he ▸ h.events⟩) hc

end Safe

end Sys2Proof.Machine
end

section
/-! PROOFS. Ring cycles and line ports, part 2: what offers, reports, changes of a condition, the
sign, and the tolls keep of the standing relations. -/

namespace Sys2Proof.Machine

set_option Elab.async false

/-! ## Discards, offers, frames sent -/

theorem SwBounded.recordDiscard {sw : FrameSwitch} (r : DiscardRecord) (h : SwBounded sw) :
    SwBounded (recordDiscard r sw) :=
  ⟨h.budget, fun q => by simpa using h.queues q, h.holding, h.accept, by
    rw [recordDiscard_records, List.length_take]; omega⟩

theorem SwBounded.discardFrame {sw : FrameSwitch} (c : Half) (r : DiscardReason) (p : Place)
    (f : Frame) (h : SwBounded sw) : SwBounded (discardFrame c r p f sw) := h.recordDiscard _

theorem SwBounded.discardAll {sw : FrameSwitch} (c : Half) (r : DiscardReason) (p : Place)
    (fs : List Frame) (h : SwBounded sw) : SwBounded (discardAll c r p fs sw) := by
  induction fs generalizing sw with
  | nil => exact h
  | cons f fs ih => exact ih (h.discardFrame c r p f)

theorem SwBounded.loseZone {sw : FrameSwitch} (h : SwBounded sw) : SwBounded (loseZone sw) :=
  ⟨h.budget, h.queues, h.holding, h.accept, h.records⟩

theorem SwBounded.setQueue {sw : FrameSwitch} (q : QueueName) (fs : List Frame)
    (hl : fs.length ≤ capacityOf q) (h : SwBounded sw) : SwBounded (setQueue q fs sw) :=
  ⟨by simpa using h.budget, fun r => by
    rw [queueFrames_setQueue]
    split
    · next e => exact e ▸ hl
    · exact h.queues r, by simpa using h.holding, by simpa using h.accept, by simpa using h.records⟩

/-- What an offer can do to the switch: it sets one queue, or discards. -/
theorem offerFrame_cases (assigned isolated ofCentre : Bool) (c : Half) (q : QueueName) (f : Frame)
    (sw : FrameSwitch) :
    ∃ r p fs gs, (offerFrame assigned isolated ofCentre c q f sw).1 =
      setQueue q gs (discardAll c r p fs sw) := by
  have hone : ∀ r p, discardFrame c r p f sw =
      setQueue q (queueFrames sw q) (discardAll c r p [f] sw) := fun r p => by
    rw [← queueFrames_discardAll c r p [f] sw q, setQueue_self]; rfl
  have hnone : sw = setQueue q (queueFrames sw q) (discardAll c .noPath .uplink [] sw) := by
    rw [discardAll_nil, setQueue_self]
  unfold offerFrame
  split
  · exact ⟨_, _, _, _, hone _ _⟩
  split
  · exact ⟨_, _, _, _, hone _ _⟩
  split
  · exact ⟨_, _, _, _, hone _ _⟩
  split
  · split
    · exact ⟨_, _, _, _, hone _ _⟩
    · cases q
      case alarm => exact ⟨_, _, _, _, rfl⟩
      case wx => exact ⟨_, _, _, _, rfl⟩
      case tollLive => exact ⟨_, _, _, _, hnone⟩
      case tollDeferred => exact ⟨_, _, _, _, hnone⟩
      all_goals exact ⟨_, _, _, _, hone _ _⟩
  · exact ⟨.noPath, .uplink, [], _, rfl⟩

theorem SwBounded.offerFrame {sw : FrameSwitch} (assigned isolated ofCentre : Bool) (c : Half)
    (q : QueueName) (f : Frame) (h : SwBounded sw) :
    SwBounded (offerFrame assigned isolated ofCentre c q f sw).1 := by
  have hq := offerFrame_bounded assigned isolated ofCentre c q f sw h.queues
  obtain ⟨r, p, fs, gs, he⟩ := offerFrame_cases assigned isolated ofCentre c q f sw
  rw [he] at hq ⊢
  have hl := hq q
  rw [queueFrames_setQueue, if_pos rfl] at hl
  exact (h.discardAll c r p fs).setQueue q gs hl

theorem discardFrame_safe (c : Half) (r : DiscardReason) (p : Place) (f : Frame) (s : State) :
    Safe s (s.modSw (discardFrame c r p f)) := .sw fun h => h.discardFrame c r p f

theorem offerOwn_safe (q : QueueName) (f : Frame) (s : State) : Safe s (offerOwn q f s).1 :=
  Safe.sw (f := fun _ =>
    (offerFrame s.agent.address.isSome (isIsolated s) false s.timer.number q f s.sw).1)
    fun h => h.offerFrame _ _ _ _ _ _

theorem sendUplink_safe (f : Frame) (s : State) : Safe s (sendUplink f s) := .out id id

theorem sendToCentre_safe (q : QueueName) (service channel : Octet) (payload : Octets)
    (s : State) : Safe s (sendToCentre q service channel payload s).1 := by
  unfold sendToCentre
  simp only
  split
  · exact (Safe.spendOpen s).trans (sendUplink_safe _ _)
  · exact (Safe.spendOpen s).trans (offerOwn_safe _ _ _)

theorem countTaken_safe (s : State) : Safe s (countTaken s) := .sw_count rfl rfl rfl rfl rfl

/-! ## The Sign Controller: what its operations leave alone -/

/-- What only WRITEs and SIGN_FAIL move of the Sign Controller stands. -/
structure SignKept (g g' : SignController) : Prop where
  rules    : g'.rules = g.rules
  hold     : g'.holdSeconds = g.holdSeconds
  answer   : g'.answerLimit = g.answerLimit
  store    : g'.store = g.store
  pages    : g'.pages = g.pages
  signFail : g'.sender.signFail = g.sender.signFail

namespace SignKept

theorem refl (g : SignController) : SignKept g g := ⟨rfl, rfl, rfl, rfl, rfl, rfl⟩

theorem trans {g h k : SignController} (a : SignKept g h) (b : SignKept h k) : SignKept g k :=
  ⟨b.1.trans a.1, b.2.trans a.2, b.3.trans a.3, b.4.trans a.4, b.5.trans a.5, b.6.trans a.6⟩

theorem after {g h k : SignController} (b : SignKept h k) (a : SignKept g h) : SignKept g k :=
  a.trans b

theorem bounded {g g' : SignController} (h : SignKept g g') (hg : SignBounded g) :
    SignBounded g' :=
  ⟨h.rules ▸ hg.rules, h.hold ▸ hg.hold, h.answer ▸ hg.answer, h.store ▸ hg.store,
    h.pages ▸ hg.pages⟩

/-- An update of the Sign Controller that keeps them keeps the standing relations. -/
theorem safe {f : SignController → SignController} {s : State} (h : SignKept s.sign (f s.sign)) :
    Safe s (s.modSign f) := .sign h.bounded h.signFail

end SignKept

theorem startTransfer_kept (lead : Octets) (p : Fin 64) (k : Nat) (g : SignController) :
    SignKept g (startTransfer lead p k g) := ⟨rfl, rfl, rfl, rfl, rfl, rfl⟩

theorem startSelected_kept (lead : Octets) (g : SignController) :
    SignKept g (startSelected lead g) := startTransfer_kept _ _ _ _

theorem oweSelection_kept (g : SignController) : SignKept g (oweSelection g) := by
  unfold oweSelection
  split
  · exact startSelected_kept _ _
  · exact ⟨rfl, rfl, rfl, rfl, rfl, rfl⟩

theorem handToSender_kept (g : SignController) : SignKept g (handToSender g) := by
  unfold handToSender
  split
  · exact (startSelected_kept _ _).after ⟨rfl, rfl, rfl, rfl, rfl, rfl⟩
  · exact oweSelection_kept _

theorem enterIdle_kept (g : SignController) : SignKept g (enterIdle g) :=
  ⟨rfl, rfl, rfl, rfl, rfl, rfl⟩

theorem endAttempt_kept (p : Fin 64) (k : Nat) (g : SignController) :
    SignKept g (endAttempt p k g) := by
  unfold endAttempt
  split
  · exact startSelected_kept _ _
  split
  · exact startTransfer_kept _ _ _ _
  · exact ⟨rfl, rfl, rfl, rfl, rfl, rfl⟩

theorem badAnswer_kept (g : SignController) : SignKept g (badAnswer g) :=
  ⟨rfl, rfl, rfl, rfl, rfl, rfl⟩

theorem endExchange_kept (g : SignController) : SignKept g (endExchange g) := by
  unfold endExchange
  split
  · exact startSelected_kept _ _
  · exact enterIdle_kept _

theorem reevaluate_kept (copy : Tab Bool 64) (ignore : Bool) (g : SignController) :
    SignKept g (reevaluate copy ignore g) := by
  unfold reevaluate
  simp only
  split
  · exact ⟨rfl, rfl, rfl, rfl, rfl, rfl⟩
  split
  · exact (handToSender_kept _).after ⟨rfl, rfl, rfl, rfl, rfl, rfl⟩
  · exact .refl _

theorem conditionMoved_kept (copy : Tab Bool 64) (c : Fin 64) (g : SignController) :
    SignKept g (conditionMoved copy c g) := by
  unfold conditionMoved
  split
  · exact reevaluate_kept _ _ _
  · exact .refl _

theorem centreShow_kept (copy : Tab Bool 64) (p : Fin 64) (k l : Nat) (g : SignController) :
    SignKept g (centreShow copy p k l g) :=
  (reevaluate_kept _ _ _).after ⟨rfl, rfl, rfl, rfl, rfl, rfl⟩

theorem centreClear_kept (copy : Tab Bool 64) (g : SignController) :
    SignKept g (centreClear copy g) :=
  (reevaluate_kept _ _ _).after ⟨rfl, rfl, rfl, rfl, rfl, rfl⟩

theorem reevaluateSign_safe (s : State) : Safe s (reevaluateSign s) :=
  (reevaluate_kept _ _ _).safe

/-! ## Changes of a condition -/

theorem offerReport_safe (s : State) : Safe s (offerReport s) := by
  unfold offerReport
  simp only
  split
  · exact .refl s
  · exact (sendToCentre_safe _ _ _ _ s).trans (.cond_count rfl rfl rfl rfl)

theorem reportTrigger_safe (s : State) : Safe s (reportTrigger s) :=
  .ite (offerReport_safe s) (.refl s)

theorem isPair_iff {c : Fin 64} {rise : Bool} {e : PendingEvent} :
    isPair c rise e = true ↔ e.condition = c ∧ e.rise = rise := by simp [isPair]

@[simp] theorem repeatEvent_condition (c : Fin 64) (rise : Bool) (e : PendingEvent) :
    (repeatEvent c rise e).condition = e.condition := by unfold repeatEvent; split <;> rfl

@[simp] theorem repeatEvent_rise (c : Fin 64) (rise : Bool) (e : PendingEvent) :
    (repeatEvent c rise e).rise = e.rise := by unfold repeatEvent; split <;> rfl

/-- A repeat keeps the pairs distinct and the repeat counts in an octet (R164). -/
theorem EventsBounded.repeated {es : List PendingEvent} (c : Fin 64) (rise : Bool)
    (h : EventsBounded es) : EventsBounded (es.map (repeatEvent c rise)) := by
  refine ⟨by simpa [List.map_map, Function.comp_def] using h.once, fun e he => ?_⟩
  obtain ⟨x, hx, rfl⟩ := List.mem_map.1 he
  have := h.repeats x hx
  unfold repeatEvent
  split
  · show 1 ≤ min 255 (x.repeats + 1) ∧ min 255 (x.repeats + 1) ≤ 255
    omega
  · exact this

/-- An event of a pair that is not pending joins (R164). -/
theorem EventsBounded.joined {es : List PendingEvent} {e : PendingEvent} (h : EventsBounded es)
    (hn : es.any (isPair e.condition e.rise) = false) (hr : e.repeats = 1) :
    EventsBounded (es ++ [e]) := by
  refine ⟨?_, fun x hx => ?_⟩
  · rw [List.map_append, List.nodup_append]
    refine ⟨h.once, by simp, fun x hx y hy hxy => ?_⟩
    obtain ⟨a, ha, rfl⟩ := List.mem_map.1 hx
    obtain rfl : y = (e.condition, e.rise) := by simpa using hy
    obtain ⟨h1, h2⟩ := Prod.mk.inj hxy
    exact absurd (List.any_eq_false.1 hn a ha) (by simp [isPair_iff, h1, h2])
  · rcases List.mem_append.1 hx with hx | hx
    · exact h.repeats x hx
    · rw [List.mem_singleton.1 hx, hr]; omega

theorem judgeEdge_safe (c : Fin 64) (rise : Bool) (s : State) : Safe s (judgeEdge c rise s) := by
  unfold judgeEdge
  simp only
  split
  · exact .refl s
  split
  · exact .cond (fun h => ⟨h.table, h.mask, h.events.repeated c rise⟩) rfl
  · next hn =>
    have h1 : ∀ e : PendingEvent, e.condition = c → e.rise = rise → e.repeats = 1 →
        Safe s (s.modCond fun u =>
          { u with events := u.events ++ [e], eventsMade := bump u.eventsMade }) :=
      fun e hc hr h1 => .cond (fun h => ⟨h.table, h.mask, h.events.joined
        (by simpa [hc, hr] using hn) h1⟩) rfl
    split
    · exact (h1 _ rfl rfl rfl).trans (reportTrigger_safe _)
    · exact h1 _ rfl rfl rfl

/-- Making of reports and events leaves the copy and the flags of the owners alone. -/
theorem judgeEdge_copy (c : Fin 64) (rise : Bool) (s : State) :
    (judgeEdge c rise s).cond.copy = s.cond.copy := by
  have hr : ∀ s, (reportTrigger s).cond.copy = s.cond.copy := fun s => by
    have h := (sendToCentre_changes .alarm svcAlarm (octet ((reportableEvents s).length - 62))
      (((reportableEvents s).take 62).flatMap encodeEvent) s) .cond (by decide)
    unfold reportTrigger offerReport
    simp only
    split
    · split
      · rfl
      · exact congrArg (·.copy) h
    · rfl
  unfold judgeEdge
  simp only
  split
  · rfl
  split
  · rfl
  split
  · exact hr _
  · rfl

/-- The parts of the state that hold the owners' flags, but for the sign. -/
theorem Changes.sameFlags {ps : List Part} {s t : State} (h : Changes ps s t)
    (hp : ∀ p ∈ [Part.wx, .prot, .timer, .phone, .agent], p ∉ ps)
    (hf : t.sign.sender.signFail = s.sign.sender.signFail) : SameFlags s t := by
  have hw : t.wx = s.wx := h .wx (hp _ (by simp))
  have ht : t.timer = s.timer := h .timer (hp _ (by simp))
  have hr : t.prot = s.prot := h .prot (hp _ (by simp))
  have hq : t.phone = s.phone := h .phone (hp _ (by simp))
  have ha : t.agent = s.agent := h .agent (hp _ (by simp))
  exact ⟨by simp [hw], by rw [hr], by rw [hr], by rw [ht], fun q => by unfold posAt; rw [hq], hf,
    by rw [ha]⟩

/-- A change of a condition, as one value of each part: the copy takes the value, an edge may be
judged, the sign follows (R161). -/
theorem changeCondition_copy (judged : Bool) (c : Fin 64) (v : Bool) (s : State) :
    (changeCondition judged c v s).cond.copy = s.cond.copy.set c v := by
  unfold changeCondition
  simp only
  split
  · next h =>
    refine (Tab.ext_get fun i => ?_).symm
    rw [Tab.get_set]
    split
    · next e => rw [← e, h]
    · rfl
  · cases judged
    · rfl
    · exact judgeEdge_copy c v _

theorem changeCondition_signKept (judged : Bool) (c : Fin 64) (v : Bool) (s : State) :
    SignKept s.sign (changeCondition judged c v s).sign := by
  have hj : ∀ s, (judgeEdge c v s).sign = s.sign := fun s => by
    have hr : ∀ s, (reportTrigger s).sign = s.sign := fun s => by
      have h := (sendToCentre_changes .alarm svcAlarm (octet ((reportableEvents s).length - 62))
        (((reportableEvents s).take 62).flatMap encodeEvent) s) .sign (by decide)
      unfold reportTrigger offerReport
      simp only
      split
      · split
        · rfl
        · exact h
      · rfl
    unfold judgeEdge
    simp only
    split
    · rfl
    split
    · rfl
    split
    · exact hr _
    · rfl
  unfold changeCondition
  simp only
  split
  · exact .refl _
  · cases judged
    · exact conditionMoved_kept _ _ _
    · have h := conditionMoved_kept (judgeEdge c v (s.modCond fun u =>
        { u with copy := u.copy.set c v })).cond.copy c
        (judgeEdge c v (s.modCond fun u => { u with copy := u.copy.set c v })).sign
      rw [hj] at h
      simpa [hj] using h

theorem changeCondition_sameFlags (judged : Bool) (c : Fin 64) (v : Bool) (s : State) :
    SameFlags s (changeCondition judged c v s) :=
  (changeCondition_changes judged c v s).sameFlags (by decide)
    (changeCondition_signKept judged c v s).signFail

theorem changeCondition_steady (judged : Bool) (c : Fin 64) (v : Bool) (s : State) :
    Steady s (changeCondition judged c v s) := by
  have hc : Steady s (s.modCond fun u => { u with copy := u.copy.set c v }) :=
    .cond fun h => ⟨h.table, h.mask, h.events⟩
  unfold changeCondition
  simp only
  refine .ite (.refl s) (Steady.trans ?_ (conditionMoved_kept _ _ _).safe.toSteady)
  exact .ite (hc.trans (judgeEdge_safe c v _).toSteady) hc

/-- A condition whose copy takes the value of its owner's flag is one less that does not follow. -/
theorem CopyBut.change {c : Fin 64} {cs : List (Fin 64)} {s : State} (judged : Bool) {v : Bool}
    (h : CopyBut (c :: cs) s) (hv : v = ownerFlag s c.val) :
    CopyBut cs (changeCondition judged c v s) := by
  intro d hd h56 h57
  rw [changeCondition_copy, Tab.get_set, (changeCondition_sameFlags judged c v s).ownerFlag
    (fun e => h56 (Fin.ext e)) fun e => h57 (Fin.ext e)]
  split
  · next e => rw [hv, e]
  · next e => exact h d (by simp [Ne.symm e, hd]) h56 h57

/-- A change of one of the journal's two conditions is none of the copy that `CopyFollows` means. -/
theorem changeCondition_safe_journal (judged : Bool) {c : Fin 64}
    (hc : c = condJournalNonempty ∨ c = condJournalFull) (v : Bool) (s : State) :
    Safe s (changeCondition judged c v s) := by
  refine ⟨changeCondition_steady judged c v s, fun cs h d hd h56 h57 => ?_⟩
  have hcd : c ≠ d := by rintro rfl; exact hc.elim h56 h57
  rw [changeCondition_copy, Tab.get_set, if_neg hcd, (changeCondition_sameFlags judged c v s).ownerFlag
    (fun e => h56 (Fin.ext e)) fun e => h57 (Fin.ext e)]
  exact h d hd h56 h57

/-! ## The Toll Journal and the Toll Relay -/

theorem journalConditions_safe (s : State) : Safe s (journalConditions s) :=
  (changeCondition_safe_journal _ (.inl rfl) _ _).trans
    (changeCondition_safe_journal _ (.inr rfl) _ _)

theorem journalTake_safe (k : TollKey) (b : Octets) (v : Verdict) (s : State) :
    Safe s (journalTake k b v s) :=
  .journal fun h => by
    by_cases hf : 512 ≤ s.journal.records.length
    · rw [if_pos hf]; exact ⟨h.drain, h.records⟩
    · rw [if_neg hf]
      exact ⟨h.drain, by simp only [List.length_append, List.length_singleton]; omega⟩

theorem journalRemove_safe (k : TollKey) (s : State) : Safe s (journalRemove k s) :=
  .journal_count rfl (List.length_filter_le _ _)

theorem journalSetVerdict_safe (k : TollKey) (v : Verdict) (s : State) :
    Safe s (journalSetVerdict k v s) := .journal_count rfl (by simp)

theorem journalAllWaiting_safe (s : State) : Safe s (journalAllWaiting s) :=
  .journal_count rfl (by simp)

theorem drainLoop_safe (ks : List TollKey) (s : State) : Safe s (drainLoop ks s) := by
  induction ks generalizing s with
  | nil => exact .refl s
  | cons k ks ih =>
    unfold drainLoop
    split
    · exact ih s
    · have h := sendToCentre_safe .tollDeferred svcToll 3 (encodeDeferred (offered ‹_›)) s
      simp only
      split
      · exact h.trans (.journal_count rfl le_rfl)
      · exact (h.trans (.journal_count rfl (by simp [markOffered]))).trans (ih _)
      · exact h.trans (ih _)

theorem answerGantry_safe (a : TollAnswer) (s : State) : Safe s (answerGantry a s) :=
  .toll fun h => by
    by_cases hf : 32 ≤ s.toll.answers.length
    · rw [if_pos hf]; exact ⟨h.limit, h.answers, h.pending, h.deny⟩
    · rw [if_neg hf]
      exact ⟨h.limit, by simp only [List.length_append, List.length_singleton]; omega, h.pending,
        h.deny⟩

theorem answerLocally_safe (k : TollKey) (b : Octets) (s : State) : Safe s (answerLocally k b s) :=
  ((answerGantry_safe _ s).trans (.toll_count rfl le_rfl le_rfl le_rfl)).trans
    (journalTake_safe _ _ _ _)

theorem dropPending_safe (k : TollKey) (s : State) : Safe s (dropPending k s) :=
  .toll_count rfl le_rfl (List.length_filter_le _ _) le_rfl

theorem endPending_safe (p : PendingToll) (s : State) : Safe s (endPending p s) :=
  (dropPending_safe _ s).trans (answerLocally_safe _ _ _)

theorem tollDetach_safe (s : State) : Safe s (tollDetach s) :=
  Safe.foldl (fun s p => (endPending_safe p s).trans (.toll_count rfl le_rfl le_rfl le_rfl)) _ s

theorem tollRestart_safe (s : State) : Safe s (tollRestart s) := by
  refine Safe.foldl (fun s p => ?_) _ s
  have h1 : Safe (dropPending p.key s) ((dropPending p.key s).modToll fun t =>
      { t with restartMoved := bump t.restartMoved }) := .toll_count rfl le_rfl le_rfl le_rfl
  exact ((dropPending_safe p.key s).trans h1).trans (journalTake_safe _ _ _ _)

theorem laneReport_safe (b : Octets) (s : State) : Safe s (laneReport b s) := by
  have h := sendToCentre_safe .tollLive svcToll 2 b s
  unfold laneReport
  exact .ite (.ite (h.trans (.toll_count rfl le_rfl le_rfl le_rfl))
    (h.trans (.toll_count rfl le_rfl le_rfl le_rfl))) (.toll_count rfl le_rfl le_rfl le_rfl)

theorem newTransaction_safe (b : Octets) (s : State) : Safe s (newTransaction b s) := by
  unfold newTransaction
  simp only
  split
  · exact Safe.trans (.toll_count rfl le_rfl le_rfl le_rfl) (answerLocally_safe _ _ _)
  split
  · exact answerLocally_safe _ _ _
  · next hroom _ =>
    have h1 : Safe s (s.modToll fun t =>
        { t with
          pendingTable := t.pendingTable ++
            [{ key := blockKey b, block := b, arrival := s.timer.number, timer := 0 }]
          forwarded := bump t.forwarded }) :=
      .toll fun h => ⟨h.limit, h.answers, by
        simp only [List.length_append, List.length_singleton]; omega, h.deny⟩
    have h2 := h1.trans (sendToCentre_safe .tollLive svcToll 1 b _)
    split
    · exact (h2.trans (.toll_count rfl le_rfl le_rfl le_rfl)).trans (endPending_safe _ _)
    · exact h2

theorem answerJournalled_safe (r : JournalRecord) (s : State) : Safe s (answerJournalled r s) :=
  .ite ((answerGantry_safe _ s).trans (journalSetVerdict_safe _ _ _)) (answerGantry_safe _ s)

theorem judgeCharge_safe (b : Octets) (s : State) : Safe s (judgeCharge b s) := by
  have h0 : ∀ (f : TollRelay → TollRelay) (s : State), (f s.toll).tToll = s.toll.tToll →
      (f s.toll).answers = s.toll.answers → (f s.toll).pendingTable = s.toll.pendingTable →
      (f s.toll).deny = s.toll.deny → Safe s (s.modToll f) := fun f s h1 h2 h3 h4 =>
    .toll_count h1 (by rw [h2]) (by rw [h3]) (by rw [h4])
  have h1 := h0 (fun t => { t with receivedCharge := bump t.receivedCharge }) s rfl rfl rfl rfl
  unfold judgeCharge
  simp only
  split
  · exact (h1.trans (h0 _ _ rfl rfl rfl rfl)).trans (answerGantry_safe _ _)
  split
  · exact h1.trans (h0 _ _ rfl rfl rfl rfl)
  split
  · exact (h1.trans (h0 _ _ rfl rfl rfl rfl)).trans (answerJournalled_safe _ _)
  · exact h1.trans (newTransaction_safe _ _)

theorem judgeRun_safe (run : Octets) (n : Nat) (s : State) : Safe s (judgeRun run n s) :=
  .ite (.toll_count rfl le_rfl le_rfl le_rfl) (.ite (.toll_count rfl le_rfl le_rfl le_rfl)
    (.ite (judgeCharge_safe _ _) (.ite (laneReport_safe _ _)
      (.toll_count rfl le_rfl le_rfl le_rfl))))

theorem ignoreToll_safe (s : State) : Safe s (ignoreToll s) :=
  .toll_count rfl le_rfl le_rfl le_rfl

theorem matchAnswer_safe (k : TollKey) (v : Verdict) (b : Quad) (s : State) :
    Safe s (matchAnswer k v b s) :=
  .ite (((dropPending_safe k s).trans (answerGantry_safe _ _)).trans
      (.toll_count rfl le_rfl le_rfl le_rfl))
    (.ite ((journalRemove_safe k s).trans (.toll_count rfl le_rfl le_rfl le_rfl))
      (.toll_count rfl le_rfl le_rfl le_rfl))

theorem settleRecord_safe (k : TollKey) (s : State) : Safe s (settleRecord k s) :=
  .ite ((journalRemove_safe k s).trans (.journal_count rfl le_rfl)) (.journal_count rfl le_rfl)

theorem takeTollAnswer_safe (via : Via) (k : TollKey) (v : Octet) (b : Quad) (s : State) :
    Safe s (takeTollAnswer via k v b s) := by
  unfold takeTollAnswer
  split
  · exact matchAnswer_safe _ _ _ _
  · exact ignoreToll_safe s

theorem takeSettled_safe (via : Via) (k : TollKey) (s : State) : Safe s (takeSettled via k s) := by
  cases via
  · exact settleRecord_safe _ _
  · exact ignoreToll_safe s

theorem takeTollFrame_safe (via : Via) (channel : Octet) (p : Octets) (s : State) :
    Safe s (takeTollFrame via channel p s) := by
  unfold takeTollFrame
  split
  · exact matchAnswer_safe _ _ _ _
  · exact settleRecord_safe _ _
  · exact ignoreToll_safe s

end Sys2Proof.Machine
end

section
/-! PROOFS. Ring cycles and line ports, part 3: call signalling, plan banks and the Slot Allocator
keep the standing relations. -/

namespace Sys2Proof.Machine

set_option Elab.async false

/-! ## The Phone Interface -/

/-- A hand-over that keeps the standing relations. -/
def HandSafe (hand : Hand) : Prop := ∀ t m s, Safe s (hand t m s)

/-- The positions after a change of one. -/
@[simp] theorem posAt_modPos (q k : Fin 4) (f : Position → Position) (s : State) :
    posAt (modPos q f s) k = if q = k then f (posAt s k) else posAt s k := by
  simp [posAt, modPos]

/-- A change of a position that keeps the debounced hook. -/
theorem modPos_safe (q : Fin 4) {f : Position → Position} (s : State)
    (h : ∀ p, (f p).debounced = p.debounced := by intro _; rfl) : Safe s (modPos q f s) :=
  .phone fun k => by
    simp only [Tab.get_modify]
    split
    · exact h _
    · rfl

theorem modPhone_safe {f : PhoneInterface → PhoneInterface} (s : State)
    (h : ∀ p, (f p).positions = p.positions := by intro _; rfl) : Safe s (s.modPhone f) :=
  .phone fun q => by rw [h]

theorem ignoreVsig_safe (s : State) : Safe s (ignoreVsig s) := modPhone_safe s

theorem clearBanks_safe (s : State) : Safe s (clearBanks s) := modPhone_safe s

theorem heldPosition_safe (q : Fin 4) (s : State) : Safe s (modPos q heldPosition s) :=
  modPos_safe q s

theorem idlePosition_safe (q : Fin 4) (s : State) : Safe s (modPos q idlePosition s) :=
  modPos_safe q s

theorem talkIfHeld_safe (q : Fin 4) (s : State) : Safe s (talkIfHeld q s) :=
  .ite (modPos_safe q s) (.refl s)

section
variable {hand : Hand} (hh : HandSafe hand)
include hh

theorem sendVsig_safe (t : Target) (dest : Octet) (m : VsigMsg) (s : State) :
    Safe s (sendVsig hand t dest m s) := by
  unfold sendVsig
  split
  · exact (countTaken_safe s).trans (hh _ _ _)
  · exact (Safe.spendOpen s).trans (offerOwn_safe _ _ _)

theorem offerRequest_safe (q : Fin 4) (s : State) : Safe s (offerRequest hand q s) :=
  ((modPos_safe q s).trans (modPhone_safe _)).trans
    (sendVsig_safe hh _ _ _ _)

theorem offerRelease_safe (q : Fin 4) (s : State) : Safe s (offerRelease hand q s) :=
  (modPhone_safe s).trans (sendVsig_safe hh _ _ _ _)

theorem enterRequesting_safe (q : Fin 4) (s : State) : Safe s (enterRequesting hand q s) :=
  ((modPos_safe q s).trans (offerRequest_safe hh _ _)).trans (talkIfHeld_safe _ _)

theorem offHookIdle_safe (q : Fin 4) (s : State) : Safe s (offHookIdle hand q s) :=
  .ite (enterRequesting_safe hh q s) (heldPosition_safe q s)

theorem takeOffHook_safe (q : Fin 4) (s : State) : Safe s (takeOffHook hand q s) := by
  unfold takeOffHook
  split
  · exact offHookIdle_safe hh q s
  · exact ((modPos_safe q s).trans (modPhone_safe _)).trans
      (.ite (enterRequesting_safe hh _ _) (heldPosition_safe _ _))
  · exact .refl s

theorem endClearing_safe (q : Fin 4) (s : State) : Safe s (endClearing hand q s) :=
  (idlePosition_safe q s).trans (.ite (offHookIdle_safe hh _ _) (.refl _))

theorem enterClearing_safe (q : Fin 4) (s : State) : Safe s (enterClearing hand q s) :=
  ((modPos_safe q s).trans (offerRelease_safe hh _ _)).trans
    (.ite (endClearing_safe hh _ _) (.refl _))

theorem takeOnHook_safe (q : Fin 4) (s : State) : Safe s (takeOnHook hand q s) := by
  unfold takeOnHook
  split
  · exact enterClearing_safe hh q s
  · exact enterClearing_safe hh q s
  · exact enterClearing_safe hh q s
  · exact idlePosition_safe q s
  · exact idlePosition_safe q s
  · exact .refl s

theorem takePress_safe (q : Fin 4) (s : State) : Safe s (takePress hand q s) := by
  have hl := (modPos_safe q (f := fun p => { p with priority := true }) s).trans
    (modPhone_safe (f := fun p => { p with priorityPresses := bump p.priorityPresses })
      _)
  unfold takePress
  simp only
  split
  · exact .refl s
  · split
    · exact hl.trans (offerRequest_safe hh _ _)
    · exact hl.trans (offerRequest_safe hh _ _)
    · exact hl
    · exact hl
    · exact .refl s

theorem examinePosition_safe (q : Fin 4) (s : State) : Safe s (examinePosition hand q s) := by
  unfold examinePosition
  simp only
  split
  · exact talkIfHeld_safe _ _
  · exact talkIfHeld_safe _ _
  · exact .ite ((modPos_safe q s).trans (modPhone_safe _)) (.refl s)
  · exact .ite (endClearing_safe hh _ _) (.refl s)
  · exact .refl s

theorem switchBanks_safe (s : State) : Safe s (switchBanks hand s) :=
  (modPhone_safe s).trans (Safe.foldl (fun s q => examinePosition_safe hh q s) _ _)

theorem switchIfDue_safe (s : State) : Safe s (switchIfDue hand s) :=
  .ite (switchBanks_safe hh s) (.refl s)

theorem answerPlan_safe (late : Bool) (v : Octet) (s : State) :
    Safe s (answerPlan hand late v s) := sendVsig_safe hh _ _ _ _

theorem takePlanUpdate_safe (via : Via) (source v : Octet) (c : Half) (slots : Octets)
    (s : State) : Safe s (takePlanUpdate hand via source v c slots s) := by
  unfold takePlanUpdate
  split
  · exact ignoreVsig_safe s
  split
  · exact modPhone_safe s
  split
  · exact ignoreVsig_safe s
  split
  · exact (modPhone_safe s).trans (answerPlan_safe hh _ _ _)
  split
  · split
    · exact (modPhone_safe s).trans (answerPlan_safe hh _ _ _)
    · exact (modPhone_safe s).trans (answerPlan_safe hh _ _ _)
  · exact modPhone_safe s

theorem queuedAt_safe (q : Fin 4) (k : Nat) (s : State) : Safe s (queuedAt hand q k s) := by
  unfold queuedAt
  split
  · exact modPos_safe q s
  · exact modPos_safe q s
  · exact modPos_safe q s
  · exact (modPos_safe q s).trans (enterRequesting_safe hh _ _)
  · exact ignoreVsig_safe s

theorem takeCallQueued_safe (r : CallRef) (k : Nat) (s : State) :
    Safe s (takeCallQueued hand r k s) := by
  unfold takeCallQueued
  split
  · exact ignoreVsig_safe s
  · exact .ite (queuedAt_safe hh _ _ _) (ignoreVsig_safe s)

theorem phoneTake_safe (via : Via) (source : Octet) (m : VsigMsg) (s : State) :
    Safe s (phoneTake hand via source m s) := by
  unfold phoneTake
  split
  · exact takeCallQueued_safe hh _ _ _
  · exact takePlanUpdate_safe hh _ _ _ _ _ _
  · exact ignoreVsig_safe s

theorem detachPosition_safe (q : Fin 4) (s : State) : Safe s (detachPosition hand q s) := by
  unfold detachPosition
  split
  · exact heldPosition_safe q s
  · exact heldPosition_safe q s
  · exact heldPosition_safe q s
  · exact endClearing_safe hh _ _
  · exact .refl s

theorem phoneDetach_safe (s : State) : Safe s (phoneDetach hand s) :=
  (clearBanks_safe s).trans (Safe.foldl (fun s q => detachPosition_safe hh q s) _ _)

theorem phoneRelink_safe (s : State) : Safe s (phoneRelink hand s) :=
  Safe.foldl (fun s q => Safe.ite ((modPos_safe q s).trans
    (enterRequesting_safe hh q _)) (.refl s)) _ _

theorem phoneRestart_safe (s : State) : Safe s (phoneRestart hand s) := by
  have h1 : Safe s ((indices 4).foldl (fun s q => releaseIfBusy hand q s) s) :=
    Safe.foldl (fun s q => Safe.ite (.refl s) (offerRelease_safe hh q s)) _ _
  have h2 : ∀ s : State, Safe s (s.modPhone fun p =>
      { p with positions := p.positions.map idlePosition }) := fun s =>
    .phone fun q => by simp [idlePosition]
  exact ((h1.trans (clearBanks_safe _)).trans (h2 _)).trans
    (Safe.foldl (fun s q => Safe.ite (offHookIdle_safe hh q s) (.refl s)) _ _)

end

/-! ## The Slot Allocator -/

theorem modPlan_safe (n : Fin 240) (f : PlanRecord → PlanRecord) (s : State) :
    Safe s (modPlan n f s) := .alloc_count rfl rfl rfl

theorem modCall_safe (n : Fin 240) (q : Fin 4) (f : CallEntry → CallEntry) (s : State) :
    Safe s (modCall n q f s) := .alloc_count rfl (by simp) rfl

theorem length_insertCall (e : CallEntry) (cs : List CallEntry) :
    (insertCall e cs).length = cs.length + 1 := by
  induction cs with
  | nil => rfl
  | cons c cs ih => unfold insertCall; split <;> simp [ih]

theorem length_insertWaiting (x : WaitingEntry) (ws : List WaitingEntry) :
    (insertWaiting x ws).length = ws.length + 1 := by
  induction ws with
  | nil => rfl
  | cons w ws ih => unfold insertWaiting; split <;> simp [ih]

/-- A repeat of a queued request takes its old place out before it takes the new one. -/
theorem length_raiseWaiting (n : Fin 240) (q : Fin 4) (p : Bool) (ws : List WaitingEntry) :
    (raiseWaiting n q p ws).length ≤ ws.length := by
  unfold raiseWaiting
  split
  · exact le_rfl
  · next w hw =>
    split
    · rw [length_insertWaiting]
      have hm := List.mem_of_find?_eq_some hw
      have := List.length_filter_lt_length_iff_exists (p := fun x => !isRequest n q x) (l := ws) |>.2
        ⟨w, hm, by simpa using List.find?_some hw⟩
      omega
    · exact le_rfl

theorem ignoreAlloc_safe (s : State) : Safe s (ignoreAlloc s) := .alloc_count rfl rfl rfl

theorem staleAnswer_safe (s : State) : Safe s (staleAnswer s) := .alloc_count rfl rfl rfl

theorem markPresent_safe (o : Octet) (s : State) : Safe s (markPresent o s) := by
  unfold markPresent
  split
  · exact .refl s
  · exact modPlan_safe _ _ _

theorem renewStatus_safe (n : Fin 240) (q : Fin 4) (s : State) : Safe s (renewStatus n q s) :=
  .ite (modCall_safe _ _ _ s) (.alloc_count rfl rfl rfl)

theorem freeNodeSlots_safe (n : Fin 240) (s : State) : Safe s (freeNodeSlots n s) :=
  .alloc_count rfl rfl rfl

section
variable {hand : Hand} (hh : HandSafe hand)
include hh

theorem issuePlan_safe (n : Fin 240) (k : Nat) (es : PlanEntries) (s : State) :
    Safe s (issuePlan hand n k es s) :=
  ((modPlan_safe _ _ s).trans (.alloc_count rfl rfl rfl)).trans (sendVsig_safe hh _ _ _ _)

theorem planCalls_safe (n : Fin 240) (s : State) : Safe s (planCalls hand n s) :=
  issuePlan_safe hh _ _ _ _

/-- A grant is made where the call table has room (R94). -/
theorem grant_safe (n : Fin 240) (q : Fin 4) (p : Bool) {s : State}
    (hg : canGrant s.alloc = true) : Safe s (grant hand n q p s) := by
  have hroom : s.alloc.calls.length < 24 := by
    simpa using (Bool.and_eq_true_iff.1 hg).2
  unfold grant
  split
  · refine Safe.trans (.alloc fun h => ⟨h.capacity, ?_, h.waiting⟩) (planCalls_safe hh _ _)
    rw [length_insertCall]; omega
  · exact .refl s

theorem grantQueue_safe (k : Nat) (s : State) : Safe s (grantQueue hand k s) := by
  induction k generalizing s with
  | zero => exact .refl s
  | succ k ih =>
    unfold grantQueue
    split
    · exact .refl s
    · next w rest hw =>
      split
      · next hg =>
        have h1 : Safe s (s.modAlloc fun a =>
            { a with waiting := rest, grantsFromQueue := bump a.grantsFromQueue }) :=
          .alloc fun h => ⟨h.capacity, h.calls, by
            have := h.waiting
            rw [hw, List.length_cons] at this
            exact Nat.le_of_succ_le this⟩
        exact (h1.trans (grant_safe hh w.node w.position w.priority hg)).trans (ih _)
      · exact .refl s

theorem grantFromQueue_safe (s : State) : Safe s (grantFromQueue hand s) := grantQueue_safe hh _ _

theorem grantAfter_safe {s t : State} (h : Safe s t) : Safe s (grantAfter hand s t) :=
  .ite h (h.trans (grantFromQueue_safe hh t))

theorem takeCallRequest_safe (n : Fin 240) (q : Fin 4) (p : Bool) (s : State) :
    Safe s (takeCallRequest hand n q p s) := by
  unfold takeCallRequest
  split
  · exact (modCall_safe _ _ _ s).trans (planCalls_safe hh _ _)
  split
  · refine Safe.trans (.alloc fun h => ⟨h.capacity, h.calls, ?_⟩) (sendVsig_safe hh _ _ _ _)
    exact (length_raiseWaiting _ _ _ _).trans h.waiting
  split
  · next hg => exact grant_safe hh _ _ _ hg
  split
  · next hr =>
    refine Safe.trans (.alloc fun h => ⟨h.capacity, h.calls, ?_⟩) (sendVsig_safe hh _ _ _ _)
    rw [length_insertWaiting]; omega
  · exact Safe.trans (.alloc_count rfl rfl rfl) (sendVsig_safe hh _ _ _ _)

theorem takeCallRelease_safe (n : Fin 240) (q : Fin 4) (s : State) :
    Safe s (takeCallRelease hand n q s) :=
  .ite ((modCall_safe _ _ _ s).trans (planCalls_safe hh _ _))
    (.alloc fun h => ⟨h.capacity, h.calls, (List.length_filter_le _ _).trans h.waiting⟩)

theorem acceptPlan_safe (n : Fin 240) (f : InFlight) (s : State) :
    Safe s (acceptPlan hand n f s) := by
  refine grantAfter_safe hh ?_
  have h1 : ∀ s : State, Safe s (s.modAlloc fun a =>
      { a with calls := (a.calls.map (settleCall n f.plan.entries)).filter fun e =>
          !callEnded n f.plan.entries e }) := fun s =>
    .alloc fun h => ⟨h.capacity, ((List.length_filter_le _ _).trans
      (List.length_map _).le).trans h.calls, h.waiting⟩
  have h2 := (modPlan_safe n (fun r => { r with
    accepted := f.plan, acceptedSeen := f.seen
    comeRound := roundDone s.timer.number f.plan f.seen, inFlight := none }) s).trans (h1 _)
  exact .ite (h2.trans (freeNodeSlots_safe n _)) h2

theorem takePlanAccept_safe (n : Fin 240) (v : Octet) (s : State) :
    Safe s (takePlanAccept hand n v s) := by
  unfold takePlanAccept
  simp only
  split
  · exact acceptPlan_safe hh _ _ _
  · exact .ite (.refl s) (staleAnswer_safe s)

theorem takePlanLate_safe (n : Fin 240) (v : Octet) (s : State) :
    Safe s (takePlanLate hand n v s) := by
  unfold takePlanLate
  split
  · exact issuePlan_safe hh _ _ _ _
  · exact staleAnswer_safe s

theorem declareAbsent_safe (n : Fin 240) (s : State) : Safe s (declareAbsent hand n s) := by
  have h1 : Safe s (s.modAlloc fun a =>
      { a with
        calls := a.calls.filter fun e => e.node != n
        waiting := a.waiting.filter fun w => w.node != n
        slots := a.slots.map (markSlot n)
        nodesAbsent := bump a.nodesAbsent }) :=
    .alloc fun h => ⟨h.capacity, (List.length_filter_le _ _).trans h.calls,
      (List.length_filter_le _ _).trans h.waiting⟩
  have h2 := h1.trans (modPlan_safe n (fun r =>
    { r with inFlight := none, absent := true, quarantine := some 0 }) _)
  exact .ite h2 (h2.trans (grantFromQueue_safe hh _))

theorem resendPlan_safe (n : Fin 240) (s : State) : Safe s (resendPlan hand n s) := by
  unfold resendPlan
  split
  · exact .refl s
  · exact .ite (Safe.trans (.alloc_count rfl rfl rfl) (issuePlan_safe hh _ _ _ _))
      (declareAbsent_safe hh _ _)

theorem endQuarantine_safe (n : Fin 240) (s : State) : Safe s (endQuarantine hand n s) :=
  grantAfter_safe hh (Safe.trans (.alloc_count rfl rfl rfl) (modPlan_safe _ _ _))

theorem comeRoundNow_safe (n : Fin 240) (s : State) :
    Safe s (grantAfter hand s (freeNodeSlots n (modPlan n (fun r =>
      { r with comeRound := true }) s))) :=
  grantAfter_safe hh ((modPlan_safe _ _ _).trans (freeNodeSlots_safe _ _))

theorem superviseCall_safe (n : Fin 240) (q : Fin 4) (s : State) :
    Safe s (superviseCall hand n q s) :=
  ((modCall_safe _ _ _ s).trans (.alloc_count rfl rfl rfl)).trans (planCalls_safe hh _ _)

theorem setCapacity_safe (c : Nat) (s : State) : Safe s (setCapacity hand c s).1 := by
  have h : Safe s (s.modAlloc fun a => { a with capacity := min c 48 }) :=
    .alloc fun h => ⟨Nat.min_le_right _ _, h.calls, h.waiting⟩
  unfold setCapacity
  split
  · exact .refl s
  · exact .ite (h.trans (grantFromQueue_safe hh _)) h

theorem allocMessage_safe (source : Octet) (n : Fin 240) (m : VsigMsg) (s : State) :
    Safe s (allocMessage hand source n m s) := by
  unfold allocMessage
  split
  · split
    · exact takeCallRequest_safe hh _ _ _ _
    · exact ignoreAlloc_safe s
  · split
    · exact takeCallRelease_safe hh _ _ _
    · exact ignoreAlloc_safe s
  · split
    · exact Safe.foldl (fun s q => renewStatus_safe n q s) _ _
    · exact ignoreAlloc_safe s
  · exact takePlanAccept_safe hh _ _ _
  · exact takePlanLate_safe hh _ _ _
  · exact ignoreAlloc_safe s

theorem allocTake_safe (source : Octet) (m : VsigMsg) (s : State) :
    Safe s (allocTake hand source m s) := by
  unfold allocTake
  split
  · exact ignoreAlloc_safe s
  · exact (markPresent_safe _ _).trans (allocMessage_safe hh _ _ _ _)

end

theorem handDeep_safe (k : Nat) : HandSafe (handDeep k) := by
  induction k with
  | zero => exact fun _ _ s => .refl s
  | succ k ih =>
    intro t m s
    cases t
    · exact phoneTake_safe ih .taken 1 m s
    · exact allocTake_safe ih 1 m s

/-- The hand-over inside a master keeps the standing relations. -/
theorem hand_safe : HandSafe hand := handDeep_safe 64

end Sys2Proof.Machine
end

section
/-! PROOFS. Ring cycles and line ports, part 4: reachability, protection, the Management Agent and the
Frame Switch's work on frames keep the standing relations. -/

namespace Sys2Proof.Machine

set_option Elab.async false

theorem Safe.copyFollows {s t : State} (h : Safe s t) (hs : CopyFollows s) : CopyFollows t :=
  copyBut_nil.1 (h.copy [] (copyBut_nil.2 hs))

/-- Steadiness and the copy, when no part that holds a flag has moved. -/
theorem Steady.safe {s t : State} (h : Steady s t) (hf : SameFlags s t)
    (hc : t.cond.copy = s.cond.copy) : Safe s t := ⟨h, fun cs => hf.copyBut hc cs⟩

/-! ## Line ports -/

@[simp] theorem portAt_modPort (p q : Port) (f : LinePort → LinePort) (s : State) :
    portAt (modPort p f s) q = if p = q then f (portAt s q) else portAt s q := by
  cases p <;> cases q <;> rfl

@[simp] theorem modPort_wtrSeconds (p : Port) (f : LinePort → LinePort) (s : State) :
    (modPort p f s).line.wtrSeconds = s.line.wtrSeconds := by cases p <;> rfl

/-- Updates of other blocks leave the ports alone. -/
theorem portAt_congr {s t : State} (h : t.line = s.line) (p : Port) : portAt t p = portAt s p := by
  cases p <;> simp [portAt, h]

/-- A change of a port keeps the relations when the port, if a request names it, is UNHEALTHY with
its timer stopped after it (R9). -/
theorem modPort_safe (p : Port) {f : LinePort → LinePort} {s : State}
    (h : s.prot.forced = some p →
      (portAt s p).health = .unhealthy ∧ (portAt s p).wtrTimer = none →
      (f (portAt s p)).health = .unhealthy ∧ (f (portAt s p)).wtrTimer = none) :
    Safe s (modPort p f s) := by
  have hline := modPort_changes p f s
  refine Steady.safe ⟨?_, ?_, ?_⟩ (hline.sameFlags (by decide) ?_) ?_
  · rintro ⟨hf, hr, ha⟩
    refine ⟨fun x hx => ?_, ?_, ?_⟩
    · have hx' : s.prot.forced = some x := by cases p <;> exact hx
      rw [portAt_modPort]
      split
      · next e => subst e; exact h hx' (hf p hx')
      · exact hf x hx'
    · cases p <;> exact hr
    · cases p <;> exact ha
  · rintro ⟨l, sw, a, t, j, w, c, g, r⟩
    exact ⟨by simpa using l, by cases p <;> exact sw, by cases p <;> exact a,
      by cases p <;> exact t, by cases p <;> exact j, by cases p <;> exact w,
      by cases p <;> exact c, by cases p <;> exact g, by cases p <;> exact r⟩
  · cases p <;> exact id
  · cases p <;> rfl
  · cases p <;> rfl

/-- A port that a request names is UNHEALTHY with its timer stopped, whatever its line (R9). -/
theorem refreshPort_forced (p : LinePort) :
    (refreshPort true p).health = .unhealthy ∧ (refreshPort true p).wtrTimer = none := by
  unfold refreshPort
  split
  · exact ⟨rfl, rfl⟩
  · simp [unfaultPort]

theorem changePort_safe (p : Port) (f : LinePort → LinePort) (s : State) :
    Safe s (changePort p f s) :=
  modPort_safe p fun hp _ => by
    rw [show forcedOn s p = true by simp [forcedOn, hp]]
    exact refreshPort_forced _

/-! ## Reachability -/

/-- After `updateReach` reachability stands as its condition (R20, R21). -/
theorem reachFollows_updateReach (s : State) : ReachFollows (updateReach s) := rfl

/-- The age takes a value and reachability follows it (R20). -/
theorem updateAge_safe (n : Nat) (s : State) : Safe s (updateReach (setAge n s)) :=
  Steady.safe ⟨fun ⟨hf, _, ha⟩ => ⟨hf, reachFollows_updateReach _, ha⟩,
    fun ⟨l, sw, a, t, j, w, c, g, r⟩ => ⟨l, sw, a, t, j, w, c, g, r⟩, id⟩
    { SameFlags.refl s with } rfl

theorem updateReach_safe (s : State) : Safe s (updateReach s) :=
  Steady.safe ⟨fun ⟨hf, _, ha⟩ => ⟨hf, reachFollows_updateReach _, ha⟩,
    fun ⟨l, sw, a, t, j, w, c, g, r⟩ => ⟨l, sw, a, t, j, w, c, g, r⟩, id⟩
    { SameFlags.refl s with } rfl

theorem recirculate_safe (s : State) : Safe s (recirculate s) :=
  Safe.trans (.timer rfl id) (updateAge_safe 16 _)

theorem setUplink_eq (up : Bool) (s : State) : setUplink up s =
    if s.isMaster then updateReach (s.modPins fun p => { p with uplinkUp := up })
    else s.modPins fun p => { p with uplinkUp := up } := rfl

theorem setUplink_safe (up : Bool) (s : State) : Safe s (setUplink up s) := by
  rw [setUplink_eq]
  by_cases hm : s.isMaster = true
  · rw [if_pos hm]
    exact Steady.safe ⟨fun ⟨hf, _, ha⟩ => ⟨hf, reachFollows_updateReach _, ha⟩,
      fun ⟨l, sw, a, t, j, w, c, g, r⟩ => ⟨l, sw, a, t, j, w, c, g, r⟩, id⟩
      { SameFlags.refl s with } rfl
  · rw [if_neg hm]
    refine Steady.safe ⟨fun ⟨hf, hr, ha⟩ => ⟨hf, hr.trans ?_, ha⟩,
      fun ⟨l, sw, a, t, j, w, c, g, r⟩ => ⟨l, sw, a, t, j, w, c, g, r⟩, id⟩
      { SameFlags.refl s with } rfl
    show (if s.isMaster then _ else _) = if s.isMaster then _ else _
    rw [if_neg hm, if_neg hm]
    rfl

/-! ## The hand-over of reachability, and the protection state -/

/-- A change of what the Protection Controller has handed or of its state, reachability and its causes
apart, is steady. -/
theorem modProt_steady {f : Protection → Protection} {s : State}
    (hf : (f s.prot).forced = s.prot.forced) (hl : (f s.prot).linked = s.prot.linked)
    (ha : (f s.prot).age = s.prot.age)
    (hc : (∀ c ∈ s.prot.heldS, c.length = 1024) → ∀ c ∈ (f s.prot).heldS, c.length = 1024) :
    Steady s (s.modProt f) := by
  refine ⟨fun ⟨h1, h2, h3⟩ => ⟨fun p hp => h1 p (hf ▸ hp), ?_, h3⟩,
    fun ⟨l, sw, a, t, j, w, c, g, r⟩ => ⟨l, sw, a, t, j, w, c, g, r⟩,
    fun ⟨h1, h2, h3, h4, h5⟩ => ⟨h1, h2, h3, hc h4, h5⟩⟩
  have he : shouldBeLinked (s.modProt f) = shouldBeLinked s := by
    show (if s.isMaster then s.pins.uplinkUp
      else decide ((f s.prot).age < 16) && s.agent.address.isSome) = _
    rw [ha]; rfl
  exact (hl.trans h2).trans he.symm

/-- A change of the hold, or of a count of the Protection Controller. -/
theorem modProt_safe {f : Protection → Protection} {s : State}
    (hf : (f s.prot).forced = s.prot.forced) (hl : (f s.prot).linked = s.prot.linked)
    (ha : (f s.prot).age = s.prot.age)
    (hc : (∀ c ∈ s.prot.heldS, c.length = 1024) → ∀ c ∈ (f s.prot).heldS, c.length = 1024)
    (hh : (f s.prot).handed = s.prot.handed) (hs : (f s.prot).state = s.prot.state) :
    Safe s (s.modProt f) :=
  (modProt_steady hf hl ha hc).safe { SameFlags.refl s with handed := hh, state := hs } rfl

/-- A flag of the copy whose owner has moved is not among those that must follow. -/
theorem CopyBut.weaken {cs ds : List (Fin 64)} {s : State} (h : CopyBut cs s) (hs : cs ⊆ ds) :
    CopyBut ds s := fun c hc => h c fun hd => hc (hs hd)

/-- DETACHED is the flag of what has been handed, and no other flag is. -/
theorem CopyBut.handed {cs : List (Fin 64)} {s : State} (v : Bool) (h : CopyBut cs s) :
    CopyBut (condDetached :: cs) (s.modProt fun p => { p with handed := v }) := by
  intro c hc h56 h57
  have h48 : c.val ≠ 48 := fun e => hc (by simp [show c = condDetached from Fin.ext e])
  rw [State.modProt_cond, h c (fun hd => hc (by simp [hd])) h56 h57]
  unfold ownerFlag
  simp only [if_neg h48]
  rfl

/-- What the Protection Controller has told the blocks takes a value (R22). -/
def setHanded (v : Bool) (s : State) : State := s.modProt fun p => { p with handed := v }

theorem relink_eq (s : State) : relink s =
    changeCondition true condDetached false
      (reportTrigger (phoneRelink hand (setHanded true s))) := rfl

theorem detach_eq (s : State) : detach s =
    changeCondition true condDetached true
      (journalAllWaiting (tollDetach (phoneDetach hand (setHanded false s)))) := rfl

/-- A change of condition 48 that follows what has been handed (R22). -/
theorem changeDetached_safe {s t : State} {v w : Bool} (h : Safe (setHanded v s) t)
    (hp : t.prot = (setHanded v s).prot) (hw : w = !v) :
    Safe s (changeCondition true condDetached w t) := by
  have h0 : Steady s (setHanded v s) := modProt_steady rfl rfl rfl id
  refine ⟨(h0.trans h.toSteady).trans (changeCondition_steady _ _ _ _), fun cs hc => ?_⟩
  refine (h.copy _ (hc.handed v)).change true ?_
  show w = !t.prot.handed
  rw [hp]
  exact hw

theorem relink_safe (s : State) : Safe s (relink s) := by
  rw [relink_eq]
  refine changeDetached_safe (v := true)
    ((phoneRelink_safe hand_safe _).trans (reportTrigger_safe _)) ?_ rfl
  exact (reportTrigger_changes _ .prot (by decide)).trans
    (phoneRelink_changes hand_keeps _ .prot (by decide))

theorem detach_safe (s : State) : Safe s (detach s) := by
  rw [detach_eq]
  refine changeDetached_safe (v := false)
    (((phoneDetach_safe hand_safe _).trans (tollDetach_safe _)).trans (journalAllWaiting_safe _))
    ?_ rfl
  exact (tollDetach_changes _ .prot (by decide)).trans
    (phoneDetach_changes hand_keeps _ .prot (by decide))

theorem handReach_safe (s : State) : Safe s (handReach s) :=
  .ite (.refl s) (.ite (relink_safe s) (detach_safe s))

theorem dropHeldS_safe (s : State) : Safe s (dropHeldS s) := by
  unfold dropHeldS
  split
  · exact .refl s
  · refine Safe.trans (.sw fun h => h.discardAll _ _ _ _) (modProt_safe rfl rfl rfl ?_ rfl rfl)
    exact fun _ c hc => by cases hc

theorem SwBounded.clearHolding {sw : FrameSwitch} (h : SwBounded sw) :
    SwBounded { sw with holding := [] } :=
  ⟨h.budget, h.queues, Nat.zero_le _, h.accept, h.records⟩

theorem SwBounded.isolate {sw : FrameSwitch} (c : Half) (h : SwBounded sw) :
    SwBounded (isolateSwitch c sw) := by
  have h1 : ∀ (qs : List QueueName) (sw : FrameSwitch), SwBounded sw →
      SwBounded (qs.foldl (discardQueue c) sw) := by
    intro qs
    induction qs with
    | nil => exact fun _ h => h
    | cons q qs ih =>
      exact fun sw h => ih _ ((h.discardAll c .noPath (.queue q) _).setQueue q [] (by simp))
  exact ((h1 allQueues sw h).discardAll c .noPath .holding _).clearHolding

theorem isolateTiming_safe (s : State) : Safe s (isolateTiming s) := by
  have h1 : Safe s (if s.timer.holdover then s else s.modTimer enterHoldover) :=
    .ite (.refl s) (.timer rfl id)
  exact .ite (.refl s) (h1.trans (updateAge_safe 16 _))

/-- WRAPPED and ISOLATED are the flags of the protection state, and no other flag is. -/
theorem CopyBut.moved {cs : List (Fin 64)} {s : State} {f : Protection → Protection}
    (hh : (f s.prot).handed = s.prot.handed) (h : CopyBut cs s) :
    CopyBut (condWrapped :: condIsolated :: cs) (s.modProt f) := by
  intro c hc h56 h57
  have h49 : c.val ≠ 49 := fun e => hc (by simp [show c = condWrapped from Fin.ext e])
  have h50 : c.val ≠ 50 := fun e => hc (by simp [show c = condIsolated from Fin.ext e])
  rw [State.modProt_cond, h c (fun hd => hc (by simp [hd])) h56 h57]
  unfold ownerFlag
  simp only [if_neg h49, if_neg h50, State.modProt_prot, hh]
  rfl

theorem isolateSwitch_safe (s : State) :
    Safe s (s.modSw (isolateSwitch s.timer.number)) := .sw fun h => h.isolate _

/-- A move of the protection state leaves WRAPPED and ISOLATED to be handed. -/
theorem moveProtection_keeps (new : ProtState) (s : State) :
    Steady s (moveProtection new s) ∧ ∀ cs, CopyBut cs s →
      CopyBut (condWrapped :: condIsolated :: cs) (moveProtection new s) := by
  have h1 : Safe s (if s.prot.state = .ring then dropHeldS s else s) :=
    .ite (dropHeldS_safe s) (.refl s)
  have h2 : ∀ f s, Safe s (if processedPort f = processedPort new then s
      else s.modTimer fun t => { t with adoptNext := true }) := fun f s =>
    .ite (.refl s) (.timer rfl id)
  have h3 : ∀ s, Safe s (if new = .isolated then
      isolateTiming (s.modSw (isolateSwitch s.timer.number)) else s) := fun s =>
    .ite ((isolateSwitch_safe s).trans (isolateTiming_safe _)) (.refl s)
  have hm : ∀ s : State, Steady s (s.modProt fun p =>
      { p with state := new, changes := bump p.changes
               isolations := if new = .isolated then bump p.isolations else p.isolations }) :=
    fun s => modProt_steady rfl rfl rfl id
  exact ⟨((h1.toSteady.trans (hm _)).trans (h2 s.prot.state _).toSteady).trans (h3 _).toSteady,
    fun cs h => (h3 _).copy _ ((h2 s.prot.state _).copy _ (CopyBut.moved rfl (h1.copy _ h)))⟩

theorem settleProtection_keeps (s : State) :
    Steady s (settleProtection s) ∧ ∀ cs, CopyBut cs s →
      CopyBut (condWrapped :: condIsolated :: cs) (settleProtection s) := by
  unfold settleProtection
  simp only
  have hw : ∀ t, Safe s t → Steady s t ∧ ∀ cs, CopyBut cs s →
      CopyBut (condWrapped :: condIsolated :: cs) t := fun t h =>
    ⟨h.toSteady, fun cs hc => (h.copy cs hc).weaken fun c hd => by simp [hd]⟩
  split
  · split
    · exact hw _ (isolateSwitch_safe s)
    · exact hw _ (.refl s)
  · exact moveProtection_keeps _ s

/-- Conditions 49 and 50 are handed as the state stands (R33). -/
theorem protectionConditions_keeps (s : State) :
    Steady s (protectionConditions s) ∧ ∀ cs, CopyBut (condWrapped :: condIsolated :: cs) s →
      CopyBut cs (protectionConditions s) := by
  have hf : ∀ c v, SameFlags s (changeCondition true c v s) := fun c v =>
    changeCondition_sameFlags _ _ _ _
  unfold protectionConditions
  simp only
  split
  · refine ⟨(changeCondition_steady _ _ _ _).trans (changeCondition_steady _ _ _ _),
      fun cs h => ?_⟩
    refine (h.change true rfl).change true ?_
    show _ = ((changeCondition _ _ _ s).prot.state == .isolated)
    rw [(hf _ _).state]
  · refine ⟨(changeCondition_steady _ _ _ _).trans (changeCondition_steady _ _ _ _),
      fun cs h => ?_⟩
    have h' : CopyBut (condIsolated :: condWrapped :: cs) s := h.weaken fun c hc => by
      simp only [List.mem_cons] at hc ⊢
      tauto
    refine (h'.change true rfl).change true ?_
    show _ = ((changeCondition _ _ _ s).prot.state == .wrapEast ||
      (changeCondition _ _ _ s).prot.state == .wrapWest)
    rw [(hf _ _).state]

/-- The end of a cycle leaves every relation as it stood (R22, R24, R33, R130). -/
theorem settleCycle_safe (s : State) : Safe s (settleCycle s) := by
  have h1 := settleProtection_keeps s
  have h2 := handReach_safe (settleProtection s)
  have h3 := protectionConditions_keeps (handReach (settleProtection s))
  have h4 := journalConditions_safe (protectionConditions (handReach (settleProtection s)))
  exact ⟨((h1.1.trans h2.toSteady).trans h3.1).trans h4.toSteady,
    fun cs h => h4.copy _ (h3.2 _ (h2.copy _ (h1.2 _ h)))⟩

/-! ## The Management Agent -/

theorem agent_count {f : Agent → Agent} (s : State)
    (h : ∀ a, (f a).address = a.address ∧ (f a).centreFlags = a.centreFlags ∧
      (f a).requests = a.requests := by intro _; exact ⟨rfl, rfl, rfl⟩) :
    Safe s (s.modAgent f) :=
  .agent (h _).1 (h _).2.1 fun hr => by rw [(h _).2.2]; exact hr

theorem respond_safe (h : Head) (r : Result) (s : State) : Safe s (respond h r s) := by
  have h0 : Safe s (s.modAgent fun a => { a with responsesSent := bump a.responsesSent }).spendOpen :=
    (agent_count s).trans (.spendOpen _)
  unfold respond
  simp only
  split
  · exact h0.trans (sendUplink_safe _ _)
  · split
    · exact .ite (h0.trans (sendUplink_safe _ _)) (h0.trans (discardFrame_safe _ _ _ _ _))
    · exact h0.trans (offerOwn_safe _ _ _)

theorem countRequest_safe (h : Head) (s : State) : Safe s (countRequest h s) := agent_count s

theorem length_leaveQueue (me : Instr) (rs : List QueuedRequest) :
    (leaveQueue me rs).length ≤ rs.length := by
  unfold leaveQueue
  split
  · exact le_rfl
  · split <;> simp

/-- A request whose own rule keeps the relations. -/
theorem execRequest_safe (h : Head) (code : Nat) (me : Instr) {body : State → State} {s : State}
    (hb : Safe (countRequest h s) (body (countRequest h s))) :
    Safe s (execRequest h code me body s) := by
  have h2 : ∀ s : State, Safe s (s.modAgent fun a => { a with requests := leaveQueue me a.requests }) :=
    fun s => .agent rfl rfl fun hr => (length_leaveQueue _ _).trans hr
  unfold execRequest
  simp only
  refine Safe.trans ?_ (h2 _)
  split
  · exact (countRequest_safe h s).trans (respond_safe _ _ _)
  · exact (countRequest_safe h s).trans hb

theorem answering_safe (h : Head) {run : State → State × Result} {s : State}
    (hr : Safe s (run s).1) : Safe s (answering h run s) := hr.trans (respond_safe _ _ _)

theorem answeringDone_safe (h : Head) {f : State → State} {s : State} (hf : Safe s (f s)) :
    Safe s (answeringDone h f s) := hf.trans (respond_safe _ _ _)

theorem refuseHead_safe (s : State) : Safe s (refuseHead s) := by
  unfold refuseHead
  split
  · exact .refl s
  · next r rest hr =>
    refine .ite ?_ (.refl s)
    have h1 := (countRequest_safe r.head s).trans (respond_safe r.head
      (refusal ((agentCheck r.head (requestCode r.payload) (countRequest r.head s)).getD .badValue))
      (countRequest r.head s))
    refine ⟨⟨?_, ?_, ?_⟩, ?_⟩
    · exact fun hs => (Safe.agent (f := fun a => { a with requests := [] }) rfl rfl
        (fun _ => by simp)).reach (h1.reach hs)
    · intro hs
      have hl := hs.agent
      rw [hr, List.length_cons] at hl
      obtain ⟨l, sw, a, t, j, w, c, g, _⟩ := h1.bounds hs
      exact ⟨l, sw, a, t, j, w, c, g, Nat.le_of_succ_le hl⟩
    · exact h1.cycles
    · exact fun cs hs => h1.copy cs hs

theorem makeOffer_safe (a : Octet) (s : State) : Safe s (makeOffer a s) :=
  ((agent_count s).trans (.spendOpen _)).trans (offerOwn_safe _ _ _)

theorem startWalk_safe (h : Head) (a : Octet) (s : State) : Safe s (startWalk h a s) :=
  (agent_count s).trans (makeOffer_safe _ _)

theorem endWalk_safe (r : Result) (s : State) : Safe s (endWalk r s) :=
  (agent_count s).trans (respond_safe _ _ _)

theorem ignoreMgmt_safe (s : State) : Safe s (ignoreMgmt s) := agent_count s

theorem takeTaken_safe (a : Octet) (s : State) : Safe s (takeTaken a s) := by
  unfold takeTaken
  exact .ite (.ite ((agent_count s).trans (endWalk_safe _ _))
    ((agent_count s).trans (makeOffer_safe _ _))) (ignoreMgmt_safe s)

theorem offerReturned_safe (s : State) : Safe s (offerReturned s) :=
  .ite (endWalk_safe _ _) (ignoreMgmt_safe s)

theorem walkExpires_safe (s : State) : Safe s (walkExpires s) :=
  (agent_count s).trans (endWalk_safe _ _)

theorem walkRestart_safe (s : State) : Safe s (walkRestart s) := .ite (endWalk_safe _ _) (.refl s)

theorem awaitsAddress_iff (s : State) :
    awaitsAddress s = true ↔ s.isMaster = false ∧ s.agent.address = none := by
  simp [awaitsAddress]

/-- An unassigned slave takes a legal address: reachability follows it (R20, R207). -/
theorem takeAddress_safe {a : Octet} {s : State} (hs : awaitsAddress s = true)
    (ha : offerLegal a = true) : Safe s (takeAddress a s).1 := by
  obtain ⟨hm, _⟩ := (awaitsAddress_iff s).1 hs
  refine Steady.safe ⟨fun ⟨hf, _, _⟩ => ⟨hf, reachFollows_updateReach _, ?_⟩,
    fun ⟨l, sw, a, t, j, w, c, g, r⟩ => ⟨l, sw, a, t, j, w, c, g, r⟩, id⟩
    { SameFlags.refl s with } rfl
  show if s.isMaster = true then _ else (some a).all offerLegal = true
  simp [hm, ha]

theorem takeOffer_safe {a : Octet} (fits : Bool) {s : State} (hs : awaitsAddress s = true)
    (ha : offerLegal a = true) : Safe s (takeOffer a fits s) :=
  .ite (takeAddress_safe hs ha) ((takeAddress_safe hs ha).trans (offerOwn_safe _ _ _))

/-- A slave that becomes unassigned is DETACHED (R20, R209). -/
theorem clearAddress_safe {s : State} (hm : s.isMaster = false) : Safe s (clearAddress s) := by
  refine Steady.safe ⟨fun ⟨hf, _, _⟩ => ⟨hf, reachFollows_updateReach _, ?_⟩,
    fun ⟨l, sw, a, t, j, w, c, g, r⟩ => ⟨l, sw, a, t, j, w, c, g, r⟩, id⟩
    { SameFlags.refl s with } rfl
  show if s.isMaster = true then _ else (none : Option Octet).all offerLegal = true
  simp [hm]

theorem joinQueue_safe (origin : Origin) (f : Frame) (s : State) : Safe s (joinQueue origin f s) := by
  unfold joinQueue
  by_cases hf : 4 ≤ s.agent.requests.length
  · exact .agent (by rw [if_pos hf]) (by rw [if_pos hf]) fun h => by rw [if_pos hf]; exact h
  · exact .agent (by rw [if_neg hf]) (by rw [if_neg hf]) fun h => by
      rw [if_neg hf]; simp only [List.length_append, List.length_singleton]; omega

theorem fieldOffer_awaits {origin : Origin} {f : Frame} {s : State} {a : Octet}
    (h : fieldOffer origin f s = some a) : awaitsAddress s = true := by
  unfold fieldOffer at h
  split at h
  · next hc => simp only [Bool.and_eq_true] at hc; exact hc.1.2
  · cases h

theorem agentTake_safe (origin : Origin) (f : Frame) (s : State) : Safe s (agentTake origin f s) := by
  unfold agentTake
  split
  · next h =>
    unfold takeFieldOffer
    split
    · next ha => exact takeOffer_safe false (fieldOffer_awaits h) ha
    · exact .refl s
  · split
    · exact takeTaken_safe _ _
    · exact .ite (joinQueue_safe _ _ _) (ignoreMgmt_safe s)

theorem ignoreSign_safe (s : State) : Safe s (ignoreSign s) :=
  SignKept.safe ⟨rfl, rfl, rfl, rfl, rfl, rfl⟩

theorem takeSignFrame_safe (source : Octet) (p : Octets) (s : State) :
    Safe s (takeSignFrame source p s) := by
  unfold takeSignFrame
  split
  · split
    · exact (centreShow_kept _ _ _ _ _).safe
    · exact ignoreSign_safe s
  · exact (centreClear_kept _ _).safe
  · exact ignoreSign_safe s

/-! ## Frames of a zone and of the uplink port -/

theorem handVsig_safe (via : Via) (f : Frame) (s : State) : Safe s (handVsig via f s) := by
  unfold handVsig
  split
  · exact allocTake_safe hand_safe _ _ _
  · exact ignoreAlloc_safe s
  · exact phoneTake_safe hand_safe _ _ _ _
  · exact ignoreVsig_safe s

theorem handFrame_safe (via : Via) (f : Frame) (s : State) : Safe s (handFrame via f s) := by
  unfold handFrame
  refine .ite (agentTake_safe _ _ _) (.ite (.cond_count rfl rfl rfl rfl)
    (.ite (takeTollFrame_safe _ _ _ _) (.ite (handVsig_safe _ _ _)
      (.ite (takeSignFrame_safe _ _ _) ?_))))
  exact .wx (fun h => ⟨h.table, h.work, h.pulses⟩) fun _ => ⟨rfl, rfl, rfl⟩

theorem stripFrame_safe (f : Frame) (s : State) : Safe s (stripFrame f s) := by
  have h1 : Safe s (s.modSw fun sw => { sw with stripped := bump sw.stripped }) :=
    .sw_count rfl rfl rfl rfl rfl
  exact .ite (h1.trans (offerReturned_safe _)) h1

theorem notePresent_safe (f : Frame) (s : State) : Safe s (notePresent f s) :=
  .ite (markPresent_safe _ _) (.refl s)

theorem takeFrame_safe (f : Frame) (s : State) : Safe s (takeFrame f s) :=
  ((notePresent_safe f s).trans (countTaken_safe _)).trans (handFrame_safe _ _ _)

theorem frameToCentre_safe (f : Frame) (s : State) : Safe s (frameToCentre f s) := by
  have h1 : ∀ s : State, Safe s (s.modSw fun sw => { sw with toCentre := bump sw.toCentre }) :=
    fun s => .sw_count rfl rfl rfl rfl rfl
  exact .ite (((notePresent_safe f s).trans (h1 _)).trans (sendUplink_safe _ _))
    ((notePresent_safe f s).trans (discardFrame_safe _ _ _ _ _))

theorem copyFrame_safe (f : Frame) (s : State) : Safe s (copyFrame f s) := by
  have h1 : ∀ s : State, Safe s (s.modSw fun sw => { sw with copies := bump sw.copies }) :=
    fun s => .sw_count rfl rfl rfl rfl rfl
  exact .ite (((notePresent_safe f s).trans (h1 _)).trans (handFrame_safe _ _ _)) (.refl s)

theorem passFrame_safe (p : Port) (f : Frame) (s : State) : Safe s (passFrame p f s).1 := by
  unfold passFrame
  split
  · exact discardFrame_safe _ _ _ _ _
  · exact Safe.sw_count (f := fun sw => { sw with passed := bump sw.passed }) rfl rfl rfl rfl rfl

theorem unassignedFrame_safe (p : Port) (f : Frame) {s : State} (hs : awaitsAddress s = true) :
    Safe s (unassignedFrame p f s).1 := by
  unfold unassignedFrame
  split
  · next h => exact takeAddress_safe hs (Option.filter_eq_some_iff.1 h).2
  · exact passFrame_safe _ _ _

theorem handleFrame_safe (p : Port) (f : Frame) (s : State) : Safe s (handleFrame p f s).1 := by
  unfold handleFrame
  split
  · next h => exact unassignedFrame_safe _ _ h
  split
  · exact stripFrame_safe _ _
  split
  · exact takeFrame_safe _ _
  split
  · exact frameToCentre_safe _ _
  split
  · exact (copyFrame_safe _ _).trans (passFrame_safe _ _ _)
  · exact passFrame_safe _ _ _

theorem handleItem_safe (p : Port) (i : ZoneItem) (s : State) : Safe s (handleItem p i s).1 := by
  unfold handleItem
  split
  · exact Safe.sw (s := s)
      (f := fun sw => loseZone (discardBadHeader s.timer.number (.port p) sw))
      fun h => (h.recordDiscard _).loseZone
  · next g within =>
    refine Safe.sw (s := s) (f := fun sw =>
      if within then discardFields s.timer.number .tooLong (.port p) g sw
      else loseZone (discardFields s.timer.number .tooLong (.port p) g sw)) fun h => ?_
    cases within
    · exact (h.recordDiscard _).loseZone
    · exact h.recordDiscard _
  · exact Safe.sw (s := s) (f := loseZone) fun h => h.loseZone
  · split
    · exact discardFrame_safe _ _ _ _ _
    · exact handleFrame_safe _ _ _

theorem handleItems_safe (p : Port) (is : List ZoneItem) (s : State) :
    Safe s (handleItems p is s).1 := by
  induction is generalizing s with
  | nil => exact .refl s
  | cons i is ih => exact (handleItem_safe p i s).trans (ih _)

theorem placeTaken_safe (zone : Nat) {s : State} {r : State × List Kept} (h : Safe s r.1) :
    Safe s (placeTaken zone r).1 := by
  unfold placeTaken
  split
  · exact h
  · exact h.trans (Safe.foldl (fun s k => offerOwn_safe _ _ _) _ _)

theorem processZone_safe (p : Port) (zone : Octets) (s : State) :
    Safe s (processZone p zone s).1 := placeTaken_safe _ (handleItems_safe _ _ _)

theorem offerCentre_safe (f : Frame) (s : State) : Safe s (offerCentre f s) :=
  .sw fun h => h.offerFrame _ _ _ _ _ _

theorem centreFrame_safe (f : Frame) (s : State) : Safe s (centreFrame f s) :=
  .ite (discardFrame_safe _ _ _ _ _) (.ite ((countTaken_safe s).trans (handFrame_safe _ _ _))
    (.ite ((copyFrame_safe f s).trans (offerCentre_safe _ _)) (offerCentre_safe _ _)))

theorem fieldTerminalFrame_safe (f : Frame) (s : State) : Safe s (fieldTerminalFrame f s) :=
  .ite (agentTake_safe _ _ _) (discardFrame_safe _ _ _ _ _)

theorem takeUplink_safe (os : Octets) {good : Frame → State → State}
    (h : ∀ f s, Safe s (good f s)) (s : State) : Safe s (takeUplink os good s) := by
  unfold takeUplink
  split
  · exact .sw fun h => h.recordDiscard _
  · exact .sw fun h => h.recordDiscard _
  · exact h _ _

/-! ## Fills, the master's transit, the carrying of S -/

theorem SwBounded.visit {sw : FrameSwitch} {l : Nat} (c : Half) (q : QueueName) (fs : List Frame)
    (x : Fill) (hsw : x.sw = sw) (h : SwBounded sw) (hl : fs.length ≤ l) :
    SwBounded (visitQueue c q fs x).2.sw ∧ (visitQueue c q fs x).1.length ≤ l := by
  induction fs generalizing x sw with
  | nil => subst hsw; exact ⟨h, hl⟩
  | cons f fs ih =>
    subst hsw
    have hl' : fs.length ≤ l := by simp only [List.length_cons] at hl; omega
    unfold visitQueue
    split
    · exact ih _ rfl (h.discardFrame _ _ _ _) hl'
    split
    · exact ih _ rfl ⟨h.budget, h.queues, h.holding, h.accept, h.records⟩ hl'
    · exact ⟨h, hl⟩

theorem SwBounded.fillQueue {x : Fill} (c : Half) (q : QueueName) (h : SwBounded x.sw) :
    SwBounded (fillQueue c x q).sw := by
  obtain ⟨h1, h2⟩ := h.visit c q (queueFrames x.sw q) x rfl le_rfl
  exact h1.setQueue q _ (h2.trans (h.queues q))

theorem SwBounded.fillQueues (c : Half) (qs : List QueueName) {x : Fill} (h : SwBounded x.sw) :
    SwBounded (qs.foldl (Machine.fillQueue c) x).sw := by
  induction qs generalizing x with
  | nil => exact h
  | cons q qs ih => exact ih (h.fillQueue c q)

/-- The fill of the adds, queue by queue, from the state's switch (R57). -/
def filled (left : Nat) (s : State) : Fill :=
  allQueues.foldl (fillQueue s.timer.number) { left, used := 0, placed := [], sw := s.sw }

theorem fillAdds_eq (left : Nat) (s : State) :
    fillAdds left s = (s.modSw fun _ => (filled left s).sw, (filled left s).placed) := rfl

theorem fillAdds_safe (left : Nat) (s : State) : Safe s (fillAdds left s).1 := by
  rw [fillAdds_eq]
  exact Safe.sw (f := fun _ => (filled left s).sw) fun h => SwBounded.fillQueues _ _ h

theorem extents_cons (f : Frame) (fs : List Frame) : extents (f :: fs) = extent f + extents fs := by
  simp [extents]

@[simp] theorem extents_nil : extents [] = 0 := rfl

@[simp] theorem extents_append (fs gs : List Frame) :
    extents (fs ++ gs) = extents fs + extents gs := by simp [extents]

/-- What `placeWhile` places stood at the head, what it leaves is the rest, and what it places fits. -/
theorem placeWhile_eq (left : Nat) (fs : List Frame) :
    (placeWhile left fs).1 ++ (placeWhile left fs).2 = fs ∧
      extents (placeWhile left fs).1 ≤ left := by
  induction fs generalizing left with
  | nil => simp [placeWhile]
  | cons f fs ih =>
    unfold placeWhile
    split
    · next hf =>
      obtain ⟨h1, h2⟩ := ih (left - extent f)
      exact ⟨by simp [h1], by simp only [extents_cons]; omega⟩
    · simp

theorem SwBounded.joinHolding {sw : FrameSwitch} (c : Half) (f : Frame) (h : SwBounded sw) :
    SwBounded (joinHolding c sw f) := by
  unfold Machine.joinHolding
  split
  · next hf =>
    exact ⟨h.budget, h.queues, by simpa [extents_cons] using hf, h.accept, h.records⟩
  · exact h.discardFrame _ _ _ _

theorem SwBounded.placeTransit {sw : FrameSwitch} (c : Half) (zone : Nat) (h : SwBounded sw) :
    SwBounded (placeTransit c zone sw).1 := by
  have h1 : ∀ (fs : List Frame) (sw : FrameSwitch), SwBounded sw →
      SwBounded (fs.foldl (Machine.joinHolding c) sw) := by
    intro fs
    induction fs with
    | nil => exact fun _ h => h
    | cons f fs ih => exact fun sw h => ih _ (h.joinHolding c f)
  refine h1 _ _ ⟨h.budget, h.queues, ?_, h.accept, h.records⟩
  have he := congrArg extents (placeWhile_eq zone sw.holding).1
  rw [extents_append] at he
  have := h.holding
  show extents (placeWhile zone sw.holding).2 ≤ 2048
  omega

theorem SwBounded.carryItem {sw : FrameSwitch} (c : Half) (i : ZoneItem) {x : Carry}
    (hx : x.sw = sw) (h : SwBounded sw) : SwBounded (carryItem c x i).sw := by
  subst hx
  unfold Machine.carryItem
  split
  · exact (h.recordDiscard _).loseZone
  · show SwBounded (if _ then _ else _)
    split
    · exact h.recordDiscard _
    · exact (h.recordDiscard _).loseZone
  · exact h.loseZone
  · unfold carryFrame
    split
    · exact h.discardFrame _ _ _ _
    split
    · exact h.discardFrame _ _ _ _
    · exact h

theorem SwBounded.carryZone {sw : FrameSwitch} (c : Half) (left : Nat) (zone : Octets)
    (h : SwBounded sw) : SwBounded (carryZone c left zone sw).1 := by
  have h1 : ∀ (is : List ZoneItem) (x : Carry), SwBounded x.sw →
      SwBounded (is.foldl (Machine.carryItem c) x).sw := by
    intro is
    induction is with
    | nil => exact fun _ h => h
    | cons i is ih => exact fun x h => ih _ (SwBounded.carryItem c i rfl h)
  exact h1 _ _ h

end Sys2Proof.Machine
end

section
/-! PROOFS. Ring cycles and line ports, part 5: the lengths of what travels in a cycle (R1, R41). -/

namespace Sys2Proof.Machine

set_option Elab.async false

@[simp] theorem length_octets2 (x : Half) : (octets2 x).length = 2 := rfl

@[simp] theorem length_octets4 (x : Quad) : (octets4 x).length = 4 := rfl

@[simp] theorem length_withCheck (os : Octets) : (withCheck os).length = os.length + 2 := by
  simp [withCheck]

@[simp] theorem length_silence : silence.length = 8 := rfl

@[simp] theorem length_encodeCycleHeader (h : CycleHeader) : (encodeCycleHeader h).length = 10 := by
  simp [encodeCycleHeader]

@[simp] theorem length_encodeFrame (f : Frame) : (encodeFrame f).length = extent f := by
  simp only [encodeFrame, frameHeader, extent, List.length_append, length_withCheck,
    length_octets2, length_octets4, List.length_cons, List.length_nil]
  omega

theorem length_flatMap_encodeFrame (fs : List Frame) :
    (fs.flatMap encodeFrame).length = extents fs := by
  induction fs with
  | nil => rfl
  | cons f fs ih => rw [List.flatMap_cons, List.length_append, ih, length_encodeFrame, extents_cons]

/-- Frames that fit leave the rest of the zone to idle fill. -/
theorem length_encodeZone {z : Nat} {fs : List Frame} (h : extents fs ≤ z) :
    (encodeZone z fs).length = z := by
  simp only [encodeZone, List.length_append, length_flatMap_encodeFrame, List.length_replicate]
  omega

/-! ## Voice regions -/

/-- A voice region of `u` slots, each of eight octets (R1). -/
def VoiceWhole (u : Nat) (voice : List Octets) : Prop :=
  voice.length = u ∧ ∀ v ∈ voice, v.length = 8

theorem VoiceWhole.flatten {u : Nat} {voice : List Octets} (h : VoiceWhole u voice) :
    voice.flatten.length = 8 * u := by
  obtain ⟨hl, hv⟩ := h
  rw [List.length_flatten, List.map_eq_replicate_iff.2 hv, List.sum_replicate, hl, smul_eq_mul,
    Nat.mul_comm]

theorem voiceWhole_silent (u : Nat) : VoiceWhole u (silentVoice u) :=
  ⟨by simp [silentVoice], fun v hv => by rw [List.eq_of_mem_replicate hv]; rfl⟩

theorem pieces_whole (k n : Nat) (os : Octets) (h : k * n ≤ os.length) :
    (pieces k n os).length = n ∧ ∀ v ∈ pieces k n os, v.length = k := by
  induction n generalizing os with
  | zero => exact ⟨rfl, fun v hv => by cases hv⟩
  | succ n ih =>
    rw [Nat.mul_succ] at h
    obtain ⟨h1, h2⟩ := ih (os.drop k) (by rw [List.length_drop]; omega)
    refine ⟨by simp [pieces, h1], fun v hv => ?_⟩
    rcases List.mem_cons.1 hv with rfl | hv
    · rw [List.length_take]; omega
    · exact h2 v hv

/-- The voice region of a received cycle is whole (R1). -/
theorem voiceWhole_voiceOf {u : Nat} {cycle : Octets} (hu : u ≤ 48) (hc : cycle.length = 1024) :
    VoiceWhole u (voiceOf u cycle) :=
  pieces_whole 8 u _ (by rw [List.length_drop]; omega)

/-- Speech of eight octets written into a whole voice region leaves it whole (R78). -/
theorem VoiceWhole.spoken {u : Nat} {voice : List Octets} {s : State}
    (hs : ∀ q, (s.pins.speechIn.get q).length = 8) (h : VoiceWhole u voice) (w : Nat) :
    VoiceWhole u (spoken s w voice) := by
  unfold Machine.spoken
  generalize indices 4 = qs
  induction qs generalizing voice with
  | nil => exact h
  | cons q qs ih =>
    refine ih ?_
    beta_reduce
    split
    · exact h
    · split
      · refine ⟨by rw [List.length_set]; exact h.1, fun v hv => ?_⟩
        rcases List.mem_or_eq_of_mem_set hv with hv | rfl
        · exact h.2 v hv
        · exact hs q
      · exact h

theorem voiceWhole_carry {u n : Nat} {received : List Octets} (h : VoiceWhole n received) :
    VoiceWhole u (carryVoice u received) := by
  refine ⟨by simp [carryVoice], fun v hv => ?_⟩
  obtain ⟨k, _, rfl⟩ := List.mem_map.1 hv
  rw [List.getD_eq_getElem?_getD]
  rcases hk : received[k]? with _ | v
  · rfl
  · exact h.2 v (List.mem_of_getElem? hk)

theorem voiceWhole_lanes {u : Nat} {s : State} (hu : u ≤ 48)
    (hs : ∀ k, (s.lanes.fromCentre.get k).length = 8) : VoiceWhole u (laneVoice u s) := by
  unfold laneVoice
  split
  · refine ⟨by rw [List.length_take, s.lanes.fromCentre.size]; omega, fun v hv => ?_⟩
    obtain ⟨k, hk, rfl⟩ := List.mem_iff_getElem.1 (List.mem_of_mem_take hv)
    exact hs ⟨k, by rw [← s.lanes.fromCentre.size]; exact hk⟩
  · exact voiceWhole_silent u

/-! ## Whole cycles -/

/-- A cycle of `u` voice slots and frames that fit its zone has 1024 octets (R1). -/
theorem length_encodeCycle {h : CycleHeader} {voice : List Octets} {fs : List Frame}
    (hu : h.u.toNat ≤ 48) (hv : VoiceWhole h.u.toNat voice)
    (hf : extents fs ≤ zoneSize h.u.toNat) : (encodeCycle h voice fs).length = 1024 := by
  simp only [encodeCycle, List.length_append, length_encodeCycleHeader, hv.flatten,
    length_encodeZone hf]
  unfold zoneSize
  omega

/-- A header that decodes has a U of at most 48 (R3). -/
theorem decodeCycleHeader_u {os : Octets} {h : CycleHeader} (hd : decodeCycleHeader os = some h) :
    h.u ≤ 48 := by
  unfold decodeCycleHeader at hd
  simp only at hd
  split at hd
  · next hc => obtain ⟨_, _, _, _, _, hu⟩ := hc; cases hd; exact hu
  · cases hd

theorem toNat_le_48 {u : Octet} : u ≤ 48 ↔ u.toNat ≤ 48 := by
  rw [BitVec.le_def]; rfl

/-- A bound of every HELD slot bounds U (R89). -/
theorem currentU_le_of {a : SlotAllocator} {m : Nat}
    (h : ∀ k, isHeld (a.slots.get k) = true → k.val + 1 ≤ m) : currentU a ≤ m := by
  have hf : ∀ (ks : List (Fin 48)) (n : Nat), n ≤ m → (ks.map fun k =>
      if isHeld (a.slots.get k) then k.val + 1 else 0).foldl max n ≤ m := by
    intro ks
    induction ks with
    | nil => exact fun n hn => hn
    | cons k ks ih =>
      intro n hn
      refine ih _ (max_le hn ?_)
      beta_reduce
      split
      · next hk => exact h k hk
      · exact Nat.zero_le _
  exact hf _ 0 (Nat.zero_le _)

/-- The U of the master's header is at most 48 (R89). -/
theorem currentU_le (a : SlotAllocator) : currentU a ≤ 48 := currentU_le_of fun k _ => k.isLt

/-! ## Frames read from a zone fit it (R41) -/

/-- The frames among the items of a zone. -/
def itemFrames (is : List ZoneItem) : List Frame :=
  is.filterMap fun
    | .frame f => some f
    | _ => none

@[simp] theorem itemFrames_nil : itemFrames [] = [] := rfl

theorem itemFrames_cons (i : ZoneItem) (is : List ZoneItem) :
    itemFrames (i :: is) = itemFrames [i] ++ itemFrames is := by
  cases i <;> rfl

@[simp] theorem itemFrames_frame (f : Frame) : itemFrames [.frame f] = [f] := rfl

/-- The frame that stands at the start of octets has the extent its length names. -/
theorem extent_frameOf {z : Octets} {len : Nat} (h : 16 + len ≤ z.length) :
    extent (frameOf z len) = 16 + len := by
  simp only [extent, frameOf, List.length_take, List.length_drop]
  omega

theorem extents_readZone (n : Nat) (z : Octets) :
    extents (itemFrames (readZone n z)) ≤ z.length := by
  induction n generalizing z with
  | zero => exact Nat.zero_le _
  | succ n ih =>
    unfold readZone
    split
    · exact Nat.zero_le _
    split
    · exact Nat.zero_le _
    have hd := ih (z.drop (16 + (halfAt z 8).toNat))
    rw [List.length_drop] at hd
    simp only
    split
    · split
      · rw [itemFrames_cons]
        exact hd.trans (Nat.sub_le _ _)
      · exact Nat.zero_le _
    split
    · exact Nat.zero_le _
    · next hl =>
      rw [itemFrames_cons, itemFrames_frame, List.singleton_append, extents_cons,
        extent_frameOf (by omega)]
      omega

theorem extents_zoneItems (z : Octets) : extents (itemFrames (zoneItems z)) ≤ z.length :=
  extents_readZone 64 z

theorem length_zoneOf (u : Nat) (cycle : Octets) : (zoneOf u cycle).length ≤ zoneSize u :=
  List.length_take_le _ _

/-! ## What P processing keeps fits the zone (R47, R48) -/

@[simp] theorem extent_hopped (f : Frame) : extent (hopped f) = extent f := rfl

@[simp] theorem extents_hopped (fs : List Frame) : extents (fs.map hopped) = extents fs := by
  simp [extents, Function.comp_def]

/-- The frames kept that are no ADDRESS_TAKEN in an offer's place (R48). -/
def passedOn (ks : List Kept) : List Frame := (ks.filter fun k => !k.inPlace).map (·.frame)

theorem passedOn_append (ks ls : List Kept) : passedOn (ks ++ ls) = passedOn ks ++ passedOn ls := by
  simp [passedOn]

/-- A frame handled passes on at most itself. -/
theorem extents_handleFrame (p : Port) (f : Frame) (s : State) :
    extents (passedOn (handleFrame p f s).2) ≤ extent f := by
  have hp : ∀ s, extents (passedOn (passFrame p f s).2) ≤ extent f := fun s => by
    unfold passFrame
    split
    · exact Nat.zero_le _
    · simp [passedOn, extents_cons]
  unfold handleFrame
  split
  · unfold unassignedFrame
    split
    · exact Nat.zero_le _
    · exact hp s
  split
  · exact Nat.zero_le _
  split
  · exact Nat.zero_le _
  split
  · exact Nat.zero_le _
  split
  · exact hp _
  · exact hp s

theorem extents_handleItem (p : Port) (i : ZoneItem) (s : State) :
    extents (passedOn (handleItem p i s).2) ≤ extents (itemFrames [i]) := by
  cases i with
  | frame f =>
    rw [itemFrames_frame, extents_cons, extents_nil, Nat.add_zero]
    simp only [handleItem]
    split
    · exact Nat.zero_le _
    · exact extents_handleFrame p f s
  | _ => exact Nat.zero_le _

theorem extents_handleItems (p : Port) (is : List ZoneItem) (s : State) :
    extents (passedOn (handleItems p is s).2) ≤ extents (itemFrames is) := by
  induction is generalizing s with
  | nil => exact le_rfl
  | cons i is ih =>
    rw [itemFrames_cons, extents_append]
    show extents (passedOn ((handleItem p i s).2 ++ (handleItems p is (handleItem p i s).1).2)) ≤ _
    rw [passedOn_append, extents_append]
    exact Nat.add_le_add (extents_handleItem p i s) (ih _)

/-- The transit of a zone fits it (R47, R48). -/
theorem extents_processZone (p : Port) (zone : Octets) (s : State) :
    extents (processZone p zone s).2 ≤ zone.length := by
  unfold processZone placeTaken
  split
  · next h => exact h
  · exact (extents_handleItems p _ s).trans (extents_zoneItems zone)

/-! ## Fills and carries fit (R31, R56, R59) -/

theorem mayPlace_iff {q : QueueName} {f : Frame} {x : Fill} : mayPlace q f x = true ↔
    extent f ≤ x.left ∧ (budgeted q = true → x.used + extent f ≤ x.sw.budget) := by
  unfold mayPlace
  cases budgeted q <;> simp

/-- A visit uses up no more than the octets left. -/
theorem visitQueue_fits (c : Half) (q : QueueName) (fs : List Frame) (x : Fill) :
    extents (visitQueue c q fs x).2.placed + (visitQueue c q fs x).2.left =
      extents x.placed + x.left := by
  induction fs generalizing x with
  | nil => rfl
  | cons f fs ih =>
    unfold visitQueue
    split
    · exact ih _
    split
    · next hf =>
      have hl : extent f ≤ x.left := (mayPlace_iff.1 hf).1
      rw [ih]
      show extents (x.placed ++ [f]) + (x.left - extent f) = _
      rw [extents_append, extents_cons, extents_nil]
      omega
    · rfl

theorem fillQueues_fits (c : Half) (qs : List QueueName) (x : Fill) :
    extents (qs.foldl (fillQueue c) x).placed + (qs.foldl (fillQueue c) x).left =
      extents x.placed + x.left := by
  induction qs generalizing x with
  | nil => rfl
  | cons q qs ih => exact (ih _).trans (visitQueue_fits c q _ x)

theorem filled_fits (left : Nat) (s : State) :
    extents (filled left s).placed + (filled left s).left = left := by
  unfold filled
  rw [fillQueues_fits, extents_nil, Nat.zero_add]

/-- The adds of a fill fit the octets left (R56). -/
theorem extents_fillAdds (left : Nat) (s : State) : extents (fillAdds left s).2 ≤ left := by
  have h := filled_fits left s
  rw [fillAdds_eq]
  dsimp only
  omega

theorem extents_placeTransit (c : Half) (zone : Nat) (sw : FrameSwitch) :
    extents (placeTransit c zone sw).2 ≤ zone := by
  have h1 := (placeWhile_eq zone sw.holding).2
  have h2 := (placeWhile_eq (zone - extents (placeWhile zone sw.holding).1) sw.pool).2
  show extents ((placeWhile zone sw.holding).1 ++ _) ≤ zone
  rw [extents_append]
  split
  · omega
  · simpa using h1

theorem carryFrame_fits (c : Half) (f : Frame) (x : Carry) :
    extents (carryFrame c f x).placed + (carryFrame c f x).left = extents x.placed + x.left := by
  unfold carryFrame
  split
  · rfl
  split
  · rfl
  · next hf =>
    have : extent f ≤ x.left := by
      simp only [Bool.or_eq_true, decide_eq_true_eq, not_or, not_lt] at hf
      exact hf.2
    simp only [extents_append, extents_cons, extents_nil, extent_hopped]
    omega

theorem extents_carryZone (c : Half) (left : Nat) (zone : Octets) (sw : FrameSwitch) :
    extents (carryZone c left zone sw).2 ≤ left := by
  have h : ∀ (is : List ZoneItem) (x : Carry), extents (is.foldl (carryItem c) x).placed +
      (is.foldl (carryItem c) x).left = extents x.placed + x.left := by
    intro is
    induction is with
    | nil => exact fun _ => rfl
    | cons i is ih =>
      intro x
      refine (ih _).trans ?_
      cases i with
      | frame f => exact carryFrame_fits c f x
      | _ => rfl
  have := h (zoneItems zone) { left, full := false, placed := [], sw }
  simp only [extents_nil, Nat.zero_add] at this
  show extents ((zoneItems zone).foldl (carryItem c) _).placed ≤ left
  omega

end Sys2Proof.Machine
end

section
/-! PROOFS. Ring cycles and line ports, part 6: cycles in and out, and the line ports, keep the
standing relations. -/

namespace Sys2Proof.Machine

set_option Elab.async false

/-- `Safe`, where the relation of whole cycles rests on a premise about a cycle received. -/
structure SafeIf (P : Prop) (s t : State) : Prop where
  reach  : ReachSound s → ReachSound t
  bounds : Bounds s → Bounds t
  copy   : ∀ cs, CopyBut cs s → CopyBut cs t
  cycles : P → CyclesSound s → CyclesSound t

theorem Safe.if {P : Prop} {s t : State} (h : Safe s t) : SafeIf P s t :=
  ⟨h.reach, h.bounds, h.copy, fun _ => h.cycles⟩

theorem SafeIf.trans {P : Prop} {s t u : State} (h : SafeIf P s t) (k : SafeIf P t u) :
    SafeIf P s u :=
  ⟨k.reach ∘ h.reach, k.bounds ∘ h.bounds, fun cs => k.copy cs ∘ h.copy cs,
    fun p => k.cycles p ∘ h.cycles p⟩

theorem SafeIf.safe {P : Prop} {s t : State} (h : SafeIf P s t) (p : P) : Safe s t :=
  ⟨⟨h.reach, h.bounds, h.cycles p⟩, h.copy⟩

/-- The premise may lean on the cycles of the state before. -/
theorem SafeIf.of_sound {P : Prop} {s t : State} (h : SafeIf (P ∧ CyclesSound s) s t) :
    SafeIf P s t := ⟨h.reach, h.bounds, h.copy, fun p hs => h.cycles ⟨p, hs⟩ hs⟩

/-! ## Cycles sent -/

/-- A transmitter sends a whole cycle (R1, R2), given what makes it whole. -/
theorem transmit_safe (p : Port) {cycle : Octets} {s : State} {P : Prop}
    (h : P → CyclesSound s → cycle.length = 1024) : SafeIf P s (transmit p cycle s) := by
  cases p
  · refine ⟨id, fun ⟨l, sw, a, t, j, w, c, g, r⟩ => ⟨l, sw, a, t, j, w, c, g, r⟩, fun _ => id,
      fun hp hs => ?_⟩
    have hl := h hp hs
    obtain ⟨⟨_, he⟩, hv, hh⟩ := hs
    exact ⟨⟨.inr hl, he⟩, hv, hh⟩
  · refine ⟨id, fun ⟨l, sw, a, t, j, w, c, g, r⟩ => ⟨l, sw, a, t, j, w, c, g, r⟩, fun _ => id,
      fun hp hs => ?_⟩
    have hl := h hp hs
    obtain ⟨⟨hw, _⟩, hv, hh⟩ := hs
    exact ⟨⟨hw, .inr hl⟩, hv, hh⟩

theorem sendCycle_safe (p : Port) {h : CycleHeader} {voice : List Octets} {fs : List Frame}
    {s : State} {P : Prop} (hu : P → CyclesSound s → h.u.toNat ≤ 48)
    (hv : P → CyclesSound s → VoiceWhole h.u.toNat voice)
    (hf : extents fs ≤ zoneSize h.u.toNat) : SafeIf P s (sendCycle p h voice fs s) :=
  transmit_safe p fun hp hs =>
    length_encodeCycle (h := { h with farEnd := rxFaulted (portAt s p) }) (hu hp hs) (hv hp hs) hf

theorem sendEmpty_safe (p : Port) {h : CycleHeader} {s : State}
    (hu : CyclesSound s → h.u.toNat ≤ 48) : Safe s (sendEmpty p h s) :=
  (sendCycle_safe (P := True) p (fun _ => hu) (fun _ _ => voiceWhole_silent _)
    (Nat.zero_le _)).safe trivial

theorem sendFilled_safe (p : Port) {h : CycleHeader} {voice : List Octets} {transit : List Frame}
    {s : State} {P : Prop} (hu : P → CyclesSound (fillAdds (zoneSize h.u.toNat - extents transit) s).1 →
      h.u.toNat ≤ 48)
    (hv : P → CyclesSound (fillAdds (zoneSize h.u.toNat - extents transit) s).1 →
      VoiceWhole h.u.toNat voice)
    (ht : extents transit ≤ zoneSize h.u.toNat) : SafeIf P s (sendFilled p h voice transit s) := by
  refine (fillAdds_safe _ _).if.trans (sendCycle_safe p hu hv ?_)
  have := extents_fillAdds (zoneSize h.u.toNat - extents transit) s
  rw [extents_append]
  omega

theorem unlessFed_safe (p : Port) {send : State → State} {s : State} (h : Safe s (send s)) :
    Safe s (unlessFed p send s) := .ite (.refl s) h

/-! ## Speech and lanes -/

theorem exchangeSpeech_safe (u : Nat) (voice : List Octets) (s : State) :
    Safe s (exchangeSpeech u voice s) := .out id id

theorem silencePhones_safe (s : State) : Safe s (silencePhones s) := .out id id

theorem sendLanes_safe (u : Nat) (voice : List Octets) (s : State) :
    Safe s (sendLanes u voice s) := .lanes rfl

theorem silenceLanes_safe (s : State) : Safe s (silenceLanes s) := .lanes rfl

/-! ## A slave's processed cycle -/

/-- What a processed header leaves of the timer, whatever the judgement (R13). -/
theorem lockTiming_fields (h : CycleHeader) (t : CycleTimer) :
    (lockTiming h t).number = h.number ∧ (lockTiming h t).record = recordOf h ∧
    (lockTiming h t).missing = 0 ∧ (lockTiming h t).holdover = false ∧
    (lockTiming h t).adoptNext = false ∧ (lockTiming h t).duplicate = t.duplicate := by
  unfold lockTiming
  cases judge t h <;> exact ⟨rfl, rfl, rfl, rfl, rfl, rfl⟩

theorem lockTiming_safe {h : CycleHeader} (hu : h.u ≤ 48) (s : State) :
    Safe s (s.modTimer (lockTiming h)) := by
  obtain ⟨_, hr, _, _, _, hd⟩ := lockTiming_fields h s.timer
  exact .timer (by rw [hd]) fun _ => by rw [hr]; exact hu

/-- The age moves and reachability follows it (R20). -/
theorem ageThenReach_safe (q : Bool) (s : State) :
    Safe s (updateReach (if q then setAge 0 s else s)) := by
  cases q
  · exact updateReach_safe s
  · exact updateAge_safe 0 s

theorem slaveHeader_safe {h : CycleHeader} (hu : h.u ≤ 48) (s : State) :
    Safe s (slaveHeader h s) :=
  (((lockTiming_safe hu s).trans (.period _ _)).trans (ageThenReach_safe _ _)).trans
    (switchIfDue_safe hand_safe _)

theorem slaveCycle_safe (p out : Port) {h : CycleHeader} {cycle : Octets} (hu : h.u ≤ 48)
    (s : State) : SafeIf (cycle.length = 1024) s (slaveCycle p out h cycle s) := by
  have hn : h.u.toNat ≤ 48 := toNat_le_48.1 hu
  refine ((slaveHeader_safe hu s).trans
    (exchangeSpeech_safe h.u.toNat (voiceOf h.u.toNat cycle) _)).if.trans (SafeIf.of_sound ?_)
  refine (processZone_safe p (zoneOf h.u.toNat cycle) _).if.trans
    (sendFilled_safe out (fun _ _ => hn) (fun ⟨hc, hs⟩ _ => ?_) ?_)
  · obtain ⟨_, ⟨hp, _⟩, _⟩ := hs
    exact (voiceWhole_voiceOf hn hc).spoken hp _
  · exact (extents_processZone _ _ _).trans (length_zoneOf _ _)

theorem passThrough_safe (h : CycleHeader) (cycle : Octets) (s : State) :
    SafeIf (cycle.length = 1024) s (passThrough h cycle s) :=
  transmit_safe .w fun hc _ => by
    simp only [List.length_append, length_encodeCycleHeader, List.length_take, List.length_drop, hc]
    omega

/-! ## The master's processed cycle -/

/-- DUPLICATE_MASTER is the flag of the timer, and no other flag is (R19). -/
theorem CopyBut.timed {cs : List (Fin 64)} {s : State} (f : CycleTimer → CycleTimer)
    (h : CopyBut cs s) : CopyBut (condDuplicate :: cs) (s.modTimer f) := by
  intro c hc h56 h57
  have h51 : c.val ≠ 51 := fun e => hc (by simp [show c = condDuplicate from Fin.ext e])
  rw [State.modTimer_cond, h c (fun hd => hc (by simp [hd])) h56 h57]
  unfold ownerFlag
  simp only [if_neg h51]
  rfl

/-- A change of the second master's timer, told by condition 51 (R19). -/
theorem changeDuplicate_safe {f : CycleTimer → CycleTimer} {v : Bool} {s : State}
    (hr : (f s.timer).record = s.timer.record) (hv : (f s.timer).duplicate.isSome = v) :
    Safe s (changeCondition true condDuplicate v (s.modTimer f)) := by
  have h0 : Steady s (s.modTimer f) := .timer fun h => by rw [hr]; exact h
  exact ⟨h0.trans (changeCondition_steady _ _ _ _),
    fun cs h => (h.timed f).change true hv.symm⟩

theorem masterSees_safe (h : CycleHeader) (s : State) : Safe s (masterSees h s) := by
  refine .ite (.refl s) (.ite (.alloc_count rfl rfl rfl) (changeDuplicate_safe rfl rfl))

theorem joinPool_safe (fs : List Frame) (s : State) :
    Safe s (s.modSw fun sw => { sw with pool := sw.pool ++ fs }) := .sw_count rfl rfl rfl rfl rfl

theorem masterCycle_safe (p : Port) (h : CycleHeader) (cycle : Octets) (s : State) :
    Safe s (masterCycle p h cycle s) :=
  (((((masterSees_safe h s).trans (.period _ _)).trans (exchangeSpeech_safe _ _ _)).trans
    (sendLanes_safe _ _ _)).trans (processZone_safe p (zoneOf h.u.toNat cycle) _)).trans
      (joinPool_safe _ _)

theorem holdS_safe (cycle : Octets) (s : State) :
    SafeIf (cycle.length = 1024) s (holdS cycle s) := by
  refine (dropHeldS_safe s).if.trans ⟨id, fun ⟨l, sw, a, t, j, w, c, g, r⟩ =>
    ⟨l, sw, a, t, j, w, c, g, r⟩, fun _ => id, fun hc ⟨h1, h2, h3, _, h5⟩ =>
      ⟨h1, h2, h3, fun c hx => ?_, h5⟩⟩
  rwa [show cycle = c from Option.some.inj hx] at hc

/-! ## Cycles the master originates -/

theorem masterHeader_u (s : State) : (masterHeader s).u.toNat ≤ 48 := by
  have := currentU_le s.alloc
  show (octet (currentU s.alloc)).toNat ≤ 48
  rw [octet, BitVec.toNat_ofNat]
  omega

/-- The switch takes a value within its bounds. -/
theorem setSw_safe {sw : FrameSwitch} {s : State} (h : SwBounded s.sw → SwBounded sw) :
    Safe s (s.modSw fun _ => sw) := Safe.sw (f := fun _ => sw) h

theorem originateP_safe (p : Port) (s : State) : Safe s (originateP p s) := by
  refine ((setSw_safe fun h => h.placeTransit _ _).if.trans (SafeIf.of_sound
    (sendFilled_safe p (fun _ _ => masterHeader_u s) (fun ⟨_, hs⟩ _ => ?_)
      (extents_placeTransit _ _ _)))).safe (P := True) trivial
  obtain ⟨_, ⟨_, hl⟩, _⟩ := hs
  exact voiceWhole_lanes (masterHeader_u s) hl

theorem decoded_u (cycle : Octets) :
    ((decodeCycleHeader cycle).map (·.u.toNat)).getD 0 ≤ 48 := by
  rcases hd : decodeCycleHeader cycle with _ | h
  · exact Nat.zero_le _
  · exact toNat_le_48.1 (decodeCycleHeader_u hd)

theorem originateCarry_safe (s : State) : Safe s (originateCarry s) := by
  unfold originateCarry
  simp only
  split
  · exact sendEmpty_safe .w fun _ => masterHeader_u s
  · next cycle hc =>
    refine (SafeIf.of_sound (P := True) ?_).safe trivial
    have h0 : Safe s (s.modProt fun p => { p with heldS := none }) :=
      modProt_safe rfl rfl rfl (fun _ c hx => by cases hx) rfl rfl
    refine (h0.trans (setSw_safe fun h => h.carryZone _ _ _)).if.trans
      (sendCycle_safe .w (fun _ _ => masterHeader_u s) (fun ⟨_, hs⟩ _ => ?_)
        (extents_carryZone _ _ _ _))
    obtain ⟨_, _, _, hh, _⟩ := hs
    exact voiceWhole_carry (voiceWhole_voiceOf (decoded_u cycle) (hh cycle hc))

theorem nextNumber_safe (s : State) : Safe s (nextNumber s) := .timer rfl id

theorem takeNumber_safe (s : State) : Safe s (takeNumber s) :=
  Safe.trans (.ite (nextNumber_safe s) (.refl s)) (.period _ _)

theorem sendOriginated_safe (s : State) : Safe s (sendOriginated s) := by
  have he : ∀ p t, Safe t (sendEmpty p (masterHeader s) t) := fun p t =>
    sendEmpty_safe p fun _ => masterHeader_u s
  unfold sendOriginated
  split
  · exact (originateP_safe .e s).trans (originateCarry_safe _)
  · exact (originateP_safe .w s).trans (he .e _)
  · exact (originateP_safe .e s).trans (he .w _)
  · exact (he .w s).trans (he .e _)

theorem originate_safe (s : State) : Safe s (originate s) :=
  (takeNumber_safe s).trans (sendOriginated_safe _)

/-! ## Received cycles -/

theorem slaveReceive_safe (p : Port) {h : CycleHeader} {cycle : Octets} (hu : h.u ≤ 48)
    (s : State) : SafeIf (cycle.length = 1024) s (slaveReceive p h cycle s) := by
  unfold slaveReceive
  split
  · exact slaveCycle_safe _ _ hu s
  · exact passThrough_safe h cycle s
  · exact slaveCycle_safe _ _ hu s
  · exact slaveCycle_safe _ _ hu s
  · exact (Safe.refl s).if

theorem masterReceive_safe (p : Port) (h : CycleHeader) (cycle : Octets) (s : State) :
    SafeIf (cycle.length = 1024) s (masterReceive p h cycle s) := by
  unfold masterReceive
  split
  · exact (masterCycle_safe _ h cycle s).if
  · exact holdS_safe cycle s
  · exact (masterCycle_safe _ h cycle s).if
  · exact (masterCycle_safe _ h cycle s).if
  · exact (Safe.refl s).if

theorem receiveContent_safe (p : Port) (cycle : Octets) (s : State) :
    SafeIf (cycle.length = 1024) s (receiveContent p cycle s) := by
  unfold receiveContent
  split
  · next h _ hd =>
    split
    · exact masterReceive_safe p h cycle s
    · exact slaveReceive_safe p (decodeCycleHeader_u hd) s
  · exact (Safe.refl s).if

theorem receiveCycle_safe (p : Port) (cycle : Octets) (s : State) :
    SafeIf (cycle.length = 1024) s (receiveCycle p cycle s) :=
  (receiveContent_safe p cycle s).trans (changePort_safe p _ _).if

/-! ## Cycles of a slave without a processed header -/

/-- The U of a slave's own header (R14, R15). -/
theorem ownHeader_u {s : State} (h : s.timer.record.u ≤ 48) : (ownHeader s).u.toNat ≤ 48 := by
  unfold ownHeader
  split
  · exact Nat.zero_le _
  · exact toNat_le_48.1 h

theorem sendOwn_safe (s : State) : Safe s (sendOwn s) := by
  refine (SafeIf.of_sound (P := True) ?_).safe trivial
  have hu : CyclesSound s → (ownHeader s).u.toNat ≤ 48 := fun ⟨_, _, hr, _⟩ => ownHeader_u hr
  have he : ∀ p t, SafeIf (True ∧ CyclesSound s) t (sendEmpty p (ownHeader s) t) := fun p t =>
    sendCycle_safe p (fun ⟨_, hs⟩ _ => hu hs) (fun _ _ => voiceWhole_silent _) (Nat.zero_le _)
  have hf : ∀ p send t, SafeIf (True ∧ CyclesSound s) t (send t) →
      SafeIf (True ∧ CyclesSound s) t (unlessFed p send t) := fun p send t h => by
    unfold unlessFed
    split
    · exact (Safe.refl t).if
    · exact h
  unfold sendOwn
  simp only
  split
  · exact hf _ _ _ (sendFilled_safe _ (fun ⟨_, hs⟩ _ => hu hs) (fun _ _ => voiceWhole_silent _)
      (Nat.zero_le _))
  · exact (hf _ _ _ (he .w s)).trans (hf _ _ _ (he .e _))

theorem holdoverCycleOf_safe (s : State) : Safe s (holdoverCycleOf s) :=
  ((nextNumber_safe s).trans (silencePhones_safe _)).trans (sendOwn_safe _)

theorem enterHoldoverNow_safe (s : State) : Safe s (enterHoldoverNow s) :=
  Safe.trans (.timer rfl id) (holdoverCycleOf_safe _)

theorem missCycle_safe (s : State) : Safe s (missCycle s) :=
  .ite (enterHoldoverNow_safe s)
    ((Safe.trans (.timer (f := fun t => { t with missing := t.missing + 1 }) rfl id)
      (nextNumber_safe _)).trans
        ((silencePhones_safe _).trans (sendOwn_safe _)))

/-! ## The rows of the line ports -/

theorem recoverPort_safe {p : Port} {s : State} (h : s.prot.forced = some p →
    ¬ ((portAt s p).health = .unhealthy ∧ (portAt s p).wtrTimer = none)) :
    Safe s (modPort p recoverPort s) := modPort_safe p fun hp hx => absurd hx (h hp)

/-- A port that a request names runs no timer to its end (R9, R10). -/
theorem wtrExpiry_safe {p : Port} {s : State} (h : wtrDue s p = true) :
    Safe s (modPort p recoverPort s) :=
  recoverPort_safe fun _ ⟨_, ht⟩ => by simp [wtrDue, ht] at h

/-- Nor does it bring up (R11). -/
theorem bringUp_safe {p : Port} {s : State} (h : bringUpDue s p = true) :
    Safe s (modPort p completeBringUp s) :=
  modPort_safe p fun hp _ => by simp [bringUpDue, bringingUp, forcedOn, hp] at h

theorem duplicateClear_safe (s : State) :
    Safe s (changeCondition true condDuplicate false (s.modTimer fun t =>
      { t with duplicate := none })) := changeDuplicate_safe rfl rfl

end Sys2Proof.Machine
end

section
/-! PROOFS. Ring cycles and line ports, part 7: the weather channels stay in their ranges (R141,
R147 to R150), and a sample or a restart keeps the standing relations. -/

namespace Sys2Proof.Machine

set_option Elab.async false

/-! ## Weather values (R147 to R150) -/

theorem wxValue_clampWx (x : Int) : wxValue (clampWx x) := by
  unfold wxValue clampWx clampInt
  omega

/-- A value joins a window of at most `n` (R148). -/
theorem joinWindow_bounded {n : Nat} {window : List Int} {v : Int}
    (h : ∀ x ∈ window, wxValue x) (hv : wxValue v) :
    (∀ x ∈ joinWindow n window v, wxValue x) ∧ (joinWindow n window v).length ≤ n := by
  refine ⟨fun x hx => ?_, ?_⟩
  · rcases List.mem_append.1 (List.mem_of_mem_drop hx) with hw | hw
    · exact h x hw
    · rw [List.mem_singleton.1 hw]; exact hv
  · unfold joinWindow
    simp only [List.length_drop]
    omega

theorem sum_bounded {xs : List Int} (h : ∀ x ∈ xs, wxValue x) :
    -32768 * (xs.length : Int) ≤ xs.sum ∧ xs.sum ≤ 32767 * (xs.length : Int) := by
  induction xs with
  | nil => simp
  | cons x xs ih =>
    obtain ⟨h1, h2⟩ := ih fun y hy => h y (List.mem_cons_of_mem x hy)
    obtain ⟨h3, h4⟩ := h x List.mem_cons_self
    rw [List.sum_cons, List.length_cons]
    push_cast
    omega

/-- The short mean of values lies in their range (R148). -/
theorem wxValue_shortMean {xs : List Int} (h : ∀ x ∈ xs, wxValue x) : wxValue (shortMean xs) := by
  obtain ⟨h1, h2⟩ := sum_bounded h
  unfold shortMean wxValue
  rcases Nat.eq_zero_or_pos xs.length with h0 | h0
  · simp [List.length_eq_zero_iff.1 h0]
  · have hp : (0 : Int) < 2 * (xs.length : Int) := by omega
    refine ⟨(Int.le_ediv_iff_mul_le hp).2 (by omega), ?_⟩
    exact Int.lt_add_one_iff.1 ((Int.ediv_lt_iff_lt_mul hp).2 (by omega))

/-- The long average lies between the one before and the mean (R149). -/
theorem wxValue_longAverage (k : Nat) {l : Option Int} {m : Int} (hl : ∀ x ∈ l, wxValue x)
    (hm : wxValue m) : wxValue (longAverage k l m) := by
  unfold longAverage
  split
  · exact hm
  · next l =>
    split
    · exact hm
    · next hk =>
      obtain ⟨h1, h2⟩ := hl l rfl
      obtain ⟨h3, h4⟩ := hm
      have hpow : (2 : Int) ^ k = 2 * 2 ^ (k - 1) := by
        rw [← pow_succ', Nat.sub_add_cancel (by omega)]
      have hp : (1 : Int) ≤ 2 ^ (k - 1) := one_le_pow₀ (by norm_num)
      rw [hpow]
      generalize (2 : Int) ^ (k - 1) = h at hp
      have hh : (0 : Int) < 2 * h := by omega
      have hlo : min 0 (m - l) ≤ (m - l + h) / (2 * h) := by
        rw [Int.le_ediv_iff_mul_le hh]
        rcases le_or_gt 0 (m - l) with hd | hd
        · rw [min_eq_left hd]; omega
        · rw [min_eq_right hd.le]; nlinarith
      have hhi : (m - l + h) / (2 * h) ≤ max 0 (m - l) := by
        rw [← Int.lt_add_one_iff, Int.ediv_lt_iff_lt_mul hh]
        rcases le_or_gt 0 (m - l) with hd | hd
        · rw [max_eq_right hd]; nlinarith
        · rw [max_eq_left hd.le]; omega
      unfold wxValue
      omega

theorem wxValue_joinExtremes {e : Option Extremes} {m : Int}
    (he : ∀ x ∈ e, wxValue x.peak ∧ wxValue x.trough) (hm : wxValue m) :
    wxValue (joinExtremes e m).peak ∧ wxValue (joinExtremes e m).trough := by
  unfold joinExtremes
  split
  · exact ⟨hm, hm⟩
  · next x =>
    obtain ⟨⟨h1, h2⟩, h3, h4⟩ := he x rfl
    obtain ⟨h5, h6⟩ := hm
    dsimp only [wxValue]
    constructor <;> omega

/-! ## The stages of a sample -/

theorem ChannelBounded.railSample {n : Nat} {w : ChannelState} (h : ChannelBounded n w) :
    ChannelBounded n (railSample w) := by
  unfold Machine.railSample
  simp only
  split
  · exact { h with railRun := Nat.min_le_left _ _, goodRun := Nat.zero_le _ }
  split
  · exact { h with railRun := Nat.min_le_left _ _ }
  · exact { h with railRun := Nat.min_le_left _ _ }

theorem ChannelBounded.goodSample {n : Nat} {w : ChannelState} (h : ChannelBounded n w) :
    ChannelBounded n (goodSample w) := by
  unfold Machine.goodSample
  simp only
  split
  · exact { h with railRun := Nat.zero_le _ }
  split
  · next hg => exact { h with railRun := Nat.zero_le _, goodRun := by dsimp only; omega }
  · exact { h with
      railRun := Nat.zero_le _, goodRun := Nat.zero_le _, window := Nat.zero_le _
      values := fun v hv => by cases hv }

theorem ChannelBounded.processSample {t : ChannelEntry} {w : ChannelState} (raw : Nat)
    (h : ChannelBounded t.window w) : ChannelBounded t.window (processSample t raw w) := by
  obtain ⟨h1, h2⟩ := joinWindow_bounded (n := t.window) h.values
    (wxValue_clampWx (engineering t raw))
  have hm := wxValue_shortMean h1
  exact { h with
    values := h1, window := h2
    mean := fun m hx => by rw [← Option.some.inj hx]; exact hm
    long := fun l hx => by rw [← Option.some.inj hx]; exact wxValue_longAverage _ h.long hm
    extremes := fun e hx => by
      rw [← Option.some.inj hx]; exact wxValue_joinExtremes h.extremes hm }

theorem ChannelBounded.beginSample {n : Nat} {w : ChannelState} (h : ChannelBounded n w) :
    ChannelBounded n (beginSample w) := { h with since := Nat.min_le_left _ _ }

theorem readSource_bounded {t : ChannelEntry} {w : ChannelState} {x : WeatherSampler} {r : Sampled}
    (hr : readSource t w x = some r) (h : ChannelBounded t.window w) :
    ChannelBounded t.window r.work := by
  unfold readSource at hr
  split at hr
  · cases hr
  · rw [← Option.some.inj hr]
    unfold sampleAnalog
    split
    · exact h.railSample
    simp only
    split
    · exact h.goodSample
    · exact h.goodSample.processSample _
  · rw [← Option.some.inj hr]
    exact ChannelBounded.processSample _ { h with railRun := Nat.zero_le _ }

theorem channelBounded_restarted (n i : Nat) : ChannelBounded n (.restarted i) :=
  { values := fun v hv => by cases hv
    window := Nat.zero_le _
    mean := fun v hv => by cases hv
    long := fun v hv => by cases hv
    extremes := fun v hv => by cases hv
    railRun := Nat.zero_le _
    goodRun := Nat.zero_le _
    since := Nat.zero_le _ }

/-! ## The flags of a channel -/

/-- From 48 on a flag is no channel's. -/
theorem ownerFlag_modWx {c : Nat} (f : WeatherSampler → WeatherSampler) (s : State) (h : 48 ≤ c) :
    ownerFlag (s.modWx f) c = ownerFlag s c := by
  have h1 : ¬ c < 16 := by omega
  have h2 : ¬ c - 16 < 16 := by omega
  have h3 : ¬ c - 32 < 16 := by omega
  unfold ownerFlag
  simp only [dif_neg h1, dif_neg h2, dif_neg h3]
  rfl

theorem ownerFlag_high (s : State) (c : Fin 16) :
    ownerFlag s (condHigh c).val = (s.wx.work.get c).high := by
  unfold ownerFlag
  rw [dif_pos (show (condHigh c).val < 16 from c.isLt)]
  rfl

theorem ownerFlag_low (s : State) (c : Fin 16) :
    ownerFlag s (condLow c).val = (s.wx.work.get c).low := by
  have hv : (condLow c).val = 16 + c.val := rfl
  unfold ownerFlag
  rw [dif_neg (by omega), dif_pos (by omega)]
  congr
  simp [hv]

theorem ownerFlag_fault (s : State) (c : Fin 16) :
    ownerFlag s (condFault c).val = (s.wx.work.get c).fault := by
  have hv : (condFault c).val = 32 + c.val := rfl
  unfold ownerFlag
  rw [dif_neg (by omega), dif_neg (by omega), dif_pos (by omega)]
  congr
  simp [hv]

/-- A condition is one of a channel or stands from 48 on (R161). -/
theorem condition_cases (c : Fin 64) : (∃ k, c = condHigh k) ∨ (∃ k, c = condLow k) ∨
    (∃ k, c = condFault k) ∨ 48 ≤ c.val := by
  rcases Nat.lt_or_ge c.val 16 with h | h
  · exact .inl ⟨⟨c.val, h⟩, rfl⟩
  rcases Nat.lt_or_ge c.val 32 with h' | h'
  · exact .inr (.inl ⟨⟨c.val - 16, by omega⟩, Fin.ext (by simp [condLow]; omega)⟩)
  rcases Nat.lt_or_ge c.val 48 with h'' | h''
  · exact .inr (.inr (.inl ⟨⟨c.val - 32, by omega⟩, Fin.ext (by simp [condFault]; omega)⟩))
  · exact .inr (.inr (.inr h''))

/-- The flags of one channel are left to be handed; no other flag moves. -/
theorem CopyBut.worked {cs : List (Fin 64)} {s : State} {c : Fin 16}
    {f : WeatherSampler → WeatherSampler}
    (hf : ∀ d, d ≠ c → (f s.wx).work.get d = s.wx.work.get d) (h : CopyBut cs s) :
    CopyBut (condFault c :: condHigh c :: condLow c :: cs) (s.modWx f) := by
  intro d hd h56 h57
  simp only [List.mem_cons, not_or] at hd
  obtain ⟨hfa, hhi, hlo, hcs⟩ := hd
  rw [State.modWx_cond, h d hcs h56 h57]
  rcases condition_cases d with ⟨k, rfl⟩ | ⟨k, rfl⟩ | ⟨k, rfl⟩ | h48
  · rw [ownerFlag_high, ownerFlag_high, State.modWx_wx, hf k fun e => hhi (e ▸ rfl)]
  · rw [ownerFlag_low, ownerFlag_low, State.modWx_wx, hf k fun e => hlo (e ▸ rfl)]
  · rw [ownerFlag_fault, ownerFlag_fault, State.modWx_wx, hf k fun e => hfa (e ▸ rfl)]
  · exact (ownerFlag_modWx f s h48).symm

theorem channelConditions_eq (judged : Bool) (c : Fin 16) (w : ChannelState) (s : State) :
    channelConditions judged c w s =
      changeCondition judged (condLow c) w.low (changeCondition judged (condHigh c) w.high
        (changeCondition judged (condFault c) w.fault s)) := rfl

theorem channelConditions_steady (judged : Bool) (c : Fin 16) (w : ChannelState) (s : State) :
    Steady s (channelConditions judged c w s) :=
  ((changeCondition_steady _ _ _ _).trans (changeCondition_steady _ _ _ _)).trans
    (changeCondition_steady _ _ _ _)

/-- The three conditions of a channel are handed as its flags stand (R145, R152). -/
theorem channelConditions_copy (judged : Bool) {c : Fin 16} {w : ChannelState} {s : State}
    {cs : List (Fin 64)} (hw : s.wx.work.get c = w)
    (h : CopyBut (condFault c :: condHigh c :: condLow c :: cs) s) :
    CopyBut cs (channelConditions judged c w s) := by
  have hc : ∀ k v (t : State), (changeCondition judged k v t).wx = t.wx := fun k v t =>
    changeCondition_changes judged k v t .wx (by decide)
  rw [channelConditions_eq]
  refine ((h.change judged ?_).change judged ?_).change judged ?_
  · rw [ownerFlag_fault, hw]
  · rw [ownerFlag_high, hc, hw]
  · rw [ownerFlag_low, hc, hc, hw]

/-! ## Samples and restarts -/

/-- The Weather Sampler with the working state of a channel set. -/
theorem WxBounded.setWork {x : WeatherSampler} {c : Fin 16} {w : ChannelState} (h : WxBounded x)
    (hw : ChannelBounded (x.table.get c).window w) :
    WxBounded { x with work := x.work.set c w } := by
  refine { h with work := fun d => ?_ }
  rw [Tab.get_set]
  split
  · next e => subst e; exact hw
  · exact h.work d

theorem WxBounded.clearSource {x : WeatherSampler} (src : WxSource) (h : WxBounded x) :
    WxBounded (clearSource src x) := by
  cases src with
  | pin k =>
    refine { h with pulses := fun j => ?_ }
    rw [Machine.clearSource, Tab.get_modify]
    split
    · exact Nat.zero_le _
    · exact h.pulses j
  | none => exact h
  | ain k => exact h

@[simp] theorem clearSource_table (src : WxSource) (x : WeatherSampler) :
    (clearSource src x).table = x.table := by cases src <;> rfl

@[simp] theorem clearSource_work (src : WxSource) (x : WeatherSampler) :
    (clearSource src x).work = x.work := by cases src <;> rfl

/-- A working state that keeps the flags of its channel. -/
theorem setWork_safe {c : Fin 16} {w : ChannelState} {s : State}
    (hb : ChannelBounded (s.wx.table.get c).window (s.wx.work.get c) →
      ChannelBounded (s.wx.table.get c).window w)
    (hh : w.high = (s.wx.work.get c).high) (hl : w.low = (s.wx.work.get c).low)
    (hf : w.fault = (s.wx.work.get c).fault) : Safe s (setWork c w s) := by
  refine .wx (fun h => h.setWork (hb (h.work c))) fun d => ?_
  rw [Tab.get_set]
  split
  · next e => subst e; exact ⟨hh, hl, hf⟩
  · exact ⟨rfl, rfl, rfl⟩

theorem countWx_safe (f : Tab ChannelCounts 16 → Tab ChannelCounts 16) (s : State) :
    Safe s (s.modWx fun x => { x with counts := f x.counts }) :=
  .wx (fun h => { h with }) fun _ => ⟨rfl, rfl, rfl⟩

@[simp] theorem countDown_flags (t : ChannelEntry) (w : ChannelState) :
    (countDown t w).high = w.high ∧ (countDown t w).low = w.low ∧
      (countDown t w).fault = w.fault := by
  unfold countDown
  split <;> exact ⟨rfl, rfl, rfl⟩

theorem ChannelBounded.countDown {n : Nat} {w : ChannelState} (t : ChannelEntry)
    (h : ChannelBounded n w) : ChannelBounded n (countDown t w) := by
  unfold Machine.countDown
  split
  · exact h
  · exact { h with }

theorem ChannelBounded.reported {n : Nat} {w : ChannelState} (i : Nat) (h : ChannelBounded n w) :
    ChannelBounded n { w with extremes := none, toReport := i, since := 0 } :=
  { h with extremes := (fun e he => by cases he), since := Nat.zero_le _ }

theorem reportStage_safe (c : Fin 16) (s : State) : Safe s (reportStage c s) := by
  obtain ⟨hh, hl, hf⟩ := countDown_flags (s.wx.table.get c) (s.wx.work.get c)
  unfold reportStage
  simp only
  split
  · have h1 := sendToCentre_safe .wx svcWx (octet c.val)
      (encodeWxRecord c (countDown (s.wx.table.get c) (s.wx.work.get c))) s
    have hw := sendToCentre_changes .wx svcWx (octet c.val)
      (encodeWxRecord c (countDown (s.wx.table.get c) (s.wx.work.get c))) s .wx (by decide)
    change _ = s.wx at hw
    refine (h1.trans (setWork_safe ?_ ?_ ?_ ?_)).trans
      (countWx_safe (fun ns => ns.modify c fun n => { n with reports := bump n.reports }) _)
    · rw [hw]
      exact fun h => (h.countDown _).reported _
    · rw [hw]; exact hh
    · rw [hw]; exact hl
    · rw [hw]; exact hf
  · exact setWork_safe (fun h => h.countDown _) hh hl hf

/-- A channel takes a working state and hands its conditions (R143, R145, R152). -/
theorem handChannel_safe (judged : Bool) (c : Fin 16) {w : ChannelState}
    {f : WeatherSampler → WeatherSampler} {s : State} (hb : WxBounded s.wx → WxBounded (f s.wx))
    (hw : (f s.wx).work.get c = w)
    (ho : ∀ d, d ≠ c → (f s.wx).work.get d = s.wx.work.get d) :
    Safe s (channelConditions judged c w (s.modWx f)) :=
  ⟨(Steady.wx hb).trans (channelConditions_steady _ _ _ _), fun _ h =>
    channelConditions_copy judged hw (h.worked ho)⟩

theorem takeSample_safe (c : Fin 16) (s : State) : Safe s (takeSample c s) := by
  unfold takeSample
  simp only
  split
  · exact .refl s
  · next r hr =>
    refine (handChannel_safe true c (fun h => ?_) ?_ fun d hd => ?_).trans (reportStage_safe _ _)
    · have hc := WxBounded.setWork (c := c) (w := r.work) (h.clearSource (s.wx.table.get c).source)
        (by rw [clearSource_table]; exact readSource_bounded hr (h.work c).beginSample)
      rw [clearSource_work] at hc
      exact { hc with }
    · rw [Tab.get_set, if_pos rfl]
    · rw [Tab.get_set, if_neg (Ne.symm hd)]

theorem restartChannel_safe (judged : Bool) (c : Fin 16) (s : State) :
    Safe s (restartChannel judged c s) := by
  refine handChannel_safe judged c (fun h => h.setWork (channelBounded_restarted _ _)) ?_
    fun d hd => ?_
  · rw [Tab.get_set, if_pos rfl]
  · rw [Tab.get_set, if_neg (Ne.symm hd)]

theorem restartWeather_safe (s : State) : Safe s (restartWeather s) :=
  Safe.foldl (fun s c => restartChannel_safe false c s) _ s

/-- A sample tick moves no flag and no bounded value (R139, R143). -/
theorem sampleTick_safe (s : State) : Safe s (s.modWx (sampleTickNow s.pins.ain)) := by
  have ht : ∀ t w, (tickChannel t w).high = w.high ∧ (tickChannel t w).low = w.low ∧
      (tickChannel t w).fault = w.fault := fun t w => by
    unfold tickChannel
    split <;> exact ⟨rfl, rfl, rfl⟩
  refine .wx (fun h => { h with work := fun c => ?_ }) fun c => ?_
  · show ChannelBounded _ (Tab.get _ c)
    rw [sampleTickNow, Tab.get_mk]
    unfold tickChannel
    split
    · exact h.work c
    · exact { h.work c with }
  · rw [sampleTickNow, Tab.get_mk]
    exact ht _ _

theorem pulseEdge_safe (k : Fin 4) (s : State) :
    Safe s (s.modWx fun x => { x with pulses := x.pulses.modify k turnPulse }) := by
  refine .wx (fun h => { h with pulses := fun j => ?_ }) fun c => ⟨rfl, rfl, rfl⟩
  rw [Tab.get_modify]
  split
  · unfold turnPulse
    simp only
    split
    · exact h.pulses j
    · exact Nat.min_le_left _ _
  · exact h.pulses j

end Sys2Proof.Machine
end

section
/-! PROOFS. Ring cycles and line ports, part 8: hooks, centre flags, SIGN_FAIL, WRITEs and RESTART keep
the standing relations. -/

namespace Sys2Proof.Machine

set_option Elab.async false

/-! ## The conditions by their owners (R161) -/

/-- A condition is a channel's, a position's, a centre flag, or one of the seven that stand alone. -/
theorem condition_owner (c : Fin 64) : (∃ k, c = condHigh k) ∨ (∃ k, c = condLow k) ∨
    (∃ k, c = condFault k) ∨ (∃ q, c = condOffhook q) ∨ (∃ k, c = condCentreFlag k) ∨
    c ∈ [condDetached, condWrapped, condIsolated, condDuplicate, condJournalNonempty,
      condJournalFull, condSignFail] := by
  rcases condition_cases c with h | h | h | h
  · exact .inl h
  · exact .inr (.inl h)
  · exact .inr (.inr (.inl h))
  rcases Nat.lt_or_ge c.val 52 with h1 | h1
  · refine .inr (.inr (.inr (.inr (.inr ?_))))
    have : c.val = 48 ∨ c.val = 49 ∨ c.val = 50 ∨ c.val = 51 := by omega
    rcases this with e | e | e | e <;> simp [Fin.ext_iff, e, condDetached, condWrapped,
      condIsolated, condDuplicate]
  rcases Nat.lt_or_ge c.val 56 with h2 | h2
  · exact .inr (.inr (.inr (.inl ⟨⟨c.val - 52, by omega⟩, Fin.ext (by simp [condOffhook]; omega)⟩)))
  rcases Nat.lt_or_ge c.val 59 with h3 | h3
  · refine .inr (.inr (.inr (.inr (.inr ?_))))
    have : c.val = 56 ∨ c.val = 57 ∨ c.val = 58 := by omega
    rcases this with e | e | e <;> simp [Fin.ext_iff, e, condJournalNonempty, condJournalFull,
      condSignFail]
  · exact .inr (.inr (.inr (.inr (.inl ⟨⟨c.val - 59, by omega⟩,
      Fin.ext (by simp [condCentreFlag]; omega)⟩))))

theorem ownerFlag_offhook (s : State) (q : Fin 4) :
    ownerFlag s (condOffhook q).val = ((posAt s q).debounced == .off) := by
  fin_cases q <;> rfl

theorem ownerFlag_centre (s : State) (k : Fin 5) :
    ownerFlag s (condCentreFlag k).val = s.agent.centreFlags.get k := by
  fin_cases k <;> rfl

/-- The flags of seven conditions that no update of phones or agent moves. -/
theorem ownerFlag_alone {s t : State} (hp : t.prot = s.prot) (ht : t.timer = s.timer)
    (hj : t.journal = s.journal) (hg : t.sign = s.sign) {c : Fin 64}
    (hc : c ∈ [condDetached, condWrapped, condIsolated, condDuplicate, condJournalNonempty,
      condJournalFull, condSignFail]) : ownerFlag t c.val = ownerFlag s c.val := by
  simp only [List.mem_cons, List.not_mem_nil, or_false] at hc
  rcases hc with rfl | rfl | rfl | rfl | rfl | rfl | rfl
  · exact congrArg (fun p : Protection => !p.handed) hp
  · exact congrArg (fun p : Protection => p.state == .wrapEast || p.state == .wrapWest) hp
  · exact congrArg (fun p : Protection => p.state == .isolated) hp
  · exact congrArg (fun x : CycleTimer => x.duplicate.isSome) ht
  · exact congrArg (fun j : TollJournal => !j.records.isEmpty) hj
  · exact congrArg (fun j : TollJournal => decide (512 ≤ j.records.length)) hj
  · exact congrArg (fun g : SignController => g.sender.signFail) hg

/-- OFFHOOK of a position is left to be handed; no other flag moves (R65). -/
theorem CopyBut.hooked {cs : List (Fin 64)} {s : State} {q : Fin 4} {f : Position → Position}
    (h : CopyBut cs s) : CopyBut (condOffhook q :: cs) (modPos q f s) := by
  intro c hc h56 h57
  simp only [List.mem_cons, not_or] at hc
  obtain ⟨hq, hcs⟩ := hc
  rw [show (modPos q f s).cond = s.cond from rfl, h c hcs h56 h57]
  rcases condition_owner c with ⟨k, rfl⟩ | ⟨k, rfl⟩ | ⟨k, rfl⟩ | ⟨k, rfl⟩ | ⟨k, rfl⟩ | ha
  · simp only [ownerFlag_high]; rfl
  · simp only [ownerFlag_low]; rfl
  · simp only [ownerFlag_fault]; rfl
  · rw [ownerFlag_offhook, ownerFlag_offhook, posAt_modPos,
      if_neg fun e => hq (congrArg condOffhook e.symm)]
  · simp only [ownerFlag_centre]; rfl
  · exact (ownerFlag_alone (s := s) (t := modPos q f s) rfl rfl rfl rfl ha).symm

/-- A centre flag is left to be handed; no other flag moves (R174). -/
theorem CopyBut.centre {cs : List (Fin 64)} {s : State} {k : Fin 5} {v : Bool}
    (h : CopyBut cs s) : CopyBut (condCentreFlag k :: cs)
      (s.modAgent fun a => { a with centreFlags := a.centreFlags.set k v }) := by
  intro c hc h56 h57
  simp only [List.mem_cons, not_or] at hc
  obtain ⟨hk, hcs⟩ := hc
  rw [State.modAgent_cond, h c hcs h56 h57]
  rcases condition_owner c with ⟨j, rfl⟩ | ⟨j, rfl⟩ | ⟨j, rfl⟩ | ⟨j, rfl⟩ | ⟨j, rfl⟩ | ha
  · simp only [ownerFlag_high]; rfl
  · simp only [ownerFlag_low]; rfl
  · simp only [ownerFlag_fault]; rfl
  · simp only [ownerFlag_offhook]; rfl
  · rw [ownerFlag_centre, ownerFlag_centre, State.modAgent_agent, Tab.get_set,
      if_neg fun e => hk (congrArg condCentreFlag e.symm)]
  · exact (ownerFlag_alone (s := s) (t := s.modAgent _) rfl rfl rfl rfl ha).symm

/-- SIGN_FAIL is left to be handed; no other flag moves (R190, R192). -/
theorem CopyBut.signed {cs : List (Fin 64)} {s : State} (f : SignController → SignController)
    (h : CopyBut cs s) : CopyBut (condSignFail :: cs) (s.modSign f) := by
  intro c hc h56 h57
  have h58 : c.val ≠ 58 := fun e => hc (by simp [show c = condSignFail from Fin.ext e])
  rw [State.modSign_cond, h c (fun hd => hc (by simp [hd])) h56 h57]
  unfold ownerFlag
  simp only [if_neg h58]
  rfl

theorem turnHook_safe (q : Fin 4) (raw : Hook) (s : State) : Safe s (turnHook q raw s) := by
  refine ⟨(Steady.phone _ s).trans (changeCondition_steady _ _ _ _), fun cs h => ?_⟩
  refine (h.hooked (q := q) (f := fun p => { p with debounced := raw, hookCount := 0 })).change
    true ?_
  rw [ownerFlag_offhook, posAt_modPos, if_pos rfl]

theorem putCentreFlag_safe (k : Fin 5) (v : Bool) (s : State) : Safe s (putCentreFlag k v s) := by
  refine .ite (.refl s) ⟨(Steady.agent (f := fun a => { a with centreFlags := a.centreFlags.set k v })
    rfl id).trans (changeCondition_steady _ _ _ _), fun cs h => ?_⟩
  refine h.centre.change true ?_
  rw [ownerFlag_centre, State.modAgent_agent, Tab.get_set, if_pos rfl]

theorem setSignFail_safe (v : Bool) (s : State) : Safe s (setSignFail v s) :=
  ⟨(Steady.sign fun h => ⟨h.rules, h.hold, h.answer, h.store, h.pages⟩).trans
    (changeCondition_steady _ _ _ _), fun _ h => (h.signed _).change true rfl⟩

/-! ## The sign link -/

/-- Changes of the sender, the selection or a count of the Sign Controller. -/
theorem modSign_safe {f : SignController → SignController} (s : State)
    (h : ∀ g, SignKept g (f g) := by intro _; exact ⟨rfl, rfl, rfl, rfl, rfl, rfl⟩) :
    Safe s (s.modSign f) := (h s.sign).safe

theorem badAnswer_safe (s : State) : Safe s (s.modSign badAnswer) := modSign_safe s

theorem validAnswer_safe (s : State) : Safe s (validAnswer s) :=
  (modSign_safe (f := fun g => { g with sender := { g.sender with missedPolls := 0 } }) s).trans
    (setSignFail_safe _ _)

theorem offerSignStatus_safe (s : State) : Safe s (offerSignStatus s) :=
  .ite (.refl s) (sendToCentre_safe _ _ _ _ _)

theorem acceptPage_safe (p : Fin 64) (s : State) : Safe s (acceptPage p s) :=
  ((modSign_safe (f := fun g =>
    { g with pagesAccepted := bump g.pagesAccepted
             sender := { g.sender with displayed := some p, undelivered := false
                                       answerTimer := none } }) s).trans
    (offerSignStatus_safe _)).trans (modSign_safe _ fun g => endExchange_kept g)

theorem validThenBad_safe (s : State) : Safe s ((validAnswer s).modSign badAnswer) :=
  (validAnswer_safe s).trans (badAnswer_safe _)

theorem takeAccept_safe (p : Fin 64) (s : State) : Safe s (takeAccept p s) := by
  unfold takeAccept
  split
  · exact .ite ((validAnswer_safe s).trans (acceptPage_safe _ _)) (validThenBad_safe s)
  · exact validThenBad_safe s

theorem rejectPage_kept (p : Fin 64) (k : Nat) (r : Octet) (g : SignController) :
    SignKept g (rejectPage p k r g) :=
  (endAttempt_kept _ _ _).after ⟨rfl, rfl, rfl, rfl, rfl, rfl⟩

theorem answerPoll_kept (p : Fin 64) (faults : Half) (g : SignController) :
    SignKept g (answerPoll p faults g) := by
  unfold answerPoll
  simp only
  split
  · exact (startSelected_kept _ _).after ⟨rfl, rfl, rfl, rfl, rfl, rfl⟩
  · exact (enterIdle_kept _).after ⟨rfl, rfl, rfl, rfl, rfl, rfl⟩

theorem takeStatus_safe (p : Fin 64) (faults : Half) (s : State) :
    Safe s (takeStatus p faults s) := by
  unfold takeStatus
  split
  · exact (validAnswer_safe s).trans (modSign_safe _ fun g => answerPoll_kept _ _ g)
  · exact validThenBad_safe s

theorem missPoll_safe (s : State) : Safe s (missPoll s) :=
  ((modSign_safe (f := fun g =>
    { g with pollsMissed := bump g.pollsMissed
             sender := { g.sender with missedPolls := min 3 (g.sender.missedPolls + 1) } })
    s).trans (.ite (setSignFail_safe _ _) (.refl _))).trans
      (modSign_safe _ fun g => endExchange_kept g)

theorem answerExpires_safe (s : State) : Safe s (answerExpires s) := by
  unfold answerExpires
  split
  · exact modSign_safe s fun g => (endAttempt_kept _ _ _).after ⟨rfl, rfl, rfl, rfl, rfl, rfl⟩
  · exact missPoll_safe s
  · exact modSign_safe s fun g => endExchange_kept g

theorem resendSign_kept (g : SignController) : SignKept g (resendSign g) := by
  unfold resendSign
  split
  · exact .refl g
  · exact oweSelection_kept g

theorem signShow_safe (page priority lifetime : Nat) (s : State) :
    Safe s (signShow page priority lifetime s).1 := by
  unfold signShow
  split
  · exact (centreShow_kept _ _ _ _ _).safe
  · exact .refl s

theorem signTest_safe (page : Nat) (s : State) : Safe s (signTest page s).1 := by
  unfold signTest
  split
  · exact .refl s
  · next p _ =>
    exact (modSign_safe (f := fun g => { g with test := some { page := p, elapsed := 0 } })
      s).trans (reevaluateSign_safe _)

/-! ## Requests of the phones, the conditions, the tolls -/

theorem callBack_safe (position : Nat) (s : State) : Safe s (callBack position s).1 := by
  unfold callBack
  split
  · exact .refl s
  · split
    · exact modPos_safe _ s
    · exact .refl s

theorem offerStatus_safe (s : State) : Safe s (offerStatus s) := by
  unfold offerStatus
  split
  · exact .refl s
  · exact (modPhone_safe (f := fun p => { p with statusSent := bump p.statusSent }) s).trans
      (sendVsig_safe hand_safe _ _ _ _)

theorem setCentreFlag_safe (k v : Nat) (s : State) : Safe s (setCentreFlag k v s).1 := by
  unfold setCentreFlag
  split
  · split
    · exact putCentreFlag_safe _ _ s
    · split
      · exact putCentreFlag_safe _ _ s
      · exact .refl s
  · exact .refl s

theorem setMask_safe (v : Nat) (s : State) : Safe s (setMask v s).1 := by
  unfold setMask
  split
  · exact .refl s
  · next hv =>
    have h1 : Safe s (s.modCond fun u => { u with mask := v }) :=
      .cond (fun h => ⟨h.table, Nat.le_of_not_lt hv, h.events⟩) rfl
    exact h1.trans (.ite (reportTrigger_safe _) (.refl _))

theorem EventsBounded.filter {es : List PendingEvent} (p : PendingEvent → Bool)
    (h : EventsBounded es) : EventsBounded (es.filter p) :=
  ⟨h.once.sublist (List.filter_sublist.map _), fun e he => h.repeats e (List.mem_of_mem_filter he)⟩

theorem eventAck_safe (cs : Option (List Nat)) (s : State) : Safe s (eventAck cs s).1 := by
  unfold eventAck
  split
  · exact .refl s
  · exact Safe.cond (s := s)
      (f := fun u => { u with
        events := u.events.filter fun e => !ackNames cs e
        eventsAcked := bumpBy (s.cond.events.filter (ackNames cs)).length u.eventsAcked })
      (fun h => ⟨h.table, h.mask, h.events.filter _⟩) rfl

theorem length_insertTag (t : TagId) (ts : List TagId) :
    (insertTag t ts).length = ts.length + 1 := by
  induction ts with
  | nil => rfl
  | cons x xs ih =>
    unfold insertTag
    split
    · rfl
    · rw [List.length_cons, ih, List.length_cons]

theorem denyAdd_safe (tag : TagId) (s : State) : Safe s (denyAdd tag s).1 := by
  unfold denyAdd
  split
  · exact .refl s
  split
  · exact .refl s
  split
  · next hl =>
    exact Safe.toll (s := s) (f := fun t => { t with deny := insertTag tag t.deny }) fun h =>
      ⟨h.limit, h.answers, h.pending, by rw [length_insertTag]; omega⟩
  · exact .refl s

theorem closeRun_safe (octets : Octets) (s : State) : Safe s (closeRun octets s) :=
  Safe.trans (.toll_count (f := fun t => { t with run := [], runExtra := 0, runFresh := false })
    rfl le_rfl le_rfl le_rfl) (judgeRun_safe _ _ _)

theorem expirePending_safe (s : State) (p : PendingToll) : Safe s (expirePending s p) :=
  Safe.trans (.toll_count (f := fun t => { t with timeouts := bump t.timeouts })
    rfl le_rfl le_rfl le_rfl) (endPending_safe _ _)

theorem length_insertPair (x : Octet × Octet) (xs : List (Octet × Octet)) :
    (insertPair x xs).length = xs.length + 1 := by
  induction xs with
  | nil => rfl
  | cons y ys ih =>
    unfold insertPair
    split
    · rfl
    · rw [List.length_cons, ih, List.length_cons]

theorem acceptAdd_safe (service channel : Nat) (s : State) :
    Safe s (acceptAdd service channel s).1 := by
  unfold acceptAdd
  simp only
  split
  · exact .refl s
  split
  · exact .refl s
  split
  · next hl =>
    exact Safe.sw (s := s)
      (f := fun sw => { sw with accept := insertPair (octet service, octet channel) sw.accept })
      fun h => ⟨h.budget, h.queues, h.holding, by rw [length_insertPair]; omega, h.records⟩
  · exact .refl s

/-! ## Forced wraps (R35, R36) -/

/-- The forced-wrap request takes a value (R35, R36). -/
def setForced (f : Option Port) (s : State) : State := s.modProt fun p => { p with forced := f }

theorem forcedHeld_changePort {x : Port} {s : State} (h : s.prot.forced = some x) :
    ForcedHeld (changePort x id s) := by
  intro p hp
  obtain rfl : x = p := Option.some.inj (h.symm.trans (by cases x <;> exact hp))
  unfold changePort
  rw [portAt_modPort, if_pos rfl, show forcedOn s x = true by simp [forcedOn, h]]
  exact refreshPort_forced _

/-- The port that a new request names is UNHEALTHY with its timer stopped from then on (R9, R35). -/
theorem forcePort_safe (x : Port) (s : State) :
    Safe s (changePort x id (setForced (some x) s)) := by
  have h := changePort_safe x id (setForced (some x) s)
  refine ⟨⟨fun ⟨_, hr, ha⟩ => ⟨forcedHeld_changePort rfl, ?_, ?_⟩,
    fun ⟨l, sw, a, t, j, w, c, g, r⟩ => h.bounds ⟨l, sw, a, t, j, w, c, g, r⟩, h.cycles⟩, h.copy⟩
  · cases x <;> exact hr
  · cases x <;> exact ha

theorem forceWrap_safe (side : Nat) (s : State) : Safe s (forceWrap side s).1 := by
  unfold forceWrap
  split
  · exact .refl s
  split
  · exact .refl s
  split
  · exact .refl s
  · exact forcePort_safe _ s

theorem clearForce_safe (s : State) : Safe s (clearForce s) := by
  unfold clearForce
  split
  · exact .refl s
  · have h : Safe s (setForced none s) :=
      ⟨⟨fun ⟨_, hr, ha⟩ => ⟨fun p hp => (by simp [setForced] at hp), hr, ha⟩,
        fun ⟨l, sw, a, t, j, w, c, g, r⟩ => ⟨l, sw, a, t, j, w, c, g, r⟩, id⟩, fun _ => id⟩
    exact h.trans (changePort_safe _ _ _)

/-! ## WRITEs (R202) -/

/-- A WRITE keeps the relations when what it stores after every entry has passed does. -/
theorem writeEntries_safe {α : Type} {lo size first : Nat} {check : Nat → α → Option Reason}
    {store : State → State} {es : List α} {s : State}
    (h : firstFailure lo size check first es = none → Safe s (store s)) :
    Safe s (writeEntries lo size first check store es s).1 := by
  unfold writeEntries
  split
  · exact .refl s
  split
  · exact .refl s
  · next hf => exact h hf

/-- Entries that have all passed are stored one after another. -/
theorem storeFrom_safe {α : Type} {lo size : Nat} {check : Nat → α → Option Reason}
    {put : Nat → α → State → State}
    (h : ∀ i e s, lo ≤ i → i < lo + size → check i e = none → Safe s (put i e s)) (first : Nat)
    (es : List α) (s : State) (hf : firstFailure lo size check first es = none) :
    Safe s (storeFrom put first es s) := by
  induction es generalizing first s with
  | nil => exact .refl s
  | cons e es ih =>
    unfold firstFailure at hf
    split at hf
    · cases hf
    split at hf
    · cases hf
    · next hi hc => exact (h first e s (by omega) (by omega) hc).trans (ih _ _ hf)

/-- The entry at a number after a replacement. -/
theorem get_setAt {α : Type} {n : Nat} (t : Tab α n) (i : Nat) (x : α) (k : Fin n) :
    (setAt t i x).get k = if k.val = i then x else t.get k := by
  unfold setAt
  split
  · rw [Tab.get_set]
    simp only [Fin.ext_iff, eq_comm]
  · next h => rw [if_neg fun e => h (by omega)]

theorem clamped_mem (lo hi : Nat) (x : Int) (h : lo ≤ hi) :
    lo ≤ clamped lo hi x ∧ clamped lo hi x ≤ hi := by
  unfold clamped clampInt
  omega

theorem writeRing_safe (first : Nat) (es : List (Int × Int)) (s : State) :
    Safe s (writeRing first es s).1 := by
  refine writeEntries_safe (storeFrom_safe (fun _ e s _ _ _ => ?_) first es s)
  refine Steady.safe ⟨id, fun ⟨l, sw, a, t, j, w, c, g, r⟩ =>
    ⟨clamped_mem 1 60 e.1 (by omega), ?_, a, t, j, w, c, g, r⟩, id⟩ { SameFlags.refl s with } rfl
  exact ⟨clamped_mem 64 1008 e.2 (by omega), sw.queues, sw.holding, sw.accept, sw.records⟩

theorem writeToll_safe (first : Nat) (es : List (Int × Int)) (s : State) :
    Safe s (writeToll first es s).1 := by
  refine writeEntries_safe (storeFrom_safe (fun _ e s _ _ _ => ?_) first es s)
  exact Safe.trans (.toll (f := fun t => { t with tToll := clamped 50 2000 e.1 }) fun h =>
      ⟨clamped_mem 50 2000 e.1 (by omega), h.answers, h.pending, h.deny⟩)
    (.journal fun h => ⟨clamped_mem 1 8 e.2 (by omega), h.records⟩)

theorem writeSign_safe (first : Nat) (es : List (Int × Int)) (s : State) :
    Safe s (writeSign first es s).1 := by
  refine writeEntries_safe (storeFrom_safe (fun _ e s _ _ _ => ?_) first es s)
  exact .sign (fun h => ⟨h.rules, (clamped_mem 0 255 e.1 (by omega)).2,
    clamped_mem 100 2000 e.2 (by omega), h.store, h.pages⟩) rfl

theorem writeClasses_safe (first : Nat) (es : List Nat) (s : State) :
    Safe s (writeClasses first es s).1 :=
  writeEntries_safe (storeFrom_safe (fun _ _ _ _ _ _ => .toll_count rfl le_rfl le_rfl le_rfl)
    first es s)

theorem storedChannel_inRange (e : ChannelWrite) : channelInRange (storedChannel e) = true := by
  have h1 := clamped_mem 1 600 e.period (by omega)
  have h2 := (clamped_mem 0 4095 e.zero (by omega)).2
  have h3 := clamped_mem 1 16 e.window (by omega)
  have h4 := (clamped_mem 0 8 e.shift (by omega)).2
  have h5 := clamped_mem 1 15 e.persist (by omega)
  have h6 := (clamped_mem 0 65535 e.interval (by omega)).2
  simp only [channelInRange, Bool.and_eq_true]
  exact ⟨⟨⟨⟨⟨⟨⟨decide_eq_true h1, decide_eq_true h2⟩, decide_eq_true h3⟩, decide_eq_true h4⟩,
    decide_eq_true (min_le_right _ _)⟩, decide_eq_true (le_max_right _ _)⟩, decide_eq_true h5⟩,
    decide_eq_true h6⟩

/-- A channel entry stored, and its channel restarted with it (R142). -/
theorem storeChannel_safe (c : Fin 16) (e : ChannelEntry) (he : channelInRange e = true)
    (s : State) : Safe s (restartChannel true c
      (s.modWx fun x => { x with table := x.table.set c e })) := by
  refine handChannel_safe (s := s) true c
    (w := .restarted (Tab.get (s.wx.table.set c e) c).interval) (f := fun x =>
      { x with
        table := x.table.set c e
        work := x.work.set c (.restarted (Tab.get (s.wx.table.set c e) c).interval) })
    (fun h => ?_) ?_ fun d hd => ?_
  · refine ⟨fun d => ?_, fun d => ?_, h.pulses⟩
    · rw [Tab.get_set]
      split
      · exact he
      · exact h.table d
    · rw [Tab.get_set]
      dsimp only
      rw [Tab.get_set]
      split
      · exact channelBounded_restarted _ _
      · exact h.work d
  · rw [Tab.get_set, if_pos rfl]
  · rw [Tab.get_set, if_neg (Ne.symm hd)]

theorem writeChannels_safe (first : Nat) (es : List ChannelWrite) (s : State) :
    Safe s (writeChannels first es s).1 := by
  refine writeEntries_safe (storeFrom_safe (fun i e s _ _ _ => ?_) first es s)
  unfold putChannel
  by_cases h : i < 16
  · rw [dif_pos h]
    exact storeChannel_safe _ _ (storedChannel_inRange e) s
  · rw [dif_neg h]
    exact .refl s

theorem writeEvents_safe (first : Nat) (es : List (Nat × Nat)) (s : State) :
    Safe s (writeEvents first es s).1 := by
  refine writeEntries_safe (storeFrom_safe (fun i e s _ _ _ => ?_) first es s)
  refine .cond (fun h => ⟨fun c => ?_, h.mask, h.events⟩) rfl
  rw [get_setAt]
  split
  · next hc =>
    by_cases hi : 50 ≤ i ∧ i ≤ 55
    · rw [if_pos hi]
      exact ⟨le_rfl, fun _ => rfl⟩
    · rw [if_neg hi]
      exact ⟨Nat.min_le_right _ _, fun hk => absurd (hc ▸ hk) hi⟩
  · exact h.table c

theorem writeRules_safe (first : Nat) (es : List RuleWrite) (s : State) :
    Safe s (writeRules first es s).1 := by
  refine writeEntries_safe fun hf => Safe.trans
    (storeFrom_safe (fun i e s _ _ _ => ?_) first es s hf) (reevaluateSign_safe _)
  refine .sign (fun h => ⟨fun k => ?_, h.hold, h.answer, h.store, h.pages⟩) rfl
  rw [get_setAt]
  split
  · exact clamped_mem 1 6 e.priority (by omega)
  · exact h.rules k

/-- A page entry that passes stores a valid descriptor or none (R185). -/
theorem checkPage_none {g : SignController} {i : Nat} {d : List Segment}
    (h : checkPage g i d = none) : d = [] ∨ descriptorValid d = true := by
  unfold checkPage at h
  split at h
  · cases h
  · next hc =>
    by_cases hd : d = []
    · exact .inl hd
    · exact .inr (by simpa [hd] using hc)

theorem staleIfWritten_kept (first : Nat) (es : List (List Segment)) (p : Fin 64)
    (g : SignController) : SignKept g (staleIfWritten first es p g) := by
  unfold staleIfWritten
  split
  · exact (oweSelection_kept _).after ⟨rfl, rfl, rfl, rfl, rfl, rfl⟩
  · exact .refl g

theorem writePages_safe (first : Nat) (es : List (List Segment)) (s : State) :
    Safe s (writePages first es s).1 := by
  refine writeEntries_safe fun hf => ((storeFrom_safe (fun i d s _ _ hc => ?_) first es s hf).trans
    (reevaluateSign_safe _)).trans (modSign_safe _ fun g => staleIfWritten_kept _ _ _ g)
  refine .sign (fun h => ⟨h.rules, h.hold, h.answer, h.store, fun k => ?_⟩) rfl
  rw [get_setAt]
  split
  · rcases checkPage_none hc with rfl | hd
    · rfl
    · by_cases he : d = []
      · rw [if_pos he]; rfl
      · rw [if_neg he]; exact hd
  · exact h.pages k

theorem writeBlocks_safe (first : Nat) (bs : List Octets) (s : State) :
    Safe s (writeBlocks first bs s).1 := by
  refine writeEntries_safe (storeFrom_safe (fun i b s _ hi hc => ?_) first bs s)
  refine .sign (fun h => ⟨h.rules, h.hold, h.answer, ?_, h.pages⟩) rfl
  have hl : b.length = 64 := by
    unfold checkBlock at hc
    split at hc
    · cases hc
    · next hb => exact not_not.1 hb
  exact storeWf_writeAll h.store b (by omega)

theorem writeByRow_safe (i : Instr) (s : State) : Safe s (writeByRow i s).1 := by
  unfold writeByRow
  split
  · exact writeRing_safe _ _ s
  · exact writeToll_safe _ _ s
  · exact writeClasses_safe _ _ s
  · exact writeChannels_safe _ _ s
  · exact writeEvents_safe _ _ s
  · exact writeRules_safe _ _ s
  · exact writePages_safe _ _ s
  · exact writeBlocks_safe _ _ s
  · exact writeSign_safe _ _ s
  · exact .refl s

theorem writeTable_safe (h : Head) (table first count : Nat) (raw : Octets) (s : State) :
    Safe s (writeTable h table first count raw s).1 := by
  unfold writeTable
  split
  · exact .refl s
  · split
    · exact writeByRow_safe _ s
    · exact .refl s

/-! ## COUNTS_CLEAR and RESTART (R204, R205) -/

theorem clearLine_safe (s : State) :
    Safe s (s.modLine fun l => { l with w := clearPort l.w, e := clearPort l.e }) := by
  refine Steady.safe ⟨fun ⟨hf, hr, ha⟩ => ⟨fun p hp => ?_, hr, ha⟩,
    fun ⟨l, sw, a, t, j, w, c, g, r⟩ => ⟨l, sw, a, t, j, w, c, g, r⟩, id⟩
    { SameFlags.refl s with } rfl
  have := hf p hp
  cases p <;> exact this

theorem clearCounts_safe (s : State) : Safe s (clearCounts s) := by
  have hl : Safe s (clearLineCounts s) :=
    ((clearLine_safe s).trans (.timer (f := fun t =>
      { t with holdoverEntries := 0, recirculations := 0 }) rfl id)).trans
      (modProt_safe rfl rfl rfl id rfl rfl)
  have h1 : ∀ s : State, Safe s (s.modSw clearSwitchCounts) := fun s =>
    .sw_count rfl rfl rfl rfl rfl
  have h2 : ∀ s : State, Safe s (s.modPhone clearPhoneCounts) := fun s => modPhone_safe s
  have h3 : ∀ s : State, Safe s (s.modAlloc clearAllocCounts) := fun s => .alloc_count rfl rfl rfl
  have h4 : ∀ n (s : State), Safe s (s.modToll (clearTollCounts n)) := fun n s =>
    .toll_count rfl le_rfl le_rfl le_rfl
  have h5 : ∀ s : State, Safe s (s.modJournal clearJournalCounts) := fun s =>
    .journal_count rfl le_rfl
  have h6 : ∀ s : State, Safe s (s.modWx clearWxCounts) := fun s =>
    .wx (fun h => { h with }) fun _ => ⟨rfl, rfl, rfl⟩
  have h7 : ∀ s : State, Safe s (s.modCond clearCondCounts) := fun s => .cond_count rfl rfl rfl rfl
  have h8 : ∀ s : State, Safe s (s.modSign clearSignCounts) := fun s => modSign_safe s
  have h9 : ∀ s : State, Safe s (s.modAgent clearAgentCounts) := fun s => agent_count s
  exact ((((hl.trans (h1 _)).trans (h2 _)).trans (h3 _)).trans ((h4 _ _).trans (h5 _))).trans
    (((h6 _).trans (h7 _)).trans ((h8 _).trans (h9 _)))

/-- The flush of a RESTART leaves what is spared in MGMT and empties the rest (R63). -/
theorem SwBounded.flush {sw : FrameSwitch} (c : Half) {spared : List Frame}
    (hs : spared.length ≤ 8) (h : SwBounded sw) : SwBounded (flushSwitch c spared sw) := by
  refine ⟨h.budget, fun q => ?_, Nat.zero_le _, h.accept, ?_⟩
  · cases q
    case mgmt => exact hs
    all_goals exact Nat.zero_le _
  · exact List.length_take_le _ _

theorem idleSender_kept (g : SignController) :
    SignKept g { g with sender := { g.sender with state := .idle } } := ⟨rfl, rfl, rfl, rfl, rfl, rfl⟩

theorem endedExchange_kept (g : SignController) : SignKept g
    { g with
      test := none
      sender := { g.sender with state := .awaiting, exchange := .none, line := []
                                answerTimer := none } } := ⟨rfl, rfl, rfl, rfl, rfl, rfl⟩

theorem restartSign_kept (copy : Tab Bool 64) (g : SignController) :
    SignKept g (restartSign copy g) :=
  ((endedExchange_kept g).trans (reevaluate_kept copy true _)).trans
    ((idleSender_kept _).trans (startSelected_kept _ _))

theorem clearEvents_safe (s : State) : Safe s (s.modCond fun u => { u with events := [] }) :=
  .cond (fun h => ⟨h.table, h.mask, List.nodup_nil, fun e he => by cases he⟩) rfl

theorem restartBlocks_safe (s : State) : Safe s (restartBlocks s) := by
  have h1 : Safe s (journalRaised (journalLevels s)
      (journalAllWaiting (tollRestart (phoneRestart hand s)))) :=
    (((phoneRestart_safe hand_safe s).trans (tollRestart_safe _)).trans
      (journalAllWaiting_safe _)).trans (.period _ _)
  have h2 : ∀ s : State, Safe s ((restartWeather s).modCond fun u => { u with events := [] }) :=
    fun s => (restartWeather_safe s).trans (clearEvents_safe _)
  have h3 : ∀ s : State, Safe s (s.modSign (restartSign s.cond.copy)) := fun s =>
    (restartSign_kept _ _).safe
  have h4 : ∀ s : State, Safe s (if s.isMaster then walkRestart s else s) := fun s =>
    .ite (walkRestart_safe s) (.refl s)
  exact ((h1.trans (h2 _)).trans (h3 _)).trans (h4 _)

theorem length_sparedDone {before after : FrameSwitch} (h : SwBounded after) :
    (sparedDone before after).length ≤ 8 := by
  have := h.queues .mgmt
  change after.mgmt.length ≤ 8 at this
  unfold sparedDone
  rw [List.length_drop]
  omega

theorem restartNode_safe (h : Head) (me : Instr) (s : State) : Safe s (restartNode h me s) := by
  have h1 := respond_safe h (.done 0) s
  have h2 : ∀ t : State, Safe t (t.modSw (flushSwitch t.timer.number
      (if t.isMaster then [] else sparedDone s.sw t.sw))) := fun t => .sw fun hb => by
    refine hb.flush _ ?_
    split
    · exact Nat.zero_le _
    · exact length_sparedDone hb
  have h3 : ∀ t : State, Safe t ((t.modPeriod fun x => { x with restarted := true }).modAgent
      fun a =>
        { a with
          requests := []
          requestsFlushed := bumpBy (leaveQueue me a.requests).length a.requestsFlushed }) :=
    fun t =>
    (Safe.period _ t).trans (.agent rfl rfl fun _ => Nat.zero_le _)
  exact ((h1.trans (h2 _)).trans (restartBlocks_safe _)).trans (h3 _)

/-! ## The address walk and addresses -/

theorem assignAddresses_safe (h : Head) (first : Nat) (s : State) :
    Safe s (assignAddresses h first s) :=
  .ite (respond_safe _ _ _) (.ite (respond_safe _ _ _) (startWalk_safe _ _ _))

theorem addressClear_safe (h : Head) (s : State) : Safe s (addressClear h s) := by
  unfold addressClear
  split
  · exact respond_safe _ _ _
  · next hm =>
    refine (respond_safe h (.done 0) s).trans (clearAddress_safe ?_)
    rw [respond_changes h (.done 0) s .isMaster (by decide)]
    simpa using hm

theorem takeMgmtFrame_safe (origin : Origin) (f : Frame) (s : State) :
    Safe s (takeMgmtFrame origin f s) := by
  unfold takeMgmtFrame
  split
  · next a ha =>
    split at ha
    · next hc =>
      split
      · next hl =>
        exact takeOffer_safe false (Bool.and_eq_true_iff.1 hc).1 hl
      · exact .refl s
    · cases ha
  · exact agentTake_safe _ _ _

end Sys2Proof.Machine
end

section
/-! PROOFS. Ring cycles and line ports, part 9: the standing relations after power-on, and what the
passing of a period keeps of them. -/

namespace Sys2Proof.Machine

set_option Elab.async false

/-! ## Power-on -/

section PoweredOn
variable (cs : List Instr) (choices openIndex : Nat) (pins : Pins)

theorem poweredOn_reach : ReachSound (State.poweredOn cs choices openIndex pins) := by
  refine ⟨fun p hp => (by cases hp), ?_, ?_⟩
  · show (pins.strap && pins.uplinkUp) =
      if pins.strap then pins.uplinkUp else decide (16 < 16) && _
    cases pins.strap <;> rfl
  · show if pins.strap then (if pins.strap then some (1 : Octet) else none) = some 1 else
      (if pins.strap then some (1 : Octet) else none).all offerLegal = true
    cases pins.strap <;> rfl

theorem swBounded_reset : SwBounded .reset :=
  ⟨by decide, fun q => by cases q <;> exact Nat.zero_le _, Nat.zero_le _, Nat.zero_le _,
    Nat.zero_le _⟩

theorem allocBounded_reset : AllocBounded .reset := ⟨by decide, Nat.zero_le _, Nat.zero_le _⟩

theorem tollBounded_reset : TollBounded .reset :=
  ⟨by decide, Nat.zero_le _, Nat.zero_le _, Nat.zero_le _⟩

theorem journalBounded_reset : JournalBounded .reset := ⟨by decide, Nat.zero_le _⟩

theorem wxBounded_reset : WxBounded .reset := by
  refine ⟨fun c => ?_, fun c => ?_, fun k => ?_⟩
  · rw [show WeatherSampler.reset.table = .fill 16 .reset from rfl, Tab.get_fill]
    decide
  · rw [show WeatherSampler.reset.work = .fill 16 (.restarted 0) from rfl, Tab.get_fill]
    exact channelBounded_restarted _ _
  · rw [show WeatherSampler.reset.pulses = .fill 4 _ from rfl, Tab.get_fill]
    exact Nat.zero_le _

/-- The default entry of a condition (R163). -/
theorem get_defaultEvents (c : Fin 64) :
    defaultEvents.get c = { level := defaultLevel c, fall := false } := by
  simp [Tab.get, defaultEvents]
  rfl

theorem condBounded_reset (b : Bool) : CondBounded (.reset b) := by
  refine ⟨fun c => ?_, Nat.le_of_ble_eq_true rfl, List.nodup_nil, fun e he => by cases he⟩
  rw [show (ConditionUnit.reset b).table = defaultEvents from rfl, get_defaultEvents]
  unfold levelInRange defaultLevel
  dsimp only
  split_ifs <;> omega

theorem signBounded_reset : SignBounded .reset := by
  refine ⟨fun k => ?_, by decide, by decide, storeWf_nil, fun k => ?_⟩
  · rw [show SignController.reset.rules = .fill 16 .reset from rfl, Tab.get_fill]
    decide
  · rw [show SignController.reset.pages = .fill 63 none from rfl, Tab.get_fill]
    rfl

theorem poweredOn_bounds : Bounds (State.poweredOn cs choices openIndex pins) :=
  ⟨by show 1 ≤ 10 ∧ 10 ≤ 60; omega, swBounded_reset, allocBounded_reset, tollBounded_reset,
    journalBounded_reset, wxBounded_reset, condBounded_reset _, signBounded_reset, Nat.zero_le _⟩

theorem poweredOn_cycles (hs : ∀ q, (pins.speechIn.get q).length = 8)
    (hc : ∀ p c, Instr.headerReceived p c ∈ cs → c.length = 1024) :
    CyclesSound (State.poweredOn cs choices openIndex pins) := by
  refine ⟨⟨.inl rfl, .inl rfl⟩, ⟨hs, fun k => ?_⟩, ?_, fun c hx => (by cases hx), hc⟩
  · show (Tab.get (.fill 48 silence) k).length = 8
    rw [Tab.get_fill]
    rfl
  · show (0 : Octet) ≤ 48
    decide

/-- The copy after power-on: ISOLATED, and DETACHED but on a master whose uplink is up (R174). -/
theorem poweredOn_copy_get (c : Fin 64) :
    (State.poweredOn cs choices openIndex pins).cond.copy.get c =
      (c == condIsolated || c == condDetached && !(pins.strap && pins.uplinkUp)) := by
  show Tab.get (((Tab.fill 64 false).set 48 _).set 50 true) c = _
  rw [Tab.get_set, Tab.get_set, Tab.get_fill]
  unfold condIsolated condDetached
  by_cases h50 : c = 50
  · subst h50; rfl
  · by_cases h48 : c = 48
    · subst h48; simp
    · simp [h50, h48, Ne.symm h50, Ne.symm h48]

theorem poweredOn_copy : CopyFollows (State.poweredOn cs choices openIndex pins) := by
  intro c h56 h57
  rw [poweredOn_copy_get]
  rcases condition_owner c with ⟨k, rfl⟩ | ⟨k, rfl⟩ | ⟨k, rfl⟩ | ⟨k, rfl⟩ | ⟨k, rfl⟩ | ha
  · rw [ownerFlag_high]
    show _ = (Tab.get (.fill 16 (ChannelState.restarted 0)) k).high
    rw [Tab.get_fill]
    fin_cases k <;> rfl
  · rw [ownerFlag_low]
    show _ = (Tab.get (.fill 16 (ChannelState.restarted 0)) k).low
    rw [Tab.get_fill]
    fin_cases k <;> rfl
  · rw [ownerFlag_fault]
    show _ = (Tab.get (.fill 16 (ChannelState.restarted 0)) k).fault
    rw [Tab.get_fill]
    fin_cases k <;> rfl
  · rw [ownerFlag_offhook]
    show _ = ((Tab.get (.fill 4 Position.reset) k).debounced == .off)
    rw [Tab.get_fill]
    fin_cases k <;> rfl
  · rw [ownerFlag_centre]
    show _ = Tab.get (.fill 5 false) k
    rw [Tab.get_fill]
    fin_cases k <;> rfl
  · simp only [List.mem_cons, List.not_mem_nil, or_false] at ha
    rcases ha with rfl | rfl | rfl | rfl | rfl | rfl | rfl
    · exact Bool.false_or _
    · rfl
    · rfl
    · rfl
    · exact absurd rfl h56
    · exact absurd rfl h57
    · rfl

end PoweredOn

/-- POWER_ON keeps what it finds of the relations: it makes them hold (R23). -/
theorem powerOn_safe (strap : Bool) (s : State) : Steady s
      (State.poweredOn s.pending s.choices s.openIndex { s.pins with strap }) ∧
    (CopyFollows s →
      CopyFollows (State.poweredOn s.pending s.choices s.openIndex { s.pins with strap })) :=
  ⟨⟨fun _ => poweredOn_reach _ _ _ _, fun _ => poweredOn_bounds _ _ _ _,
    fun ⟨_, ⟨hs, _⟩, _, _, hc⟩ => poweredOn_cycles _ _ _ _ hs hc⟩,
    fun _ => poweredOn_copy _ _ _ _⟩

/-! ## The passing of a period -/

/-- The row is HEADER_RECEIVED. -/
def isHeader : Instr → Bool
  | .headerReceived _ _ => true
  | _ => false

/-- None of the rows is a received cycle. -/
def NoHeaders (cs : List Instr) : Prop := ∀ i ∈ cs, isHeader i = false

/-- More rows wait, none of them a received cycle. -/
theorem enqueue_safe {cs : List Instr} (n : Nat) (h : NoHeaders cs) (s : State) :
    Safe s { s with pending := s.pending ++ cs, choices := n } :=
  ⟨⟨id, fun ⟨l, sw, a, t, j, w, c, g, r⟩ => ⟨l, sw, a, t, j, w, c, g, r⟩,
    fun ⟨h1, h2, h3, h4, h5⟩ => ⟨h1, h2, h3, h4, fun p c hc => by
      rcases List.mem_append.1 hc with hc | hc
      · exact h5 p c hc
      · exact nomatch (show true = false from h _ hc)⟩⟩, fun _ => id⟩

theorem NoHeaders.append {cs ds : List Instr} (h : NoHeaders cs) (k : NoHeaders ds) :
    NoHeaders (cs ++ ds) := List.forall_mem_append.2 ⟨h, k⟩

theorem noHeaders_nil : NoHeaders [] := fun _ h => by cases h

theorem noHeaders_one {i : Instr} (h : isHeader i = false := by rfl) : NoHeaders [i] :=
  List.forall_mem_singleton.2 h

theorem noHeaders_row {i : Instr} (due : Bool) (h : isHeader i = false := by rfl) :
    NoHeaders (row due i) := by
  unfold row
  split
  · exact noHeaders_one h
  · exact noHeaders_nil

theorem noHeaders_flatMap {α : Type} {xs : List α} {f : α → List Instr}
    (h : ∀ x, NoHeaders (f x)) : NoHeaders (xs.flatMap f) := fun i hi => by
  obtain ⟨x, _, hx⟩ := List.mem_flatMap.1 hi
  exact h x i hx

theorem mem_arrange {α : Type} (k c : Nat) (xs : List α) {x : α} (h : x ∈ (arrange k c xs).1) :
    x ∈ xs := by
  induction k generalizing c xs with
  | zero => exact h
  | succ k ih =>
    unfold arrange at h
    split at h
    · exact h
    · next y hy =>
      rcases List.mem_cons.1 h with rfl | h
      · exact List.mem_of_getElem? hy
      · exact List.mem_of_mem_eraseIdx (ih _ _ h)

/-- The rows of a period in any order (log 3). -/
theorem noHeaders_orderRows (tick : Bool) (choice : Nat) {due : List Instr} (h : NoHeaders due) :
    NoHeaders (orderRows tick choice due).1 := by
  intro i hi
  obtain ⟨part, hpart, hin⟩ := List.mem_flatten.1 hi
  rcases List.mem_append.1 (mem_arrange _ _ _ hpart) with hb | hd
  · cases tick with
    | false => cases hb
    | true =>
      rw [List.mem_singleton.1 hb] at hin
      rcases List.mem_cons.1 hin with rfl | hin
      · rfl
      · obtain ⟨k, _, rfl⟩ := List.mem_map.1 (mem_arrange _ _ _ hin)
        rfl
  · obtain ⟨j, hdue, rfl⟩ := List.mem_map.1 hd
    rw [List.mem_singleton.1 hin]
    exact h j hdue

/-! ### No row that a period queues is a received cycle -/

theorem isHeader_writeInstr (h : Head) (table first count : Nat) (raw : Octets) :
    isHeader (writeInstr h table first count raw) = false := by
  unfold writeInstr
  simp only
  split <;> rfl

/-- An optional row is no received cycle. -/
theorem noHeader_some {i j : Instr} (h : some j = some i) (hj : isHeader j = false := by rfl) :
    isHeader i = false := Option.some.inj h ▸ hj

theorem noHeader_ite {c : Prop} [Decidable c] {i j : Instr}
    (h : (if c then some j else none) = some i) (hj : isHeader j = false := by rfl) :
    isHeader i = false := by
  split at h
  · exact noHeader_some h hj
  · cases h

/-- A request is none (R214). -/
theorem isHeader_requestInstr {h : Head} {o : Octets} {i : Instr} (hi : requestInstr h o = some i) :
    isHeader i = false := by
  unfold requestInstr at hi
  simp only at hi
  split at hi
  case h_2 =>
    split at hi
    · cases hi
    · split at hi
      · exact noHeader_some hi
      · exact noHeader_ite hi (isHeader_writeInstr _ _ _ _ _)
  case h_15 =>
    split at hi
    · exact noHeader_some hi
    · split at hi
      · exact noHeader_ite hi
      · cases hi
  case h_27 => cases hi
  all_goals exact noHeader_ite hi

theorem noHeaders_requestRows (s : State) : NoHeaders (requestRows s) := by
  unfold requestRows
  split
  · exact noHeaders_nil
  · exact fun i hi => isHeader_requestInstr (Option.mem_toList.1 hi)

theorem noHeaders_broughtRows (s : State) : NoHeaders (broughtRows s) := by
  have hm : NoHeaders (if s.isMaster then
      (indices 240).flatMap fun n => row (comeRoundDue s n) (.planComeRound n) else []) := by
    split
    · exact noHeaders_flatMap fun n => noHeaders_row _
    · exact noHeaders_nil
  exact ((((noHeaders_row _).append hm).append (noHeaders_row _)).append
    (noHeaders_row _)).append (noHeaders_requestRows s)

theorem noHeaders_reachRows (s : State) : NoHeaders (reachRows s) :=
  (noHeaders_row _).append (noHeaders_row _)

theorem noHeaders_lineRows (s : State) : NoHeaders (lineRows s) :=
  noHeaders_flatMap fun _ =>
    ((noHeaders_row _).append (noHeaders_row _)).append (noHeaders_row _)

theorem noHeaders_phoneRows (pressed : List (Fin 4)) (s : State) :
    NoHeaders (phoneRows pressed s) := by
  have hq : ∀ q, NoHeaders (positionRows pressed s q) := fun q =>
    (((((noHeaders_row _).append (noHeaders_row _)).append
      (noHeaders_row _)).append (noHeaders_row _)).append
        (noHeaders_row _)).append (noHeaders_row _)
  exact ((noHeaders_row _).append (noHeaders_flatMap hq)).append (noHeaders_row _)

theorem noHeaders_allocRows (s : State) : NoHeaders (allocRows s) := by
  unfold allocRows
  split
  · have hn : ∀ n, NoHeaders (nodeRows s n) := fun n =>
      ((noHeaders_row _).append (noHeaders_row _)).append (noHeaders_row _)
    exact (noHeaders_flatMap hn).append (noHeaders_flatMap fun e => noHeaders_row _)
  · exact noHeaders_nil

theorem noHeaders_tollRows (s : State) : NoHeaders (tollRows s) :=
  ((((noHeaders_row _).append (noHeaders_row _)).append (noHeaders_row _)).append
    (noHeaders_row _)).append (noHeaders_row _)

theorem noHeaders_signRows (s : State) : NoHeaders (signRows s) :=
  (((((noHeaders_row _).append (noHeaders_row _)).append (noHeaders_row _)).append
    (noHeaders_row _)).append (noHeaders_row _)).append (noHeaders_row _)

theorem noHeaders_dueRows (pressed : List (Fin 4)) (s : State) : NoHeaders (dueRows pressed s) :=
  (((((noHeaders_phoneRows pressed s).append (noHeaders_allocRows s)).append
    (noHeaders_tollRows s)).append (noHeaders_flatMap fun _ => noHeaders_row _)).append
      (noHeaders_signRows s)).append (noHeaders_row _)

theorem noHeaders_ownCycle (s : State) : NoHeaders (ownCycle s) := by
  unfold ownCycle
  split
  · exact noHeaders_row _
  split
  · exact noHeaders_nil
  split
  · exact noHeaders_one
  split
  · exact noHeaders_one
  · exact noHeaders_one

/-! ### Closing, settling, opening -/

/-- The age that a cycle leaves keeps a node on its side of the limit of R20. -/
theorem countedAge_side {s : State} (hm : s.isMaster = false) (hr : ReachFollows s) :
    (decide (countedAge s < 16) && s.agent.address.isSome) =
      (decide (s.prot.age < 16) && s.agent.address.isSome) := by
  unfold ReachFollows shouldBeLinked at hr
  rw [hm, if_neg Bool.false_ne_true] at hr
  unfold countedAge
  rw [hm, Bool.false_or]
  split
  · rfl
  split
  · next hl =>
    rw [hl] at hr
    have h16 : s.prot.age < 16 := by simpa using (Bool.and_eq_true_iff.1 hr.symm).1
    congr 1
    rw [decide_eq_decide]
    omega
  · next hl =>
    rw [Bool.not_eq_true] at hl
    rw [hl] at hr
    cases ha : s.agent.address.isSome
    · rw [Bool.and_false, Bool.and_false]
    · rw [ha, Bool.and_true] at hr
      have h16 : ¬ s.prot.age < 16 := by simpa using hr.symm
      congr 1
      rw [decide_eq_decide]
      omega

/-- The age counted as the inputs are in, on the state that the refusal of an unreadable request
leaves (R20). -/
theorem countedAge_safe {s t : State} (h : Safe s t) (hm : t.isMaster = s.isMaster)
    (hp : t.prot = s.prot) (hq : t.period = s.period) : Safe s (setAge (countedAge s) t) := by
  have hc : countedAge s = countedAge t := by unfold countedAge; rw [hm, hp, hq]
  refine h.trans (Steady.safe ⟨fun ⟨hf, hr, ha⟩ => ⟨hf, hr.trans ?_, ha⟩,
    fun ⟨l, sw, a, t, j, w, c, g, r⟩ => ⟨l, sw, a, t, j, w, c, g, r⟩, id⟩
    { SameFlags.refl t with } rfl)
  show (if t.isMaster then t.pins.uplinkUp
      else decide (t.prot.age < 16) && t.agent.address.isSome) =
    if t.isMaster then t.pins.uplinkUp
      else decide (countedAge s < 16) && t.agent.address.isSome
  cases hm' : t.isMaster
  · rw [hc, countedAge_side hm' hr]
  · rfl

theorem refuseHead_changes (s : State) : Changes respondParts s (refuseHead s) := by
  unfold refuseHead
  split
  · exact .refl _ s
  · refine .ite ?_ (.refl _ s)
    exact ((modAgent_changes _ _).mono (by decide)).trans ((respond_changes _ _ _).trans
      ((modAgent_changes _ _).mono (by decide)))

theorem closePeriod_safe (s : State) : Safe s (closePeriod s) := by
  have hr := refuseHead_changes s
  have h1 := (countedAge_safe (refuseHead_safe s) (hr .isMaster (by decide)) (hr .prot (by decide))
    (hr .period (by decide))).trans (.period (fun x => { x with stage := .closing }) _)
  refine h1.trans ?_
  have h2 := enqueue_safe (orderRows false s.choices (broughtRows s)).2
    ((noHeaders_reachRows s).append (noHeaders_orderRows false s.choices (noHeaders_broughtRows s)))
    ((setAge (countedAge s) (refuseHead s)).modPeriod fun x => { x with stage := .closing })
  exact h2

theorem reflag_length {p : Port} {s : State} {cycle : Octets} (h : cycleOrNone cycle) :
    cycleOrNone (reflag p s cycle) := by
  unfold reflag
  split
  · next g hd =>
    rcases h with rfl | h
    · cases hd
    · exact .inr (by
        rw [List.length_append, length_encodeCycleHeader, List.length_drop, h])
  · exact h

theorem reflagPort_safe (p : Port) (s : State) : Safe s (reflagPort p s) := by
  refine .ite ?_ (.refl s)
  cases p
  · exact (Safe.out (s := s) (f := fun o => { o with txW := reflag .w s (sentAt s .w) })
      (fun h => reflag_length h) id).trans (.period (fun x => { x with fedW := true }) _)
  · exact (Safe.out (s := s) (f := fun o => { o with txE := reflag .e s (sentAt s .e) }) id
      fun h => reflag_length h).trans (.period (fun x => { x with fedE := true }) _)

theorem quiet_safe (s : State) : Safe s (quiet s) :=
  .ite (.refl s) ((silencePhones_safe s).trans (silenceLanes_safe _))

theorem settlePeriod_safe (s : State) : Safe s (settlePeriod s) := by
  have h1 := ((((settleCycle_safe s).trans (reflagPort_safe .w _)).trans
    (reflagPort_safe .e _)).trans (quiet_safe _)).trans
      (.period (fun x => { x with stage := .sending, raised := [] }) _)
  have h2 : ∀ t : State, Safe t { t with pending := t.pending ++ ownCycle t ++ ownSwitch t } :=
    fun t => by
      have h := enqueue_safe t.choices ((noHeaders_ownCycle t).append (ds := ownSwitch t)
        (noHeaders_row _)) t
      rwa [← List.append_assoc] at h
  exact h1.trans (h2 _)

theorem feedPort_safe (p : Port) (s : State) : Safe s (feedPort p s) :=
  .ite (.refl s) (unlessFed_safe p (sendEmpty_safe p fun ⟨_, _, hr, _⟩ => ownHeader_u hr))

@[simp] theorem later_isSome (o : Option Nat) : (later o).isSome = o.isSome := by cases o <;> rfl

theorem laterPhone_get (pins : Pins) (p : PhoneInterface) (q : Fin 4) :
    (laterPhone pins p).positions.get q =
      laterPosition (pins.hooks.get q) (pins.buttons.get q) (p.positions.get q) := by
  rw [laterPhone, Tab.get_mk]

theorem laterPulses_get (pins : Pins) (x : WeatherSampler) (k : Fin 4) :
    (laterWx pins x).pulses.get k = examinePulse (pins.pulses.get k) (x.pulses.get k) := by
  rw [laterWx, Tab.get_mk]

theorem laterPort_held {forced : Bool} {p : LinePort} (h : p.health = .unhealthy ∧ p.wtrTimer = none) :
    (laterPort forced p).health = .unhealthy ∧ (laterPort forced p).wtrTimer = none :=
  ⟨h.1, by rw [laterPort, h.2]; rfl⟩

theorem advance_flags (s : State) : SameFlags s (advance s) :=
  { SameFlags.refl s with
    duplicate := later_isSome _
    debounced := fun q => by
      show ((laterPhone s.pins s.phone).positions.get q).debounced = _
      rw [laterPhone_get]
      rfl }

/-- Timers and counters move no bound, no flag and no cycle (R6 to R192). -/
theorem advance_safe (s : State) : Safe s (advance s) := by
  refine Steady.safe ⟨fun ⟨hf, hr, ha⟩ => ⟨fun p hp => ?_, hr, ha⟩, fun h => ?_, id⟩
    (advance_flags s) rfl
  · have := hf p hp
    cases p <;> exact laterPort_held this
  · refine ⟨h.line, h.sw, ?_, ⟨h.toll.limit, h.toll.answers, ?_, h.toll.deny⟩,
      ⟨h.journal.drain, ?_⟩, ⟨h.wx.table, h.wx.work, fun k => ?_⟩, h.cond,
      ⟨h.sign.rules, h.sign.hold, h.sign.answer, h.sign.store, h.sign.pages⟩, h.agent⟩
    · show AllocBounded (if s.isMaster then laterAlloc s.alloc else s.alloc)
      split
      · exact ⟨h.alloc.capacity, (List.length_map ..).trans_le h.alloc.calls, h.alloc.waiting⟩
      · exact h.alloc
    · exact (List.length_map ..).trans_le h.toll.pending
    · exact (List.length_map ..).trans_le h.journal.records
    · show ((laterWx s.pins s.wx).pulses.get k).count ≤ 65535
      rw [laterPulses_get]
      exact h.wx.pulses k

theorem openPeriod_safe (s : State) : Safe s (openPeriod s) := by
  have h1 := ((feedPort_safe .w s).trans (feedPort_safe .e _)).trans (advance_safe _)
  have h2 : ∀ t : State, Safe t { t with
      pending := t.pending ++ row t.isMaster .originateCycle ++ lineRows t ++
        (orderRows (decide (100 ≤ t.wx.clock)) t.choices (dueRows (pressing s) t)).1
      choices := (orderRows (decide (100 ≤ t.wx.clock)) t.choices (dueRows (pressing s) t)).2 } :=
    fun t => by
      have h := enqueue_safe
        (orderRows (decide (100 ≤ t.wx.clock)) t.choices (dueRows (pressing s) t)).2
        (((noHeaders_row t.isMaster (i := .originateCycle)).append (noHeaders_lineRows t)).append
          (noHeaders_orderRows (decide (100 ≤ t.wx.clock)) t.choices
            (noHeaders_dueRows (pressing s) t))) t
      rwa [← List.append_assoc, ← List.append_assoc] at h
  exact h1.trans (h2 _)

theorem tick_safe (s : State) : Safe s (tick s) := by
  unfold tick
  split
  · exact closePeriod_safe s
  · exact settlePeriod_safe s
  · exact openPeriod_safe s

end Sys2Proof.Machine
end

section
/-! PROOFS. Ring cycles and line ports, part 10: every command keeps the standing relations, and so
does every step. -/

namespace Sys2Proof.Machine

set_option Elab.async false

/-- What a command answers keeps the relations, the cycles on a premise about a cycle received. -/
def AnswerSafe (P : Prop) (s : State) (a : Answer) : Prop := ∀ t, a = .next t → SafeIf P s t

theorem answerSafe_next {P : Prop} {s u : State} (h : SafeIf P s u) : AnswerSafe P s (.next u) :=
  fun t ht => by cases ht; exact h

theorem Safe.next {P : Prop} {s u : State} (h : Safe s u) : AnswerSafe P s (.next u) :=
  answerSafe_next h.if

theorem answerSafe_whenever {P : Prop} {c : Bool} {f : State → State} {s : State}
    (h : c = true → Safe s (f s)) : AnswerSafe P s (whenever c f s) := by
  refine Safe.next (u := if c then f s else s) ?_
  cases c
  · exact .refl s
  · exact h rfl

/-- A request whose own rule gives a result at once. -/
theorem request_safe {P : Prop} (h : Head) (code : Nat) (me : Instr) {run : State → State × Result}
    {s : State} (hr : ∀ s, Safe s (run s).1) :
    AnswerSafe P s (.next (execRequest h code me (answering h run) s)) :=
  (execRequest_safe h code me (answering_safe h (hr _))).next

/-- A request answered DONE in every case. -/
theorem requestDone_safe {P : Prop} (h : Head) (code : Nat) (me : Instr) {f : State → State}
    {s : State} (hf : ∀ s, Safe s (f s)) :
    AnswerSafe P s (.next (execRequest h code me (answeringDone h f) s)) :=
  (execRequest_safe h code me (answeringDone_safe h (hf _))).next

/-- A request answered with data. -/
theorem requestData_safe {P : Prop} (h : Head) (code : Nat) (me : Instr) (r : State → Result)
    {s : State} :
    AnswerSafe P s (.next (execRequest h code me (fun s => respond h (r s) s.spendOpen) s)) :=
  (execRequest_safe h code me ((Safe.spendOpen _).trans (respond_safe _ _ _))).next

section Rows
variable {P : Prop} (s : State)

/-! ### Rows with more than one operation -/

theorem hookRow_safe (q : Fin 4) (raw : Hook) {f : State → State} (hf : ∀ s, Safe s (f s)) :
    Safe s (f (turnHook q raw s)) := (turnHook_safe q raw s).trans (hf _)

theorem priorityPress_safe (q : Fin 4) :
    Safe s (takePress hand q (modPos q (fun p => { p with holdCount := 4000 }) s)) :=
  (modPos_safe q s).trans (takePress_safe hand_safe _ _)

theorem releaseResend_safe (q : Fin 4) :
    Safe s (offerRelease hand q (modPos q (fun p => { p with resend := some 0 }) s)) :=
  (modPos_safe q s).trans (offerRelease_safe hand_safe _ _)

theorem ringTimeout_safe (q : Fin 4) : Safe s ((modPos q idlePosition s).modPhone fun p =>
    { p with ringTimeouts := bump p.ringTimeouts }) :=
  (idlePosition_safe q s).trans (modPhone_safe _)

theorem statusTimer_safe : Safe s (offerStatus (s.modPhone fun p =>
    { p with statusTimer := p.statusTimer - 1000 })) :=
  (modPhone_safe s).trans (offerStatus_safe _)

theorem answerBlockSent_safe : AnswerSafe P s (execAnswerBlockSent s) := by
  unfold execAnswerBlockSent
  split
  · exact (Safe.refl s).next
  · next a rest hr =>
    have h1 : Safe s (s.modToll fun t => { t with answers := rest }) :=
      .toll_count rfl (by simp [hr]) le_rfl le_rfl
    exact (h1.trans (.out id id)).next

theorem inflightTimeout_safe : AnswerSafe P s (execInflightTimeout s) :=
  (Safe.journal_count (s := s) (f := fun j =>
    { j with
      records := j.records.map fun r => if inFlightDue r then backToWaiting r else r
      inflightTimeouts := bumpBy (j.records.filter inFlightDue).length j.inflightTimeouts })
    rfl (List.length_map ..).le).next

theorem denyRemove_safe (tag : TagId) :
    Safe s (s.modToll fun t => { t with deny := t.deny.filter (· != tag) }) :=
  .toll_count rfl le_rfl le_rfl (List.length_filter_le _ _)

theorem denyClear_safe : Safe s (s.modToll fun t => { t with deny := [] }) :=
  .toll_count rfl le_rfl le_rfl (Nat.zero_le _)

theorem acceptRemove_safe (service channel : Nat) : Safe s (s.modSw fun sw =>
    { sw with accept := sw.accept.filter fun x => !namesPair service channel x }) :=
  .sw fun h => ⟨h.budget, h.queues, h.holding, (List.length_filter_le _ _).trans h.accept, h.records⟩

theorem signAccept_safe (page : Nat) : AnswerSafe P s (execSignAccept page s) := by
  unfold execSignAccept
  split
  · exact (takeAccept_safe _ s).next
  · exact (badAnswer_safe s).next

theorem signReject_safe (reason : Octet) : AnswerSafe P s (execSignReject reason s) := by
  unfold execSignReject
  split
  · exact ((validAnswer_safe s).trans (modSign_safe _ (rejectPage_kept _ _ _))).next
  · exact (validThenBad_safe s).next

theorem signStatusAnswer_safe (page : Nat) (faults : Half) :
    AnswerSafe P s (execSignStatusAnswer page faults s) := by
  unfold execSignStatusAnswer
  split
  · exact (takeStatus_safe _ _ s).next
  · exact (badAnswer_safe s).next

theorem withdrawn_safe {f : SignController → SignController} (hf : ∀ g, SignKept g (f g)) :
    Safe s (reevaluateSign (s.modSign f)) := (modSign_safe s hf).trans (reevaluateSign_safe _)

theorem holdExpiry_safe :
    Safe s (s.modSign fun g => reevaluate s.cond.copy true { g with hold := none }) :=
  modSign_safe s fun _ => (reevaluate_kept _ _ _).after ⟨rfl, rfl, rfl, rfl, rfl, rfl⟩

theorem addressTaken_safe (a : Octet) : Safe s (if s.isMaster then takeTaken a s else ignoreMgmt s) :=
  .ite (takeTaken_safe a s) (ignoreMgmt_safe s)

theorem duplicateMasterClearRow_safe : AnswerSafe P s (execDuplicateMasterClear s) :=
  answerSafe_whenever fun _ => duplicateClear_safe s

theorem centreHeaderAgeExpiryRow_safe : AnswerSafe P s (execCentreHeaderAgeExpiry s) :=
  answerSafe_whenever fun _ => updateAge_safe 16 s

theorem offHookRow_safe (q : Fin 4) : AnswerSafe P s (execOffHook q s) :=
  answerSafe_whenever fun _ => hookRow_safe s q _ (takeOffHook_safe hand_safe q)

theorem onHookRow_safe (q : Fin 4) : AnswerSafe P s (execOnHook q s) :=
  answerSafe_whenever fun _ => hookRow_safe s q _ (takeOnHook_safe hand_safe q)

theorem priorityPressRow_safe (q : Fin 4) : AnswerSafe P s (execPriorityPress q s) :=
  answerSafe_whenever fun _ => priorityPress_safe s q

theorem callReleaseResendRow_safe (q : Fin 4) : AnswerSafe P s (execCallReleaseResend q s) :=
  answerSafe_whenever fun _ => releaseResend_safe s q

theorem ringTimeoutRow_safe (q : Fin 4) : AnswerSafe P s (execRingTimeout q s) :=
  answerSafe_whenever fun _ => ringTimeout_safe s q

theorem statusTimerExpiryRow_safe : AnswerSafe P s (execStatusTimerExpiry s) :=
  answerSafe_whenever fun _ => statusTimer_safe s

theorem testTimerExpiryRow_safe : AnswerSafe P s (execTestTimerExpiry s) :=
  answerSafe_whenever fun _ => withdrawn_safe s fun _ => ⟨rfl, rfl, rfl, rfl, rfl, rfl⟩

theorem centreLifetimeExpiryRow_safe : AnswerSafe P s (execCentreLifetimeExpiry s) :=
  answerSafe_whenever fun _ => withdrawn_safe s fun _ => ⟨rfl, rfl, rfl, rfl, rfl, rfl⟩

theorem holdExpiryRow_safe : AnswerSafe P s (execHoldExpiry s) :=
  answerSafe_whenever fun _ => holdExpiry_safe s

theorem allocFrameIgnoredRow_safe (source : Octet) (p : Octets) :
    AnswerSafe P s (execAllocFrameIgnored source p s) :=
  answerSafe_whenever fun _ => (markPresent_safe source s).trans (ignoreAlloc_safe _)

theorem readRow_safe (h : Head) (table first count : Nat) :
    AnswerSafe P s (execRead h table first count s) :=
  (execRequest_safe h 1 _ (body := fun s => respond h (readTable s table first count) s)
    (respond_safe _ _ _)).next

end Rows

/-- Every command but POWER_ON keeps the standing relations; the cycles, when the cycle that it
receives is whole. -/
theorem exec_safe (i : Instr) (s : State) (hp : ∀ strap, i ≠ .powerOn strap) :
    AnswerSafe (∀ p c, i = .headerReceived p c → c.length = 1024) s (exec i s) := by
  cases i with
  | powerOn strap => exact absurd rfl (hp strap)
  | signalLost p => exact (changePort_safe p _ s).next
  | signalRegained p => exact answerSafe_whenever fun _ => changePort_safe p _ s
  | markerFound p => exact answerSafe_whenever fun _ => modPort_safe p fun _ h => h
  | headerReceived p c =>
    have h := receiveCycle_safe p c s
    exact answerSafe_next ⟨h.reach, h.bounds, h.copy, fun hc => h.cycles (hc p c rfl)⟩
  | alignFaultCount p => exact answerSafe_whenever fun _ => changePort_safe p _ s
  | wtrExpiry p => exact answerSafe_whenever wtrExpiry_safe
  | bringUpComplete p => exact answerSafe_whenever bringUp_safe
  | recirculation => exact answerSafe_whenever fun _ => recirculate_safe s
  | duplicateMasterClear => exact duplicateMasterClearRow_safe s
  | missingCycle => exact answerSafe_whenever fun _ => missCycle_safe s
  | holdoverEntry => exact answerSafe_whenever fun _ => enterHoldoverNow_safe s
  | holdoverCycle => exact answerSafe_whenever fun _ => holdoverCycleOf_safe s
  | originateCycle => exact answerSafe_whenever fun _ => originate_safe s
  | centreHeaderAgeExpiry => exact centreHeaderAgeExpiryRow_safe s
  | uplinkDown => exact (setUplink_safe false s).next
  | uplinkUp => exact (setUplink_safe true s).next
  | uplinkFrame os => exact answerSafe_whenever fun _ => takeUplink_safe os centreFrame_safe s
  | fieldFrame os => exact answerSafe_whenever fun _ => takeUplink_safe os fieldTerminalFrame_safe s
  | offHook q => exact offHookRow_safe s q
  | onHook q => exact onHookRow_safe s q
  | priorityPress q => exact priorityPressRow_safe s q
  | callRequestResend q => exact answerSafe_whenever fun _ => offerRequest_safe hand_safe q s
  | callReleaseResend q => exact callReleaseResendRow_safe s q
  | ringTimeout q => exact ringTimeoutRow_safe s q
  | statusTimerExpiry => exact statusTimerExpiryRow_safe s
  | callQueued ref place => exact (takeCallQueued_safe hand_safe ref place s).next
  | planUpdate via source v c slots =>
    exact (takePlanUpdate_safe hand_safe via source v c slots s).next
  | planSwitch => exact answerSafe_whenever fun _ => switchBanks_safe hand_safe s
  | vsigFrameIgnored _ => exact answerSafe_whenever fun _ => ignoreVsig_safe s
  | callRequest source _ _ _ _ => exact answerSafe_whenever fun _ => allocTake_safe hand_safe source _ s
  | callRelease source _ => exact answerSafe_whenever fun _ => allocTake_safe hand_safe source _ s
  | callStatus source _ => exact answerSafe_whenever fun _ => allocTake_safe hand_safe source _ s
  | planAccept source _ _ => exact answerSafe_whenever fun _ => allocTake_safe hand_safe source _ s
  | planLate source _ _ => exact answerSafe_whenever fun _ => allocTake_safe hand_safe source _ s
  | planComeRound n => exact answerSafe_whenever fun _ => comeRoundNow_safe hand_safe n s
  | planUnanswered n => exact answerSafe_whenever fun _ => resendPlan_safe hand_safe n s
  | absentQuarantineExpiry n => exact answerSafe_whenever fun _ => endQuarantine_safe hand_safe n s
  | callSupervisionExpiry n q =>
    exact answerSafe_whenever fun _ => superviseCall_safe hand_safe n q s
  | setVoiceCapacity h c => exact request_safe h _ _ fun s => setCapacity_safe hand_safe c s
  | tollRunClose os => exact answerSafe_whenever fun _ => closeRun_safe os s
  | pendingTimeout => exact (Safe.foldl expirePending_safe _ s).next
  | tollAnswer via lane txn v b => exact (takeTollAnswer_safe via _ v b s).next
  | settled via lane txn => exact (takeSettled_safe via _ s).next
  | answerBlockSent => exact answerBlockSent_safe s
  | journalDrain => exact answerSafe_whenever fun _ => drainLoop_safe _ s
  | inflightTimeout => exact inflightTimeout_safe s
  | secondsClock => exact answerSafe_whenever fun _ => .journal_count rfl le_rfl
  | tollFrameIgnored _ _ _ => exact answerSafe_whenever fun _ => ignoreToll_safe s
  | sampleTick => exact answerSafe_whenever fun _ => sampleTick_safe s
  | pulseEdge k => exact answerSafe_whenever fun _ => pulseEdge_safe k s
  | channelSample c => exact answerSafe_whenever fun _ => takeSample_safe c s
  | wxFrameIgnored =>
    exact (Safe.wx (s := s) (f := fun x => { x with wxIgnored := bump x.wxIgnored })
      (fun h => { h with }) fun _ => ⟨rfl, rfl, rfl⟩).next
  | alarmFrameIgnored =>
    exact (Safe.cond_count (s := s) (f := fun u => { u with alarmIgnored := bump u.alarmIgnored })
      rfl rfl rfl rfl).next
  | setCentreFlag h k v => exact request_safe h _ _ fun s => setCentreFlag_safe k v s
  | setMask h v => exact request_safe h _ _ fun s => setMask_safe v s
  | eventAck h cs => exact request_safe h _ _ fun s => eventAck_safe cs s
  | signShow h page priority lifetime =>
    exact request_safe h _ _ fun s => signShow_safe page priority lifetime s
  | signClear h => exact requestDone_safe h _ _ fun s => (centreClear_kept s.cond.copy _).safe
  | signFrame source p => exact (takeSignFrame_safe source p s).next
  | signTest h page => exact request_safe h _ _ fun s => signTest_safe page s
  | testTimerExpiry => exact testTimerExpiryRow_safe s
  | centreLifetimeExpiry => exact centreLifetimeExpiryRow_safe s
  | holdExpiry => exact holdExpiryRow_safe s
  | signResend h => exact requestDone_safe h _ _ fun s => modSign_safe s resendSign_kept
  | commandSent =>
    exact answerSafe_whenever fun _ => modSign_safe s fun _ => ⟨rfl, rfl, rfl, rfl, rfl, rfl⟩
  | signAccept page => exact signAccept_safe s page
  | signReject reason => exact signReject_safe s reason
  | signStatusAnswer page faults => exact signStatusAnswer_safe s page faults
  | signBadAnswer os => exact answerSafe_whenever fun _ => badAnswer_safe s
  | answerTimeout => exact answerSafe_whenever fun _ => answerExpires_safe s
  | pollTimerExpiry =>
    exact answerSafe_whenever fun _ => modSign_safe s fun _ => ⟨rfl, rfl, rfl, rfl, rfl, rfl⟩
  | mgmtFrameReceived origin f => exact (takeMgmtFrame_safe origin f s).next
  | read h table first count => exact readRow_safe s h table first count
  | write h table first count raw =>
    exact request_safe h _ _ fun s => writeTable_safe h table first count raw s
  | writeRingSettings h first es => exact request_safe h _ _ fun s => writeRing_safe first es s
  | writeTollSettings h first es => exact request_safe h _ _ fun s => writeToll_safe first es s
  | writeClassTable h first es => exact request_safe h _ _ fun s => writeClasses_safe first es s
  | writeChannelTable h first es => exact request_safe h _ _ fun s => writeChannels_safe first es s
  | writeEventTable h first es => exact request_safe h _ _ fun s => writeEvents_safe first es s
  | writeSignRules h first es => exact request_safe h _ _ fun s => writeRules_safe first es s
  | writePageTable h first es => exact request_safe h _ _ fun s => writePages_safe first es s
  | writePageStore h first bs => exact request_safe h _ _ fun s => writeBlocks_safe first bs s
  | writeSignSettings h first es => exact request_safe h _ _ fun s => writeSign_safe first es s
  | restart h => exact (execRequest_safe h _ _ (restartNode_safe h _ _)).next
  | forceWrap h side => exact request_safe h _ _ fun s => forceWrap_safe side s
  | clearForce h => exact requestDone_safe h _ _ clearForce_safe
  | denyAdd h tag => exact request_safe h _ _ fun s => denyAdd_safe tag s
  | denyRemove h tag => exact requestDone_safe h _ _ fun s => denyRemove_safe s tag
  | denyClear h => exact requestDone_safe h _ _ denyClear_safe
  | acceptAdd h service channel => exact request_safe h _ _ fun s => acceptAdd_safe service channel s
  | acceptRemove h service channel =>
    exact requestDone_safe h _ _ fun s => acceptRemove_safe s service channel
  | fieldLock h => exact requestDone_safe h _ _ fun s => agent_count s
  | fieldUnlock h => exact requestDone_safe h _ _ fun s => agent_count s
  | callBack h position => exact request_safe h _ _ fun s => callBack_safe position s
  | wxRead h => exact requestData_safe h _ _ wxReadResult
  | countsClear h => exact requestDone_safe h _ _ clearCounts_safe
  | identify h => exact requestData_safe h _ _ identifyResult
  | assignAddresses h first => exact (execRequest_safe h _ _ (assignAddresses_safe h first _)).next
  | addressClear h => exact (execRequest_safe h _ _ (addressClear_safe h _)).next
  | addressOffer a fits =>
    refine answerSafe_whenever fun hc => ?_
    obtain ⟨hw, ha⟩ := Bool.and_eq_true_iff.1 hc
    exact takeOffer_safe fits hw ha
  | addressTaken a serial => exact (addressTaken_safe s a).next
  | addressOfferReturned => exact answerSafe_whenever fun _ => offerReturned_safe s
  | walkTimeout => exact answerSafe_whenever fun _ => walkExpires_safe s
  | allocFrameIgnored source p => exact allocFrameIgnoredRow_safe s source p

/-! ## Every step -/

/-- The front row leaves the queue. -/
theorem popped_safe {c : Instr} {rest : List Instr} {s : State} (h : s.pending = c :: rest) :
    Safe s (s.withPending rest) :=
  ⟨⟨id, fun ⟨l, sw, a, t, j, w, k, g, r⟩ => ⟨l, sw, a, t, j, w, k, g, r⟩,
    fun ⟨h1, h2, h3, h4, h5⟩ => ⟨h1, h2, h3, h4, fun p o ho => h5 p o (h ▸ List.mem_cons_of_mem c ho)⟩⟩,
    fun _ => id⟩

/-- Every step keeps reachability with its causes, the bounds, whole cycles, and the copy. -/
theorem step_keeps {s t : State} (h : step s = .next t) :
    Steady s t ∧ (CopyFollows s → CopyFollows t) := by
  unfold step at h
  split at h
  · cases h
    exact ⟨(tick_safe s).toSteady, (tick_safe s).copyFollows⟩
  · next c rest hq =>
    have hpop := popped_safe hq
    by_cases hp : ∃ strap, c = .powerOn strap
    · obtain ⟨strap, rfl⟩ := hp
      cases h
      obtain ⟨h1, h2⟩ := powerOn_safe strap (s.withPending rest)
      exact ⟨hpop.toSteady.trans h1, h2 ∘ hpop.copyFollows⟩
    · have hx := hpop.if.trans (exec_safe c _ (fun strap e => hp ⟨strap, e⟩) t h)
      refine ⟨⟨hx.reach, hx.bounds, fun hs => hx.cycles (fun p o e => ?_) hs⟩, fun hs => ?_⟩
      · obtain ⟨_, _, _, _, hc⟩ := hs
        exact hc p o (by rw [hq, e]; exact List.mem_cons_self)
      · exact copyBut_nil.1 (hx.copy [] (copyBut_nil.2 hs))

/-- Settles O54, by the inversion of a step into its command or the passing of a period. -/
theorem stepKeepsReach : Obligations.StepKeepsReach := fun _ _ hs h => (step_keeps h).1.reach hs

/-- Settles O55: each change of a flag is handed to the copy before its command ends. -/
theorem stepKeepsCopy : Obligations.StepKeepsCopy := fun _ _ hs h => (step_keeps h).2 hs

/-- Settles O56, block by block (`bounds_iff`). -/
theorem stepKeepsRanges : Obligations.StepKeepsRanges := fun s t hs h =>
  (bounds_iff t).1 ((step_keeps h).1.bounds ((bounds_iff s).2 hs))

/-- Settles O59: what is sent is encoded whole, what is held was received whole. -/
theorem stepKeepsCycles : Obligations.StepKeepsCycles := fun _ _ hs h => (step_keeps h).1.cycles hs

end Sys2Proof.Machine
end

section
/-! PROOFS. Ring cycles and line ports, part 11: the commands of the line ports, forced wraps, and the
rows out of turn. -/

namespace Sys2Proof.Machine

set_option Elab.async false

/-! ## A port and its changes -/

theorem otherPort_ne (p : Port) : p ≠ otherPort p := by cases p <;> decide

theorem portAt_changePort (p : Port) (f : LinePort → LinePort) (s : State) :
    portAt (changePort p f s) p = refreshPort (forcedOn s p) (f (portAt s p)) := by
  rw [changePort, portAt_modPort, if_pos rfl]

theorem portAt_modPort_other (p : Port) (f : LinePort → LinePort) (s : State) :
    portAt (modPort p f s) (otherPort p) = portAt s (otherPort p) := by
  rw [portAt_modPort, if_neg (otherPort_ne p)]

theorem portAt_changePort_other (p : Port) (f : LinePort → LinePort) (s : State) :
    portAt (changePort p f s) (otherPort p) = portAt s (otherPort p) := portAt_modPort_other ..

theorem changePort_wtrSeconds (p : Port) (f : LinePort → LinePort) (s : State) :
    (changePort p f s).line.wtrSeconds = s.line.wtrSeconds := modPort_wtrSeconds ..

/-- A port on which a condition of R6 holds is faulted by the first. -/
theorem refreshPort_of_reason {p : LinePort} {r : PortReason} (forced : Bool)
    (h : faultReason p = some r) : refreshPort forced p = faultPort r p := by
  rw [refreshPort, h]

theorem refreshPort_of_none {p : LinePort} (forced : Bool) (h : faultReason p = none) :
    refreshPort forced p = unfaultPort forced p := by
  rw [refreshPort, h]

/-- What a port command leaves: the port as given, the other port, WTR, every other part. -/
theorem changePort_frame {s : State} (p : Port) (f : LinePort → LinePort) {x : LinePort}
    (hx : refreshPort (forcedOn s p) (f (portAt s p)) = x) :
    portAt (changePort p f s) p = x ∧
      portAt (changePort p f s) (otherPort p) = portAt s (otherPort p) ∧
      (changePort p f s).line.wtrSeconds = s.line.wtrSeconds ∧
      Changes [.line] s (changePort p f s) :=
  ⟨(portAt_changePort p f s).trans hx, portAt_changePort_other p f s, changePort_wtrSeconds p f s,
    changePort_changes p f s⟩

theorem modPort_frame {s : State} (p : Port) (f : LinePort → LinePort) {x : LinePort}
    (hx : f (portAt s p) = x) :
    portAt (modPort p f s) p = x ∧
      portAt (modPort p f s) (otherPort p) = portAt s (otherPort p) ∧
      (modPort p f s).line.wtrSeconds = s.line.wtrSeconds ∧ Changes [.line] s (modPort p f s) :=
  ⟨by rw [portAt_modPort, if_pos rfl, hx], portAt_modPort_other p f s, modPort_wtrSeconds p f s,
    modPort_changes p f s⟩

/-- A row whose condition holds takes its effect. -/
theorem whenever_pos {c : Bool} {f : State → State} {s : State} (h : c = true) :
    whenever c f s = .next (f s) := by rw [h, whenever_true]

/-- A row whose condition does not hold leaves the state as it is (log 1). -/
theorem whenever_neg {c : Bool} {f : State → State} {s : State} (h : c = false) :
    whenever c f s = .next s := by rw [h, whenever_false]

/-! ## The rows -/

theorem faultReason_loseSignal (p : LinePort) : faultReason (loseSignal p) = some .loss := rfl

/-- A port that enters ALIGNING from DOWN with its runs short is not faulted (R6). -/
theorem faultReason_regained {p : LinePort} (n : Half) (he : p.errorRun < 3)
    (hf : p.farEndRun < 3) : faultReason (regainSignal n p) = none := by
  have h1 : headersHolds (regainSignal n p) = false := decide_eq_false (by
    show ¬ 3 ≤ p.errorRun; omega)
  have h2 : farEndHolds (regainSignal n p) = false := decide_eq_false (by
    show ¬ 3 ≤ p.farEndRun; omega)
  unfold faultReason
  rw [h1, h2]
  rfl

theorem signalLost_port (p : Port) (s : State) : ∃ t, exec (.signalLost p) s = .next t ∧
    portAt t p = faultPort .loss (loseSignal (portAt s p)) ∧
    portAt t (otherPort p) = portAt s (otherPort p) ∧ t.line.wtrSeconds = s.line.wtrSeconds ∧
    Changes [.line] s t :=
  ⟨_, rfl, changePort_frame p loseSignal (refreshPort_of_reason _ (faultReason_loseSignal _))⟩

/-- An UNHEALTHY port that is not UP stays so, its timer and count stopped (R10, R11). -/
theorem unfaultPort_of_not_up {p : LinePort} (forced : Bool) (hh : p.health = .unhealthy)
    (hr : p.rx ≠ .up) : unfaultPort forced p =
      { takeBack p with
        faulted := false, wtrTimer := none, bringUp := 0 } := by
  obtain ⟨⟩ := p
  dsimp only at hh hr
  subst hh
  cases forced <;> simp [unfaultPort, takeBack, hr]

theorem signalRegained_port (p : Port) (s : State) (hr : (portAt s p).rx = .down)
    (he : (portAt s p).errorRun < 3) (hf : (portAt s p).farEndRun < 3)
    (hh : (portAt s p).health = .unhealthy) : ∃ t, exec (.signalRegained p) s = .next t ∧
      portAt t p = { takeBack (regainSignal s.timer.number (portAt s p)) with
        faulted := false, wtrTimer := none, bringUp := 0 } ∧
      portAt t (otherPort p) = portAt s (otherPort p) ∧ t.line.wtrSeconds = s.line.wtrSeconds ∧
      Changes [.line] s t :=
  ⟨_, whenever_pos (by rw [hr]; rfl), changePort_frame p (regainSignal s.timer.number)
    ((refreshPort_of_none _ (faultReason_regained _ he hf)).trans
      (unfaultPort_of_not_up _ hh nofun))⟩

theorem alignFaultCount_port (p : Port) (s : State) (hr : (portAt s p).rx = .aligning)
    (hf : (portAt s p).entryFrom = .fromDown) (hc : 5 ≤ (portAt s p).alignCycles) :
    ∃ t, exec (.alignFaultCount p) s = .next t ∧ portAt t p = faultPort .align (portAt s p) ∧
      portAt t (otherPort p) = portAt s (otherPort p) ∧ t.line.wtrSeconds = s.line.wtrSeconds ∧
      Changes [.line] s t := by
  have hd : alignFaultDue (portAt s p) = true := by simp [alignFaultDue, hr, hf, hc]
  have ha : faultReason (portAt s p) = some .align := by
    simp [faultReason, lossHolds, alignHolds, hr, hc]
  exact ⟨_, whenever_pos hd, changePort_frame p id (refreshPort_of_reason _ ha)⟩

/-- Settles O5, command by command: what it makes of its port is an equation of `refreshPort`. -/
theorem portCommands : Obligations.PortCommands := by
  refine ⟨signalLost_port, fun p s => ⟨signalRegained_port p s, fun hr => ?_,
    alignFaultCount_port p s⟩, fun p s => ⟨fun hk => ?_, fun hc hh he hf hb => ?_⟩⟩
  · exact ⟨_, whenever_pos (by rw [hr]; rfl),
      modPort_frame p (fun x => { x with markerFound := true }) rfl⟩
  · have hd : wtrDue s p = true := by
      obtain ⟨k, hk, hle⟩ := hk
      simp [wtrDue, Option.mem_def.1 hk, hle]
    exact ⟨_, whenever_pos hd, modPort_frame p recoverPort rfl⟩
  · have hd : bringUpDue s p = true := by
      simp [bringUpDue, bringingUp, forcedOn, hc, hh, he, hf, hb]
    exact ⟨_, whenever_pos hd, modPort_frame p completeBringUp rfl⟩

/-! ## Rows out of turn (log 1) -/

theorem requestDue_none {p : Position} (h : p.resend = none) : requestDue p = false := by
  unfold requestDue
  rw [h]
  cases requestPeriod p.call <;> rfl

section Idle
variable {s : State} {q : Fin 4} {n : Fin 240}

theorem centreHeaderAgeExpiry_idle (h : s.isMaster = true) :
    execCentreHeaderAgeExpiry s = .next s := whenever_neg (by simp [h])

theorem duplicateMasterClear_idle (h : s.timer.duplicate = none) :
    execDuplicateMasterClear s = .next s := whenever_neg (by simp [duplicateDue, h])

theorem offHook_idle (h : hookDue s q .off = false) : execOffHook q s = .next s := whenever_neg h

theorem onHook_idle (h : hookDue s q .on = false) : execOnHook q s = .next s := whenever_neg h

theorem priorityPress_idle (h : s.pins.buttons.get q = false) :
    execPriorityPress q s = .next s := whenever_neg (by simp [pressDue, h])

theorem callReleaseResend_idle (h : (posAt s q).resend = none) :
    execCallReleaseResend q s = .next s := whenever_neg (by simp [releaseDue, h])

theorem ringTimeout_idle (h : (posAt s q).call ≠ .ringing) : execRingTimeout q s = .next s :=
  whenever_neg (by simp [ringDue, h])

theorem statusTimerExpiry_idle (h : s.phone.statusTimer < 1000) :
    execStatusTimerExpiry s = .next s := whenever_neg (by simpa using h)

theorem planComeRound_idle (h : s.isMaster = false) : execPlanComeRound n s = .next s :=
  whenever_neg (by simp [comeRoundDue, h])

theorem journalDrain_idle (h : reachable s = false ∨ s.period.restarted = true) :
    execJournalDrain s = .next s := whenever_neg (by rcases h with h | h <;> simp [h])

theorem secondsClock_idle (h : s.journal.subSecond < 1000) : execSecondsClock s = .next s :=
  whenever_neg (by simpa using h)

theorem sampleTick_idle (h : s.wx.clock < 100) : execSampleTick s = .next s :=
  whenever_neg (by simpa using h)

theorem pulseEdge_idle (h : pulseDue s q = false) : execPulseEdge q s = .next s := whenever_neg h

theorem testTimerExpiry_idle (h : s.sign.test = none) : execTestTimerExpiry s = .next s :=
  whenever_neg (by simp [h])

theorem centreLifetimeExpiry_idle (h : s.sign.centre = none) :
    execCentreLifetimeExpiry s = .next s := whenever_neg (by simp [h])

theorem holdExpiry_idle (h : s.sign.hold = none) : execHoldExpiry s = .next s :=
  whenever_neg (by simp [holdDue, h])

theorem commandSent_idle (h : s.sign.sender.state ≠ .sending) : execCommandSent s = .next s :=
  whenever_neg (by simp [commandDone, h])

theorem pollTimerExpiry_idle (h : s.sign.sender.state ≠ .idle) : execPollTimerExpiry s = .next s :=
  whenever_neg (by simp [pollDue, h])

theorem pendingTimeout_idle (h : s.toll.pendingTable = []) : execPendingTimeout s = .next s := by
  unfold execPendingTimeout pendingExpired
  rw [h]
  rfl

theorem answerBlockSent_idle (h : s.toll.answers = []) : execAnswerBlockSent s = .next s := by
  unfold execAnswerBlockSent
  rw [h]

end Idle

/-- Settles O4: each row is `whenever` its condition. -/
theorem rowsOutOfTurn : Obligations.RowsOutOfTurn := by
  intro p q n c s
  exact ⟨fun h => whenever_neg (by simpa using h), fun h => ⟨whenever_neg (by simpa using h),
    whenever_neg (by simp [alignFaultDue, h])⟩, fun h => whenever_neg h, fun h => whenever_neg h,
    fun h => ⟨whenever_neg (by simp [recirculationDue, h]), whenever_neg (by simp [unprocessed, h]),
      whenever_neg (by simp [unprocessed, h]), whenever_neg (by simp [unprocessed, h]),
      centreHeaderAgeExpiry_idle h⟩,
    duplicateMasterClear_idle,
    fun h => ⟨whenever_neg h, planComeRound_idle h, whenever_neg (by simp [h]),
      whenever_neg (by simp [quarantineDue, h]), whenever_neg (by simp [supervisionDue, h]),
      whenever_neg h⟩,
    offHook_idle, onHook_idle, priorityPress_idle,
    fun h => ⟨whenever_neg (requestDue_none h), callReleaseResend_idle h⟩, ringTimeout_idle,
    statusTimerExpiry_idle, fun h => whenever_neg (by simp [switchDue, h]),
    fun h => whenever_neg (by simp [h]), pendingTimeout_idle, answerBlockSent_idle,
    journalDrain_idle, secondsClock_idle, sampleTick_idle, pulseEdge_idle,
    fun h => whenever_neg (by simp [channelDue, h]), testTimerExpiry_idle,
    centreLifetimeExpiry_idle, holdExpiry_idle, commandSent_idle,
    fun h => whenever_neg (by simp [answerDue, h]), pollTimerExpiry_idle,
    fun h => whenever_neg (by simp [walkDue, h])⟩

end Sys2Proof.Machine
end

section
/-! PROOFS. Ring cycles and line ports, part 12: how a request is executed, and the forced wraps. -/

namespace Sys2Proof.Machine

set_option Elab.async false

/-! ## The execution of a request (R198 to R200) -/

/-- A permitted request passes the checks of R200. -/
theorem agentCheck_permitted {h : Head} {code : Nat} {s : State} (hp : Permitted h code s) :
    agentCheck h code s = none := by
  obtain ⟨hf, hm⟩ := hp
  unfold agentCheck
  rw [if_neg fun ⟨ho, hl⟩ => Bool.false_ne_true ((hf ho).1.symm.trans hl),
    if_neg fun ⟨ho, hc⟩ => Bool.false_ne_true (hc.symm.trans (hf ho).2),
    if_neg fun ⟨hc, hn⟩ => Bool.false_ne_true (hn.symm.trans (hm hc))]

/-- Counting a request leaves its checks as they are. -/
theorem permitted_countRequest {h : Head} {code : Nat} {s : State} (hp : Permitted h code s) :
    Permitted h code (countRequest h s) := hp

/-- A permitted request is counted, executed by its own rule, and leaves the queue (R198). -/
theorem execRequest_permitted {h : Head} {code : Nat} {s : State} (hp : Permitted h code s)
    (me : Instr) (body : State → State) :
    execRequest h code me body s =
      (body (countRequest h s)).modAgent fun a =>
        { a with requests := leaveQueue me a.requests } := by
  unfold execRequest
  simp only [agentCheck_permitted (permitted_countRequest hp)]

theorem execRequest_answering {h : Head} {code : Nat} {s : State} (hp : Permitted h code s)
    (me : Instr) {run : State → State × Result} {r : Result} {u : State}
    (hr : run (countRequest h s) = (u, r)) :
    execRequest h code me (answering h run) s = answered me h r u := by
  rw [execRequest_permitted hp, answering, hr]
  rfl

theorem execRequest_answeringDone {h : Head} {code : Nat} {s : State} (hp : Permitted h code s)
    (me : Instr) (f : State → State) :
    execRequest h code me (answeringDone h f) s = answered me h (.done 0) (f (countRequest h s)) := by
  rw [execRequest_permitted hp, answeringDone]
  rfl

theorem answered_changes (me : Instr) (h : Head) (r : Result) (s : State) :
    Changes respondParts s (answered me h r s) :=
  (respond_changes h r s).trans ((modAgent_changes _ _).mono (by decide))

theorem countRequest_changes (h : Head) (s : State) : Changes [.agent] s (countRequest h s) :=
  modAgent_changes _ s

/-! ## A port under a request, and freed (R9, R35, R36) -/

/-- What a forced port keeps: its receive side; a bring-up of the cycle is taken back (log 49). -/
theorem refreshPort_forced_fields (p : LinePort) :
    (refreshPort true p).bringUp = 0 ∧ (refreshPort true p).rx = p.rx ∧
      (refreshPort true p).everHealthy = (p.everHealthy && p.completed.isNone) ∧
      (refreshPort true p).portRecoveries = p.completed.getD p.portRecoveries := by
  unfold refreshPort
  split
  · exact ⟨rfl, rfl, rfl, rfl⟩
  · unfold unfaultPort
    simp [takeBack]

theorem portClear_iff {p : LinePort} : portClear p = true ↔ faultReason p = none ∧ p.rx = .up := by
  simp [portClear, Option.isNone_iff_eq_none]

/-- A port freed while it is UNHEALTHY and its timer stands: the timer starts where the port is clear
and has been HEALTHY (R10, R36). -/
theorem refreshPort_freed {p : LinePort} (hh : p.health = .unhealthy) (ht : p.wtrTimer = none) :
    (refreshPort false p).health = .unhealthy ∧
      (refreshPort false p).wtrTimer =
        if portClear p && p.everHealthy then some 0 else none := by
  rcases hr : faultReason p with _ | r
  · rw [refreshPort_of_none _ hr]
    by_cases hu : p.rx = .up
    · have hc : portClear p = true := portClear_iff.2 ⟨hr, hu⟩
      cases he : p.everHealthy <;> simp [unfaultPort, hh, hu, he, ht, hc]
    · have hc : portClear p = false := by
        rw [← Bool.not_eq_true, portClear_iff]
        exact fun h => hu h.2
      rw [unfaultPort_of_not_up _ hh hu, hc]
      exact ⟨hh, rfl⟩
  · have hc : portClear p = false := by
      rw [← Bool.not_eq_true, portClear_iff, hr]
      exact fun h => by cases h.1
    rw [refreshPort_of_reason _ hr, hc]
    exact ⟨rfl, rfl⟩

/-- Both a new request and its end move the line and the protection part alone. -/
theorem forced_changes (x : Port) (f : Option Port) (s : State) :
    Changes [.line, .prot] s (changePort x id (setForced f s)) :=
  ((modProt_changes _ s).mono (by decide)).trans ((changePort_changes x id _).mono (by decide))

theorem changePort_prot (x : Port) (f : LinePort → LinePort) (s : State) :
    (changePort x f s).prot = s.prot := changePort_changes x f s .prot (by decide)

/-- With every part but the line and protection as in `s`, a state is `s` with those two. -/
theorem eq_of_changes_line_prot {s u : State} (h : Changes [.line, .prot] s u) :
    u = { s with line := u.line, prot := u.prot } := by
  have h1 := h .pending (by decide)
  have h2 := h .choices (by decide)
  have h3 := h .openIndex (by decide)
  have h4 := h .isMaster (by decide)
  have h5 := h .pins (by decide)
  have h6 := h .timer (by decide)
  have h7 := h .sw (by decide)
  have h8 := h .phone (by decide)
  have h9 := h .alloc (by decide)
  have h10 := h .lanes (by decide)
  have h11 := h .toll (by decide)
  have h12 := h .journal (by decide)
  have h13 := h .wx (by decide)
  have h14 := h .cond (by decide)
  have h15 := h .sign (by decide)
  have h16 := h .agent (by decide)
  have h17 := h .out (by decide)
  have h18 := h .period (by decide)
  cases u
  cases s
  simp only [SamePart] at h1 h2 h3 h4 h5 h6 h7 h8 h9 h10 h11 h12 h13 h14 h15 h16 h17 h18
  subst_vars
  rfl

/-- The request of a forced wrap or its end, answered DONE: what the whole command changes. -/
theorem forced_answered (me : Instr) (h : Head) (x : Port) (f : Option Port) (s : State) :
    let u := changePort x id (setForced f (countRequest h s))
    let t := answered me h (.done 0) u
    t.line = u.line ∧ t.prot = { s.prot with forced := f } ∧
      t = answered me h (.done 0) { countRequest h s with line := t.line, prot := t.prot } ∧
      Changes ([.line, .prot] ++ respondParts) s t := by
  intro u t
  have hu : Changes [.line, .prot] (countRequest h s) u := forced_changes x f _
  have ht : Changes respondParts u t := answered_changes me h (.done 0) u
  have hl : t.line = u.line := ht .line (by decide)
  have hp : t.prot = u.prot := ht .prot (by decide)
  refine ⟨hl, hp.trans (changePort_prot x id _), ?_, ?_⟩
  · rw [hl, hp, ← eq_of_changes_line_prot hu]
  · exact (((countRequest_changes h s).mono (by decide)).trans (hu.mono (by decide))).trans
      (ht.mono (by decide))

/-- Settles O12, row by row of R35 and R36. -/
theorem forceAndClear : Obligations.ForceAndClear := by
  intro h side x s
  have hc : ∀ p, portAt (countRequest h s) p = portAt s p := portAt_congr rfl
  refine ⟨fun hp hx => ?_, fun hp hx hf => ?_, fun hp hx hf hh => ?_, fun hp hx hf hh => ?_,
    fun hp hf => ?_, fun hp hf hheld => ?_⟩
  · refine congrArg Host.Outcome.next (execRequest_answering hp _ ?_)
    rw [forceWrap, hx]
  · refine congrArg Host.Outcome.next (execRequest_answering hp _ ?_)
    rw [forceWrap, hx]
    exact if_pos hf
  · refine congrArg Host.Outcome.next (execRequest_answering hp _ ?_)
    rw [forceWrap, hx]
    exact (if_neg hf).trans (if_pos ((congrArg LinePort.health (hc _)).trans hh))
  · have hrun : forceWrap side (countRequest h s) =
        (changePort x id (setForced (some x) (countRequest h s)), .done 0) := by
      rw [forceWrap, hx]
      refine (if_neg hf).trans (if_neg ?_)
      rw [hc, hh]
      exact nofun
    obtain ⟨hl, hpr, heq, hch⟩ := forced_answered (.forceWrap h side) h x (some x) s
    have hx1 := portAt_changePort x id (setForced (some x) (countRequest h s))
    have hx2 := portAt_changePort_other x id (setForced (some x) (countRequest h s))
    rw [show forcedOn (setForced (some x) (countRequest h s)) x = true by
      simp [forcedOn, setForced]] at hx1
    obtain ⟨hb, hrx, hev, hrec⟩ := refreshPort_forced_fields (portAt s x)
    obtain ⟨hun, hti⟩ := refreshPort_forced (portAt s x)
    have hx1' := (portAt_congr hl x).trans hx1
    have hx2' := (portAt_congr hl (otherPort x)).trans hx2
    change _ = refreshPort true (portAt s x) at hx1'
    change _ = portAt s (otherPort x) at hx2'
    refine ⟨_, congrArg Host.Outcome.next (execRequest_answering hp _ hrun),
      (congrArg Protection.forced hpr), ?_⟩
    rw [hx1', hx2']
    refine ⟨hun, hti, hb, hrx, hev, hrec, rfl, ?_, hpr, heq, hch⟩
    rw [← hx1'] at hun
    rw [← hx2'] at hh
    cases x
    · exact congrArg₂ protectionOf hun hh
    · exact congrArg₂ protectionOf hh hun
  · refine congrArg Host.Outcome.next ((execRequest_answeringDone hp _ _).trans ?_)
    rw [clearForce, show (countRequest h s).prot.forced = none from hf]
  · have hrun : clearForce (countRequest h s) =
        changePort x id (setForced none (countRequest h s)) := by
      rw [clearForce, show (countRequest h s).prot.forced = some x from hf]
      rfl
    obtain ⟨hl, hpr, heq, hch⟩ := forced_answered (.clearForce h) h x none s
    have hx1 := (portAt_congr hl x).trans
      (portAt_changePort x id (setForced none (countRequest h s)))
    have hx2 := (portAt_congr hl (otherPort x)).trans
      (portAt_changePort_other x id (setForced none (countRequest h s)))
    change _ = refreshPort false (portAt s x) at hx1
    change _ = portAt s (otherPort x) at hx2
    obtain ⟨hhe, hti⟩ := hheld x hf
    obtain ⟨hun, htimer⟩ := refreshPort_freed hhe hti
    refine ⟨_, congrArg Host.Outcome.next ((execRequest_answeringDone hp _ _).trans
      (congrArg (answered _ h (.done 0)) hrun)), congrArg Protection.forced hpr, ?_⟩
    rw [hx1, hx2]
    exact ⟨hun, htimer, rfl, hpr, heq, hch⟩

end Sys2Proof.Machine
end

section
/-! PROOFS. Ring cycles and line ports, part 13: power-on, and the standing relations at reset. -/

namespace Sys2Proof.Machine

set_option Elab.async false

theorem tab_map_fill {α β : Type} (n : Nat) (f : α → β) (x : α) :
    (Tab.fill n x).map f = .fill n (f x) := Tab.ext_get fun i => by simp

/-- After power-on every count is 0 (R23 to R210). -/
theorem clearCounts_poweredOn (cs : List Instr) (choices openIndex : Nat) (pins : Pins) :
    clearCounts (State.poweredOn cs choices openIndex pins) =
      State.poweredOn cs choices openIndex pins := by
  have hw : clearWxCounts .reset = .reset := by
    unfold clearWxCounts
    rw [show WeatherSampler.reset.analog = .fill 12 { code := 0, conversions := 0 } from rfl,
      tab_map_fill]
    rfl
  have h : clearCounts (State.poweredOn cs choices openIndex pins) =
      (State.poweredOn cs choices openIndex pins).modWx clearWxCounts := rfl
  rw [h]
  show { State.poweredOn cs choices openIndex pins with wx := clearWxCounts .reset } = _
  rw [hw]
  rfl

/-- Settles O3, item by item of the power-on tables. -/
theorem powerOn : Obligations.PowerOn := by
  intro strap s
  refine ⟨_, rfl, rfl, rfl, clearCounts_poweredOn _ _ _ _, fun p => ?_, rfl, rfl, rfl, rfl, rfl, rfl,
    rfl, rfl, rfl, rfl, rfl, rfl, rfl, rfl, fun q => ?_, rfl, rfl, rfl, rfl, rfl, fun q => ?_, rfl,
    rfl, rfl, rfl, rfl, fun k => Tab.get_fill _ k, rfl, rfl, rfl, fun n => ?_,
    fun k => Tab.get_fill _ k, rfl, rfl, rfl, fun k => Tab.get_fill _ k, rfl, rfl, rfl, rfl, rfl, rfl,
    fun k => ?_, fun k => ?_, fun c => Tab.get_fill _ c, fun c => Tab.get_fill _ c, fun c => ?_,
    fun c => get_defaultEvents c, rfl, rfl, fun k => ?_, rfl, rfl, fun k => Tab.get_fill _ k, rfl, rfl,
    rfl, rfl, rfl, rfl, rfl, rfl, rfl, fun k => Tab.get_fill _ k, rfl, rfl, rfl, rfl, rfl⟩
  · cases p <;> exact ⟨rfl, rfl, rfl, rfl, rfl, rfl, rfl, rfl, rfl, rfl, rfl, rfl⟩
  · cases q <;> rfl
  · exact Tab.get_fill _ q
  · have h : (State.poweredOn s.pending s.choices s.openIndex
        { s.pins with strap }).alloc.plans.get n = PlanRecord.reset := Tab.get_fill _ n
    rw [h]
    exact ⟨rfl, rfl, rfl, rfl, rfl, rfl, rfl⟩
  · exact congrArg AnalogBuffer.code (Tab.get_fill _ k)
  · have h := Tab.get_fill (PulseInput.mk false 0 0) k
    exact ⟨congrArg PulseInput.level h, congrArg PulseInput.count h⟩
  · exact poweredOn_copy_get _ _ _ _ c
  · exact congrArg SignRule.enabled (Tab.get_fill _ k)

/-! ## The standing relations at reset -/

theorem currentU_reset : currentU .reset ≤ 0 := currentU_le_of fun k hk => by
  rw [show SlotAllocator.reset.slots = .fill 48 .free from rfl, Tab.get_fill] at hk
  cases hk

/-- At power-on the cycle is settled (R22, R24, R33, R130). -/
theorem cycleSettled_reset : CycleSettled State.reset := by
  refine ⟨rfl, rfl, fun c hc => ?_⟩
  rw [show State.reset = State.poweredOn [] 0 0 Pins.rest from rfl, poweredOn_copy_get]
  simp only [List.mem_cons, List.not_mem_nil, or_false] at hc
  rcases hc with rfl | rfl | rfl | rfl <;> rfl

/-- Settles O2, from what power-on leaves. -/
theorem relationsAtReset : Obligations.RelationsAtReset := by
  obtain ⟨hf, hr, ha⟩ := poweredOn_reach [] 0 0 Pins.rest
  obtain ⟨hset, hwx, hq, hl, he, hst, hpg⟩ :=
    (bounds_iff State.reset).1 (poweredOn_bounds [] 0 0 Pins.rest)
  obtain ⟨hc, hsp, hh⟩ := poweredOn_cycles [] 0 0 Pins.rest
    (fun q => congrArg List.length (Tab.get_fill silence q)) fun _ _ h => by cases h
  exact ⟨⟨rfl, hf⟩, hr, ha, hst, hpg, hq, hl, he, hset, List.nodup_nil, fun _ => rfl,
    ⟨fun _ h => (by cases h), List.nodup_nil⟩, poweredOn_copy [] 0 0 Pins.rest, cycleSettled_reset,
    hc, hsp, hh, hwx, ⟨currentU_reset.trans (Nat.zero_le _), by decide⟩, List.nodup_nil, .nil,
    List.nodup_nil, fun _ h => by cases h⟩

end Sys2Proof.Machine
end

section
/-! PROOFS. Ring cycles and line ports, part 14: what a sent cycle holds and where it stands, and the
cycles of a slave without a processed header. -/

namespace Sys2Proof.Machine

set_option Elab.async false

/-! ## The parts of an encoded cycle (R1) -/

theorem encodeCycle_take_header (h : CycleHeader) (voice : List Octets) (fs : List Frame) :
    (encodeCycle h voice fs).take 10 = encodeCycleHeader h := by
  rw [encodeCycle, List.append_assoc, List.take_left' (length_encodeCycleHeader h)]

theorem encodeCycle_drop_header (h : CycleHeader) (voice : List Octets) (fs : List Frame) :
    (encodeCycle h voice fs).drop 10 = voice.flatten ++ encodeZone (zoneSize h.u.toNat) fs := by
  rw [encodeCycle, List.append_assoc, List.drop_left' (length_encodeCycleHeader h)]

section Whole
variable {h : CycleHeader} {voice : List Octets} (fs : List Frame)

/-- The voice region as it was encoded. -/
theorem encodeCycle_voice (hv : VoiceWhole h.u.toNat voice) :
    ((encodeCycle h voice fs).drop 10).take (8 * h.u.toNat) = voice.flatten := by
  rw [encodeCycle_drop_header, List.take_left' hv.flatten]

/-- The packet zone as it was encoded. -/
theorem encodeCycle_zone (hv : VoiceWhole h.u.toNat voice) :
    (encodeCycle h voice fs).drop (10 + 8 * h.u.toNat) = encodeZone (zoneSize h.u.toNat) fs := by
  rw [← List.drop_drop, encodeCycle_drop_header, List.drop_left' hv.flatten]

/-- A slot among whole slots laid end to end. -/
theorem flatten_slot {vs : List Octets} (hv : ∀ v ∈ vs, v.length = 8) {k : Nat}
    (hk : k < vs.length) (rest : Octets) : ((vs.flatten ++ rest).drop (8 * k)).take 8 = vs[k] := by
  induction vs generalizing k with
  | nil => cases hk
  | cons v vs ih =>
    have h8 : v.length = 8 := hv v List.mem_cons_self
    cases k with
    | zero =>
      rw [List.flatten_cons, List.append_assoc, Nat.mul_zero, List.drop_zero, List.take_left' h8]
      rfl
    | succ k =>
      rw [List.flatten_cons, List.append_assoc, Nat.mul_succ, Nat.add_comm, ← List.drop_drop,
        List.drop_left' h8]
      exact ih (fun w hw => hv w (List.mem_cons_of_mem v hw)) (Nat.lt_of_succ_lt_succ hk)

/-- Slot `k` of the voice region as it was encoded. -/
theorem encodeCycle_slot (hv : VoiceWhole h.u.toNat voice) {k : Nat} (hk : k < voice.length) :
    ((encodeCycle h voice fs).drop (10 + 8 * k)).take 8 = voice[k] := by
  rw [← List.drop_drop, encodeCycle_drop_header, flatten_slot hv.2 hk]

end Whole

theorem silentVoice_flatten (u : Nat) : (silentVoice u).flatten = List.replicate (8 * u) 0xD5 := by
  unfold silentVoice silence
  rw [List.flatten_replicate_replicate, Nat.mul_comm]

theorem encodeZone_nil (z : Nat) : encodeZone z [] = List.replicate z 0xF5 := rfl

/-! ## Where a cycle stands once it is sent -/

theorem portAt_transmit (p : Port) (cycle : Octets) (s : State) (q : Port) :
    portAt (transmit p cycle s) q = portAt s q :=
  portAt_congr (transmit_changes p cycle s .line (by decide)) q

/-- A transmission leaves what the phones hear and what leaves by the uplink and the toll port. -/
theorem transmit_out (p : Port) (cycle : Octets) (s : State) :
    (transmit p cycle s).out.speech = s.out.speech ∧
      (transmit p cycle s).out.uplink = s.out.uplink ∧
      (transmit p cycle s).out.tollLine = s.out.tollLine := by cases p <;> exact ⟨rfl, rfl, rfl⟩

@[simp] theorem sentAt_sendCycle (p q : Port) (h : CycleHeader) (voice : List Octets)
    (fs : List Frame) (s : State) : sentAt (sendCycle p h voice fs s) q =
      if p = q then encodeCycle { h with farEnd := rxFaulted (portAt s p) } voice fs
      else sentAt s q := sentAt_transmit p q _ s

theorem sendCycle_changes (p : Port) (h : CycleHeader) (voice : List Octets) (fs : List Frame)
    (s : State) : Changes sendParts s (sendCycle p h voice fs s) := transmit_changes p _ s

theorem sendCycle_speech (p : Port) (h : CycleHeader) (voice : List Octets) (fs : List Frame)
    (s : State) : (sendCycle p h voice fs s).out.speech = s.out.speech := (transmit_out p _ s).1

theorem fillAdds_changes (left : Nat) (s : State) : Changes [.sw] s (fillAdds left s).1 := by
  rw [fillAdds_eq]
  exact modSw_changes (fun _ => (filled left s).sw) s

/-- The frames of a filled cycle: the transit, then the adds that the octets left allow (R56). -/
def filledFrames (h : CycleHeader) (transit : List Frame) (s : State) : List Frame :=
  transit ++ (fillAdds (zoneSize h.u.toNat - extents transit) s).2

theorem sendFilled_eq (p : Port) (h : CycleHeader) (voice : List Octets) (transit : List Frame)
    (s : State) : sendFilled p h voice transit s =
      sendCycle p h voice (filledFrames h transit s)
        (fillAdds (zoneSize h.u.toNat - extents transit) s).1 := rfl

@[simp] theorem sentAt_sendFilled (p q : Port) (h : CycleHeader) (voice : List Octets)
    (transit : List Frame) (s : State) : sentAt (sendFilled p h voice transit s) q =
      if p = q then encodeCycle { h with farEnd := rxFaulted (portAt s p) } voice
        (filledFrames h transit s)
      else sentAt s q := by
  have hf := fillAdds_changes (zoneSize h.u.toNat - extents transit) s
  rw [sendFilled_eq, sentAt_sendCycle, portAt_congr (hf .line (by decide))]
  have ho := hf .out (by decide)
  change _ = s.out at ho
  cases q <;> simp only [sentAt, ho]

theorem sendFilled_changes (p : Port) (h : CycleHeader) (voice : List Octets)
    (transit : List Frame) (s : State) :
    Changes [.sw, .out, .period] s (sendFilled p h voice transit s) := by
  rw [sendFilled_eq]
  exact ((fillAdds_changes _ s).mono (by decide)).trans
    ((sendCycle_changes _ _ _ _ _).mono (by decide))

theorem sendFilled_speech (p : Port) (h : CycleHeader) (voice : List Octets)
    (transit : List Frame) (s : State) :
    (sendFilled p h voice transit s).out.speech = s.out.speech := by
  have ho := fillAdds_changes (zoneSize h.u.toNat - extents transit) s .out (by decide)
  rw [sendFilled_eq, sendCycle_speech, show (fillAdds _ s).1.out = s.out from ho]

/-- The switch a filled cycle leaves is that of its fill. -/
theorem sendFilled_sw (p : Port) (h : CycleHeader) (voice : List Octets)
    (transit : List Frame) (s : State) : (sendFilled p h voice transit s).sw =
      (fillAdds (zoneSize h.u.toNat - extents transit) s).1.sw := by
  rw [sendFilled_eq]
  exact sendCycle_changes _ _ _ _ _ .sw (by decide)

@[simp] theorem sentAt_sendEmpty (p q : Port) (h : CycleHeader) (s : State) :
    sentAt (sendEmpty p h s) q =
      if p = q then encodeCycle { h with farEnd := rxFaulted (portAt s p) }
        (silentVoice h.u.toNat) []
      else sentAt s q := sentAt_sendCycle ..

/-- The header with which a sent cycle begins. -/
theorem sentAt_sendFilled_header (p : Port) (h : CycleHeader) (voice : List Octets)
    (transit : List Frame) (s : State) : (sentAt (sendFilled p h voice transit s) p).take 10 =
      encodeCycleHeader { h with farEnd := rxFaulted (portAt s p) } := by
  rw [sentAt_sendFilled, if_pos rfl, encodeCycle_take_header]

theorem sentAt_sendEmpty_header (p : Port) (h : CycleHeader) (s : State) :
    (sentAt (sendEmpty p h s) p).take 10 =
      encodeCycleHeader { h with farEnd := rxFaulted (portAt s p) } := by
  rw [sentAt_sendEmpty, if_pos rfl, encodeCycle_take_header]

/-! ## The cycles of a slave of its own (R14, R15, R25, R29) -/

/-- A port sends the header, or keeps a cycle of the period that it has already (R25). -/
def Carries (s t : State) (p : Port) (header : Octets) : Prop :=
  if isFed s p then sentAt t p = sentAt s p else (sentAt t p).take 10 = header

theorem isFed_congr {s t : State} (h : t.period = s.period) (p : Port) : isFed t p = isFed s p := by
  cases p <;> simp [isFed, h]

theorem isFed_transmit_other (p : Port) (cycle : Octets) (s : State) :
    isFed (transmit p cycle s) (otherPort p) = isFed s (otherPort p) := by cases p <;> rfl

theorem sendOwn_changes (s : State) : Changes [.sw, .out, .period] s (sendOwn s) := by
  unfold sendOwn
  simp only
  split
  · exact unlessFed_changes _ (fun s => sendFilled_changes _ _ _ _ s) s
  · have he : ∀ p s', Changes [.sw, .out, .period] s'
        (unlessFed p (sendEmpty p (ownHeader s)) s') := fun p s' =>
      (unlessFed_changes p (fun t => sendCycle_changes _ _ _ _ t) s').mono (by decide)
    exact (he _ s).trans (he _ _)

theorem unlessFed_speech {p : Port} {send : State → State}
    (h : ∀ s, (send s).out.speech = s.out.speech) (s : State) :
    (unlessFed p send s).out.speech = s.out.speech := by
  unfold unlessFed
  split
  · rfl
  · exact h s

theorem sendOwn_speech (s : State) : (sendOwn s).out.speech = s.out.speech := by
  unfold sendOwn
  simp only
  split
  · exact unlessFed_speech (fun s => sendFilled_speech _ _ _ _ s) s
  · exact (unlessFed_speech (fun s => sendCycle_speech _ _ _ _ s) _).trans
      (unlessFed_speech (fun s => sendCycle_speech _ _ _ _ s) s)

section Unfed
variable (h : CycleHeader) (s : State)

/-- A port's own empty cycle, unless it has one of the period (R2, R25). -/
def feedEmpty (p : Port) (h : CycleHeader) (s : State) : State := unlessFed p (sendEmpty p h) s

theorem feedEmpty_carries (p : Port) : Carries s (feedEmpty p h s) p
    (encodeCycleHeader { h with farEnd := rxFaulted (portAt s p) }) := by
  unfold Carries feedEmpty unlessFed
  split
  · rfl
  · exact sentAt_sendEmpty_header p h s

/-- The other port stands: what it has sent, whether it is fed. -/
theorem feedEmpty_other (p : Port) :
    sentAt (feedEmpty p h s) (otherPort p) = sentAt s (otherPort p) ∧
      isFed (feedEmpty p h s) (otherPort p) = isFed s (otherPort p) := by
  unfold feedEmpty unlessFed
  split
  · exact ⟨rfl, rfl⟩
  · exact ⟨(sentAt_sendEmpty ..).trans (if_neg (otherPort_ne p)), isFed_transmit_other p _ s⟩

theorem feedEmpty_changes (p : Port) : Changes sendParts s (feedEmpty p h s) :=
  unlessFed_changes p (fun t => sendCycle_changes _ _ _ _ t) s

end Unfed

theorem sendOwn_isolated {s : State} (h : s.prot.state = .isolated) :
    sendOwn s = feedEmpty .e (ownHeader s) (feedEmpty .w (ownHeader s) s) := by
  unfold sendOwn
  rw [h]
  rfl

/-- The P output of a slave without a processed header, and in ISOLATED either port, carries the
node's own header (R14, R15, R29). -/
theorem sendOwn_carries {s : State} {p : Port}
    (h : outPort s.prot.state = some p ∨ s.prot.state = .isolated) :
    Carries s (sendOwn s) p
      (encodeCycleHeader { ownHeader s with farEnd := rxFaulted (portAt s p) }) := by
  rcases h with h | h
  · unfold Carries sendOwn
    rw [h]
    dsimp only [unlessFed]
    split
    · rfl
    · exact sentAt_sendFilled_header _ _ _ _ _
  · rw [sendOwn_isolated h]
    obtain ⟨hs, hf⟩ := feedEmpty_other (ownHeader s) s .w
    have hc := feedEmpty_changes (ownHeader s) s .w
    cases p
    · have hw := feedEmpty_carries (ownHeader s) s .w
      unfold Carries at hw ⊢
      rwa [show sentAt (feedEmpty .e (ownHeader s) (feedEmpty .w (ownHeader s) s)) .w = _ from
        (feedEmpty_other (ownHeader s) (feedEmpty .w (ownHeader s) s) .e).1]
    · have he := feedEmpty_carries (ownHeader s) (feedEmpty .w (ownHeader s) s) .e
      unfold Carries at he ⊢
      rwa [show isFed (feedEmpty .w (ownHeader s) s) .e = _ from hf,
        show sentAt (feedEmpty .w (ownHeader s) s) .e = _ from hs,
        portAt_congr (hc .line (by decide))] at he

/-! ## MISSING_CYCLE, HOLDOVER_ENTRY, HOLDOVER_CYCLE -/

/-- The state from which a slave sends its own cycle: the timer moved on, silence to the phones. -/
def ownState (f : CycleTimer → CycleTimer) (s : State) : State :=
  silencePhones (nextNumber (s.modTimer f))

theorem ownState_changes (f : CycleTimer → CycleTimer) (s : State) :
    Changes [.timer, .out] s (ownState f s) :=
  (((modTimer_changes _ s).mono (by decide)).trans ((modTimer_changes _ _).mono (by decide))).trans
    ((modOut_changes _ _).mono (by decide))

/-- What a slave's own cycle leaves: the timer moved on, silence heard, the header on its ports. -/
theorem ownCycle_sent (f : CycleTimer → CycleTimer) (s : State) :
    let t := sendOwn (ownState f s)
    t.timer = { f s.timer with number := (f s.timer).number + 1 } ∧
      t.out.speech = .fill 4 silence ∧ Changes [.timer, .sw, .out, .period] s t ∧
      ∀ p, outPort s.prot.state = some p ∨ s.prot.state = .isolated →
        Carries s t p
          (encodeCycleHeader { ownHeader (ownState f s) with farEnd := rxFaulted (portAt s p) }) := by
  have h1 := ownState_changes f s
  have h2 := sendOwn_changes (ownState f s)
  refine ⟨h2 .timer (by decide), sendOwn_speech _,
    (h1.mono (by decide)).trans (h2.mono (by decide)), fun p hp => ?_⟩
  have hc := sendOwn_carries (s := ownState f s) (p := p) hp
  unfold Carries at hc ⊢
  rw [isFed_congr (h1 .period (by decide)), portAt_congr (h1 .line (by decide))] at hc
  have hs : sentAt (ownState f s) p = sentAt s p := by cases p <;> rfl
  rwa [hs] at hc

theorem ownHeader_holdover {s : State} (h : s.timer.holdover = true) :
    ownHeader s = holdoverHeader s := by rw [ownHeader, if_pos h]

theorem ownHeader_regenerated {s : State} (h : s.timer.holdover = false) :
    ownHeader s = regeneratedHeader s := by rw [ownHeader, h]; rfl

theorem holdoverCycleOf_eq (s : State) : holdoverCycleOf s = sendOwn (ownState id s) := rfl

theorem enterHoldoverNow_eq (s : State) : enterHoldoverNow s =
    sendOwn (ownState (fun t => enterHoldover { t with missing := 4 }) s) := rfl

theorem missCycle_enters {s : State} (h : 3 ≤ s.timer.missing) : missCycle s = enterHoldoverNow s :=
  if_pos h

theorem missCycle_counts {s : State} (h : s.timer.missing < 3) : missCycle s =
    sendOwn (ownState (fun t => { t with missing := t.missing + 1 }) s) :=
  if_neg (Nat.not_le.2 h)

/-- Settles O8: the three rows send the node's own cycle from a timer moved on. -/
theorem missingHoldover : Obligations.MissingHoldover := by
  intro s hm hp sends own regenerated holding carries enters
  have hu : unprocessed s = true := by simp [unprocessed, hm, hp]
  have henters : enters (enterHoldoverNow s) := by
    obtain ⟨ht, hsp, hch, hc⟩ := ownCycle_sent (fun t => enterHoldover { t with missing := 4 }) s
    rw [enterHoldoverNow_eq]
    rw [ownHeader_holdover (s := ownState _ s) rfl] at hc
    dsimp only [enters, own]
    rw [ht]
    exact ⟨⟨rfl, rfl, hsp, hch⟩, rfl, rfl, rfl, rfl, hc⟩
  refine ⟨fun hh hlt => ?_, fun hh hle => ⟨⟨_, whenever_pos (by rw [hu, hh]; rfl), ?_⟩,
    _, whenever_pos (by rw [hu, hh, decide_eq_true hle]; rfl), henters⟩, fun hh => ?_⟩
  · obtain ⟨ht, hsp, hch, hc⟩ := ownCycle_sent (fun t => { t with missing := t.missing + 1 }) s
    rw [ownHeader_regenerated (s := ownState (fun t => { t with missing := t.missing + 1 }) s) hh]
      at hc
    refine ⟨_, whenever_pos (by rw [hu, hh]; rfl), ?_⟩
    rw [missCycle_counts hlt]
    dsimp only [own]
    rw [ht]
    exact ⟨⟨rfl, rfl, hsp, hch⟩, rfl, hh, rfl, hc⟩
  · rw [missCycle_enters hle]
    exact henters
  · obtain ⟨ht, hsp, hch, hc⟩ := ownCycle_sent id s
    rw [ownHeader_holdover (s := ownState id s) hh] at hc
    refine ⟨_, whenever_pos (by rw [hu, hh]; rfl), ?_⟩
    rw [holdoverCycleOf_eq]
    dsimp only [own]
    rw [ht]
    exact ⟨⟨rfl, rfl, hsp, hch⟩, hh, rfl, hc⟩

end Sys2Proof.Machine
end

section
/-! PROOFS. Ring cycles and line ports, part 15: the address walk and ADDRESS_CLEAR. -/

namespace Sys2Proof.Machine

set_option Elab.async false

/-! ## A frame that its queue admits (R52, R53) -/

/-- A queue that has room takes a completed frame at its tail. -/
theorem offerOwn_queued {q : QueueName} {f : Frame} {s : State}
    (ha : s.agent.address.isSome = true) (hi : isIsolated s = false)
    (hb : budgeted q = true → extent f ≤ s.sw.budget)
    (hc : (queueFrames s.sw q).length < capacityOf q) :
    offerOwn q f s = (s.modSw (setQueue q (queueFrames s.sw q ++ [f])), .queued) := by
  have hn : ¬ (budgeted q && decide (s.sw.budget < extent f)) = true := by
    simpa using fun h => hb h
  unfold offerOwn offerFrame
  rw [ha, hi, if_neg (by decide), if_neg (by decide), if_neg hn, if_neg (Nat.not_le.2 hc)]
  rfl

theorem offerOwn_mgmt {f : Frame} {s : State} (ha : s.agent.address.isSome = true)
    (hi : isIsolated s = false) (hb : extent f ≤ s.sw.budget) (hc : s.sw.mgmt.length < 8) :
    (offerOwn .mgmt f s).1.sw.mgmt = s.sw.mgmt ++ [f] := by
  rw [offerOwn_queued (q := .mgmt) ha hi (fun _ => hb) hc]
  rfl

/-! ## The walk on the master (R206, R208) -/

/-- An offer moves the walk, the queue and the free values alone. -/
theorem makeOffer_changes (a : Octet) (s : State) :
    Changes [.agent, .sw, .openIndex] s (makeOffer a s) :=
  (((modAgent_changes _ s).mono (by decide)).trans ((spendOpen_changes _).mono (by decide))).trans
    ((offerOwn_changes _ _ _).mono (by decide))

theorem makeOffer_agent (a : Octet) (s : State) :
    (makeOffer a s).agent =
      { s.agent with walk := { s.agent.walk with onOffer := a, timer := some 0 } } := rfl

theorem makeOffer_offerMade {a : Octet} {s : State} (ha : s.agent.address.isSome = true) :
    OfferMade s (makeOffer a s) a := by
  intro hi hc hb
  refine ⟨_, offerOwn_mgmt ha hi hb hc, rfl, ?_, rfl, rfl, rfl, rfl, rfl, rfl⟩
  obtain ⟨b, hs⟩ := Option.isSome_iff_exists.1 ha
  show s.agent.address = some (s.agent.address.getD _)
  rw [hs]
  rfl

theorem startWalk_changes (h : Head) (a : Octet) (s : State) :
    Changes [.agent, .sw, .openIndex] s (startWalk h a s) :=
  ((modAgent_changes _ s).mono (by decide)).trans (makeOffer_changes a _)

/-- ADDRESS_TAKEN out of turn is ignored. -/
theorem takeTaken_idle {a : Octet} {s : State}
    (h : s.agent.walk.running = false ∨ a ≠ s.agent.walk.onOffer) :
    takeTaken a s = ignoreMgmt s := by
  refine if_neg fun ⟨hr, ho⟩ => ?_
  rcases h with hn | hn
  · exact Bool.false_ne_true (hn.symm.trans hr)
  · exact hn ho

/-- The address on offer has been taken: it counts. -/
def countGiven (s : State) : State :=
  s.modAgent fun g => { g with walk := { g.walk with given := g.walk.given + 1 } }

theorem takeTaken_offered {a : Octet} {s : State} (hr : s.agent.walk.running = true)
    (ho : a = s.agent.walk.onOffer) :
    takeTaken a s =
      if a = 240 then endWalk (.refused .full (s.agent.walk.given + 1)) (countGiven s)
      else makeOffer (a + 1) (countGiven s) := if_pos ⟨hr, ho⟩

theorem execAddressTaken_master {a : Octet} {serial : BitVec 48} {s : State}
    (hm : s.isMaster = true) : exec (.addressTaken a serial) s = .next (takeTaken a s) :=
  congrArg Host.Outcome.next (if_pos hm)

theorem execAddressTaken_slave {a : Octet} {serial : BitVec 48} {s : State}
    (hm : s.isMaster = false) : exec (.addressTaken a serial) s = .next (ignoreMgmt s) :=
  congrArg Host.Outcome.next (if_neg (by rw [hm]; decide))

/-- ADDRESS_OFFER_RETURNED on the master. -/
theorem execOfferReturned_master {s : State} (hm : s.isMaster = true) :
    exec .addressOfferReturned s = .next (offerReturned s) := whenever_pos hm

/-! ### ASSIGN_ADDRESSES -/

theorem execAssign_permitted {h : Head} {first : Nat} {s : State} (hp : Permitted h 24 s) :
    exec (.assignAddresses h first) s =
      .next ((assignAddresses h first (countRequest h s)).modAgent fun a =>
        { a with requests := leaveQueue (.assignAddresses h first) a.requests }) :=
  congrArg Host.Outcome.next (execRequest_permitted hp _ _)

theorem assignAddresses_bad {h : Head} {first : Nat} {s : State}
    (hf : firstAddress first < 2 ∨ 240 < firstAddress first) :
    assignAddresses h first s = respond h (refusal .badValue) s := if_pos hf

theorem assignAddresses_legal {h : Head} {first : Nat} {s : State} (h2 : 2 ≤ firstAddress first)
    (h240 : firstAddress first ≤ 240) :
    assignAddresses h first s =
      if s.agent.walk.running then respond h (refusal .busy) s
      else startWalk h (octet (firstAddress first)) s := if_neg (by omega)

/-! ## The offer on a slave (R48, R207, R209) -/

theorem takeAddress_changes (a : Octet) (s : State) :
    Changes [.agent, .prot, .sw, .openIndex] s (takeAddress a s).1 :=
  (((modAgent_changes _ s).mono (by decide)).trans ((spendOpen_changes _).mono (by decide))).trans
    ((updateReach_changes _).mono (by decide))

theorem takeOffer_changes (a : Octet) (fits : Bool) (s : State) :
    Changes [.agent, .prot, .sw, .openIndex] s (takeOffer a fits s) :=
  .ite (takeAddress_changes a s)
    ((takeAddress_changes a s).trans ((offerOwn_changes _ _ _).mono (by decide)))

/-- With or without a place in the zone, the node's own parts move alike. -/
theorem takeOffer_own (a : Octet) (fits : Bool) (s : State) :
    (takeOffer a fits s).agent = (takeAddress a s).1.agent ∧
      (takeOffer a fits s).prot = (takeAddress a s).1.prot := by
  cases fits
  · exact ⟨rfl, rfl⟩
  · exact ⟨rfl, rfl⟩

theorem takeAddress_prot {s : State} (hm : s.isMaster = false) (a : Octet) :
    (takeAddress a s).1.prot = { s.prot with linked := decide (s.prot.age < 16) } := by
  simp [takeAddress, updateReach, State.modAgent, State.modProt, State.spendOpen, shouldBeLinked, hm]

theorem execAddressOffer_eq {a : Octet} (fits : Bool) {s : State} (hs : awaitsAddress s = true)
    (ha : offerLegal a = true) : exec (.addressOffer a fits) s = .next (takeOffer a fits s) :=
  whenever_pos (by rw [hs, ha]; rfl)

theorem offerLegal_iff {a : Octet} : offerLegal a = true ↔ 2 ≤ a.toNat ∧ a.toNat ≤ 240 := by
  simp [offerLegal]

theorem execAddressOffer_idle {a : Octet} (fits : Bool) {s : State}
    (h : awaitsAddress s = false ∨ offerLegal a = false) :
    exec (.addressOffer a fits) s = .next s :=
  whenever_neg (by rcases h with h | h <;> simp [h])

/-- An offer that comes as a MGMT frame is taken as one without room in its zone (log 35). -/
theorem execMgmtFrame_offer {a : Octet} {f : Frame} {s : State} (hs : awaitsAddress s = true)
    (hf : offerOf f = some a) :
    exec (.mgmtFrameReceived .centre f) s = exec (.addressOffer a false) s := by
  have hm : takeMgmtFrame .centre f s = if offerLegal a then takeOffer a false s else s := by
    unfold takeMgmtFrame
    rw [if_pos (by rw [hs]; rfl), hf]
  refine (congrArg Host.Outcome.next hm).trans ?_
  cases ha : offerLegal a
  · exact (execAddressOffer_idle false (.inr ha)).symm
  · exact (execAddressOffer_eq false hs ha).symm

/-! ### ADDRESS_CLEAR -/

theorem clearAddress_prot {s : State} (hm : s.isMaster = false) :
    (clearAddress s).prot = { s.prot with linked := false } := by
  simp [clearAddress, updateReach, State.modAgent, State.modProt, shouldBeLinked, hm]

theorem clearAddress_changes (s : State) : Changes [.agent, .prot] s (clearAddress s) :=
  ((modAgent_changes _ s).mono (by decide)).trans ((updateReach_changes _).mono (by decide))

/-- Settles O51: the walk's rows on the master, the offer and ADDRESS_CLEAR on a slave. -/
theorem addressWalks : Obligations.AddressWalks := by
  refine ⟨fun h first a serial s => ⟨fun hp => ?_, fun hm => ?_, fun hm => ?_, fun hr ht => ?_⟩,
    fun h a fits s => ⟨fun hm hn h2 h240 => ?_, fun f hm hn hf => ?_, fun hc => ?_, fun hp => ?_⟩⟩
  · refine ⟨fun hf => ?_, fun h2 h240 hr => ?_, fun h2 h240 hr ha => ?_⟩
    · rw [execAssign_permitted hp, assignAddresses_bad hf]
      rfl
    · rw [execAssign_permitted hp, assignAddresses_legal h2 h240,
        if_pos (show (countRequest h s).agent.walk.running = true from hr)]
      rfl
    · rw [execAssign_permitted hp, assignAddresses_legal h2 h240, if_neg (by
        rw [show (countRequest h s).agent.walk.running = false from hr]; decide)]
      refine ⟨_, rfl, rfl, ?_, rfl, rfl, ?_⟩
      · exact makeOffer_offerMade (s := (countRequest h s).modAgent fun g =>
          { g with walk := { running := true, onOffer := octet (firstAddress first), given := 0
                             timer := some 0, head := h }
                   walks := bump g.walks }) (Option.isSome_iff_exists.2 ⟨1, ha⟩)
      · exact (((countRequest_changes h s).mono (by decide)).trans (startWalk_changes h _ _)).trans
          ((modAgent_changes _ _).mono (by decide))
  · rw [execAddressTaken_master hm, execOfferReturned_master hm]
    refine ⟨fun hn => congrArg _ (takeTaken_idle hn), fun hr ho h240 => ?_,
      fun hr ho h240 ha => ?_, fun hr => ?_, fun hr => ?_⟩
    · rw [takeTaken_offered hr ho, if_pos h240]
      rfl
    · rw [takeTaken_offered hr ho, if_neg h240]
      refine ⟨_, rfl, rfl, ?_, ?_⟩
      · exact makeOffer_offerMade (s := countGiven s) (Option.isSome_iff_exists.2 ⟨1, ha⟩)
      · exact ((modAgent_changes _ s).mono (by decide)).trans (makeOffer_changes (a + 1) _)
    · exact congrArg _ (if_neg (by rw [hr]; decide))
    · exact congrArg _ (if_pos hr)
  · exact execAddressTaken_slave hm
  · obtain ⟨k, hk, hle⟩ := ht
    have hd : walkDue s = true := by
      rw [walkDue, hr, Option.mem_def.1 hk]
      exact decide_eq_true hle
    exact whenever_pos hd
  · have hs := (awaitsAddress_iff s).2 ⟨hm, hn⟩
    obtain ⟨hag, hpr⟩ := takeOffer_own a fits s
    refine ⟨_, execAddressOffer_eq fits hs (offerLegal_iff.2 ⟨h2, h240⟩), ?_, ?_,
      hpr.trans (takeAddress_prot hm a), takeOffer_changes a fits s, fun hf => ?_,
      fun hf hi hc hb => ?_⟩
    · rw [hag]
      rfl
    · rw [hag]
      rfl
    · rw [hf]
      rfl
    · rw [hf]
      have hq := offerOwn_mgmt (f := (takeAddress a s).2) (s := (takeAddress a s).1) rfl hi hb hc
      have ht : (takeOffer a false s).sw.mgmt = s.sw.mgmt ++ [(takeAddress a s).2] := hq
      rw [ht, List.getLast?_concat, List.dropLast_concat]
      exact ⟨_, rfl, rfl, rfl, rfl, rfl, rfl⟩
  · exact execMgmtFrame_offer ((awaitsAddress_iff s).2 ⟨hm, hn⟩) hf
  · refine execAddressOffer_idle fits ?_
    rw [← Bool.not_eq_true, ← Bool.not_eq_true, awaitsAddress_iff, offerLegal_iff]
    rcases hc with hc | hc | hc | hc
    · exact .inl fun ⟨hm, _⟩ => Bool.false_ne_true (hm.symm.trans hc)
    · exact .inl fun ⟨_, hn⟩ => by simp [hn] at hc
    · exact .inr (by omega)
    · exact .inr (by omega)
  · have he : exec (.addressClear h) s =
        .next ((addressClear h (countRequest h s)).modAgent fun a =>
          { a with requests := leaveQueue (.addressClear h) a.requests }) :=
      congrArg Host.Outcome.next (execRequest_permitted hp _ _)
    rw [he]
    refine ⟨fun hm => ?_, fun hm => ?_⟩
    · rw [show addressClear h (countRequest h s) = _ from if_pos hm]
      rfl
    · rw [show addressClear h (countRequest h s) = _ from if_neg (by
        rw [show (countRequest h s).isMaster = false from hm]; decide)]
      have hr : Changes respondParts s (respond h (.done 0) (countRequest h s)) :=
        ((countRequest_changes h s).mono (by decide)).trans (respond_changes h (.done 0) _)
      have hrm : (respond h (.done 0) (countRequest h s)).isMaster = false :=
        (hr .isMaster (by decide)).trans hm
      have hrp : (respond h (.done 0) (countRequest h s)).prot = s.prot := hr .prot (by decide)
      refine ⟨_, rfl, rfl, ?_, rfl, ?_⟩
      · exact (clearAddress_prot hrm).trans (by rw [hrp])
      · exact ((hr.mono (by decide)).trans ((clearAddress_changes _).mono (by decide))).trans
          ((modAgent_changes _ _).mono (by decide))

end Sys2Proof.Machine
end

section
/-! PROOFS. Ring cycles and line ports, part 16: WRITE of the tables (R202). -/

namespace Sys2Proof.Machine

set_option Elab.async false

/-! ## The validation of the entries -/

section
variable {α : Type} {lo size first k : Nat} {check fate : Nat → α → Option Reason} {r : Reason}
  {es : List α} {s : State} {store : State → State} {put : Nat → α → State → State} {ps : List Part}

/-- What becomes of an entry: its index first, then its owner's check (R202 step 3). -/
def entryFate (lo size : Nat) (check : Nat → α → Option Reason) (i : Nat) (e : α) : Option Reason :=
  if i < lo ∨ lo + size ≤ i then some .badIndex else check i e

theorem firstFailure_cons (i : Nat) (e : α) (rest : List α) :
    firstFailure lo size check i (e :: rest) =
      match entryFate lo size check i e with
      | some r => some (r, i)
      | none => firstFailure lo size check (i + 1) rest := by
  unfold entryFate
  rw [firstFailure]
  split <;> rfl

/-- The entry that fails first is the one the validation names. -/
theorem firstFailure_of_refused (h : FirstRefused (entryFate lo size check) first es k r) :
    firstFailure lo size check first es = some (r, first + k) := by
  induction es generalizing first k with
  | nil =>
    obtain ⟨⟨e, he, _⟩, _⟩ := h
    simp at he
  | cons x xs ih =>
    obtain ⟨⟨e, he, hr⟩, hbefore⟩ := h
    rw [firstFailure_cons]
    cases k with
    | zero =>
      obtain rfl : x = e := by simpa using he
      rw [Nat.add_zero] at hr ⊢
      rw [hr]
      rfl
    | succ k =>
      have h0 := hbefore 0 (by omega) x (by simp)
      rw [Nat.add_zero] at h0
      rw [h0]
      dsimp only
      rw [ih (k := k)]
      · congr 2
        omega
      · refine ⟨⟨e, by simpa using he, ?_⟩, fun j hj y hy => ?_⟩
        · rw [← hr]
          congr 1
          omega
        · rw [← hbefore (j + 1) (by omega) y (by simpa using hy)]
          congr 1
          omega

/-- A WRITE with an entry that fails stores nothing and names the entry. -/
theorem writeEntries_refused (h : FirstRefused (entryFate lo size check) first es k r) :
    writeEntries lo size first check store es s = (s, .refused r (first + k)) := by
  have hne : es.isEmpty = false := by
    obtain ⟨⟨e, he, _⟩, _⟩ := h
    cases es with
    | nil => simp at he
    | cons => rfl
  unfold writeEntries
  rw [hne, firstFailure_of_refused h]
  rfl

/-- The same for a fate that is told by other words. -/
theorem writeEntries_fails (hf : ∀ i e, fate i e = entryFate lo size check i e)
    (h : FirstRefused fate first es k r) :
    writeEntries lo size first check store es s = (s, .refused r (first + k)) :=
  writeEntries_refused ((funext fun i => funext (hf i) : fate = entryFate lo size check) ▸ h)

/-- Entries that all lie in the table and pass their owner's check pass. -/
theorem firstFailure_none (hlo : lo ≤ first) (hhi : first + es.length ≤ lo + size)
    (hc : ∀ i, ∀ e ∈ es, check i e = none) : firstFailure lo size check first es = none := by
  induction es generalizing first with
  | nil => rfl
  | cons x xs ih =>
    rw [List.length_cons] at hhi
    have hx : entryFate lo size check first x = none :=
      (if_neg (by omega)).trans (hc first x List.mem_cons_self)
    rw [firstFailure_cons, hx]
    exact ih (by omega) (by omega) fun i e he => hc i e (List.mem_cons_of_mem x he)

theorem writeEntries_stored (hne : es ≠ []) (hf : firstFailure lo size check first es = none) :
    writeEntries lo size first check store es s = (store s, .done 0) := by
  unfold writeEntries
  rw [hf, List.isEmpty_eq_false_iff.2 hne]
  rfl

/-! ## What the entries reach -/

theorem storeFrom_changes (h : ∀ i e s, Changes ps s (put i e s)) (first : Nat) (es : List α)
    (s : State) : Changes ps s (storeFrom put first es s) := by
  induction es generalizing first s with
  | nil => exact .refl _ _
  | cons e es ih => exact (h first e s).trans (ih _ _)

theorem writeEntries_changes (h : Changes ps s (store s)) :
    Changes ps s (writeEntries lo size first check store es s).1 := by
  unfold writeEntries
  split
  · exact .refl _ _
  · split
    · exact .refl _ _
    · exact h

/-- Entries stored from a number on stand at their numbers; the others stand as they were. -/
theorem storeFrom_get {β : Type} {n : Nat} {tab : State → Tab β n} {val : Nat → α → β}
    (h : ∀ i e s, tab (put i e s) = setAt (tab s) (i - lo) (val i e)) (hlo : lo ≤ first)
    (j : Fin n) :
    (tab (storeFrom put first es s)).get j =
      if j.val + lo < first then (tab s).get j
      else match es[j.val + lo - first]? with
        | none => (tab s).get j
        | some e => val (j.val + lo) e := by
  induction es generalizing first s with
  | nil => simp [storeFrom]
  | cons x xs ih =>
    rw [storeFrom, ih (by omega), h, get_setAt]
    by_cases hlt : j.val + lo < first
    · rw [if_pos (by omega), if_pos hlt, if_neg (by omega)]
    rw [if_neg hlt]
    by_cases heq : j.val + lo = first
    · rw [if_pos (by omega), if_pos (by omega), heq, Nat.sub_self]
      rfl
    · rw [if_neg (by omega), if_neg (by omega),
        show j.val + lo - first = j.val + lo - (first + 1) + 1 by omega, List.getElem?_cons_succ]

end

/-- The parts that a WRITE may reach as it stores. -/
def writeParts : List Part := [.line, .toll, .journal, .wx] ++ condParts

theorem writeByRow_changes (i : Instr) (s : State) : Changes writeParts s (writeByRow i s).1 := by
  have sign (f) (s : State) : Changes writeParts s (s.modSign f) :=
    (modSign_changes f s).mono (by decide)
  cases i with
  | writeRingSettings h first es =>
    exact writeEntries_changes (storeFrom_changes (fun _ e s =>
      ((modLine_changes _ s).mono (by decide)).trans ((modSw_changes _ _).mono (by decide))) _ _ _)
  | writeTollSettings h first es =>
    exact writeEntries_changes (storeFrom_changes (fun _ e s =>
      ((modToll_changes _ s).mono (by decide)).trans ((modJournal_changes _ _).mono (by decide)))
      _ _ _)
  | writeSignSettings h first es =>
    exact writeEntries_changes (storeFrom_changes (fun _ e s => sign _ s) _ _ _)
  | writeClassTable h first es =>
    exact writeEntries_changes (storeFrom_changes (fun i e s =>
      (modToll_changes _ s).mono (by decide)) _ _ _)
  | writeChannelTable h first es =>
    refine writeEntries_changes (storeFrom_changes (fun i e s => ?_) _ _ _)
    unfold putChannel
    split
    · exact (((modWx_changes _ s).mono (by decide)).trans ((modWx_changes _ _).mono (by decide))).trans
        ((changeConditions_changes _ _ _).mono (by decide))
    · exact .refl _ _
  | writeEventTable h first es =>
    exact writeEntries_changes (storeFrom_changes (fun i e s =>
      (modCond_changes _ s).mono (by decide)) _ _ _)
  | writeSignRules h first es =>
    exact writeEntries_changes ((storeFrom_changes (fun i e s => sign _ s) _ _ _).trans (sign _ _))
  | writePageTable h first es =>
    exact writeEntries_changes (((storeFrom_changes (fun i e s => sign _ s) _ _ _).trans
      (sign _ _)).trans (sign _ _))
  | writePageStore h first es =>
    exact writeEntries_changes (storeFrom_changes (fun i e s => sign _ s) _ _ _)
  | _ => exact .refl _ _

/-! ## WRITE of raw octets -/

/-- A WRITE of a table's entries is executed by the table's owner. -/
theorem exec_writeInstr {h : Head} {table first count n : Nat} {raw : Octets} {s : State}
    (hn : n ∈ writeEntrySize table) :
    exec (writeInstr h table first count raw) s =
      .next (execRequest h 2 (writeInstr h table first count raw)
        (answering h (writeByRow (writeInstr h table first count raw))) s) := by
  unfold writeEntrySize at hn
  split at hn
  case h_10 => cases hn
  all_goals rfl

/-- While the queue of requests is empty, what names the request is of no account. -/
theorem execRequest_unqueued {h : Head} {code : Nat} {s : State} (hp : Permitted h code s)
    (me : Instr) {body : State → State}
    (hb : (body (countRequest h s)).agent.requests = []) :
    execRequest h code me body s = body (countRequest h s) := by
  rw [execRequest_permitted hp, State.modAgent, hb]
  show { body (countRequest h s) with
    agent := { (body (countRequest h s)).agent with requests := [] } } = _
  rw [← hb]

theorem respond_requests (h : Head) (r : Result) (s : State) :
    (respond h r s).agent.requests = s.agent.requests := by
  unfold respond
  dsimp only
  split
  · rfl
  · split
    · split <;> rfl
    · rfl

theorem answeringWrite_requests (h : Head) (i : Instr) (s : State) :
    (answering h (writeByRow i) s).agent.requests = s.agent.requests :=
  (respond_requests h _ _).trans
    (congrArg Agent.requests (writeByRow_changes i s .agent (by decide)))

theorem writeTable_read {h : Head} {table first count n : Nat} {raw : Octets} {s : State}
    (hn : n ∈ writeEntrySize table) (hl : raw.length = n * count) :
    writeTable h table first count raw s = writeByRow (writeInstr h table first count raw) s := by
  unfold writeTable
  rw [Option.mem_def.1 hn]
  exact if_pos hl

/-- Raw octets that are whole entries are taken as the entries they are read as. -/
theorem exec_write_read {h : Head} {table first count n : Nat} {raw : Octets} {s : State}
    (hp : Permitted h 2 s) (hn : n ∈ writeEntrySize table) (hl : raw.length = n * count)
    (hr : s.agent.requests = []) :
    exec (.write h table first count raw) s = exec (writeInstr h table first count raw) s := by
  have hbody : answering h (writeTable h table first count raw) (countRequest h s) =
      answering h (writeByRow (writeInstr h table first count raw)) (countRequest h s) := by
    unfold answering
    rw [writeTable_read hn hl]
  have hq := (answeringWrite_requests h (writeInstr h table first count raw)
    (countRequest h s)).trans hr
  rw [exec_writeInstr hn, execRequest_unqueued hp _ hq]
  refine congrArg Host.Outcome.next ((execRequest_unqueued hp _ ?_).trans hbody)
  rw [hbody, hq]

/-! ## The checks of the tables, told as the obligation tells them -/

theorem sourceOf_isNone {n : Nat} : (sourceOf n).isNone = decide (16 < n) := by
  unfold sourceOf
  split
  · next h => simp [h]
  split
  · next h => simp; omega
  split
  · next h => simp; omega
  · simp; omega

theorem checkChannel_eq (i : Nat) (e : ChannelWrite) :
    checkChannel i e =
      if (decide (16 < e.source) || decide (1 < e.compare) || decide (1 < e.highEnable) ||
        decide (1 < e.lowEnable)) = true then some .badValue else none := by
  unfold checkChannel
  rw [sourceOf_isNone]
  simp only [decide_eq_true_eq, Bool.or_eq_true, or_assoc]

theorem checkRule_eq (i : Nat) (e : RuleWrite) :
    checkRule i e =
      if (decide (63 < e.condA) || decide (1 < e.senseA) || e.page == 0 || decide (63 < e.page) ||
        decide (1 < e.enabled) || match e.condB with
          | none => decide (1 < e.senseB) && e.senseB != 255
          | some c => decide (63 < c) || decide (1 < e.senseB)) = true then some .badValue
      else none := by
  unfold checkRule senseBRefused
  congr 1
  cases e.condB <;> simp <;> grind

theorem checkPage_eq (g : SignController) (i : Nat) (d : List Segment) :
    checkPage g i d =
      if d ≠ [] ∧ descriptorValid d = false then some .badValue
      else if (pageBeingSent g).map (·.val) = some i then some .busy else none := by
  unfold checkPage
  cases pageBeingSent g <;> simp

theorem blockBusy_eq (g : SignController) (i : Nat) :
    blockBusy g i = (pageBeingSent g).any fun p => ((descriptorOf g p).getD []).any fun s =>
      decide (s.block ≤ i ∧ i * 64 < s.block * 64 + s.length) := by
  unfold blockBusy
  cases pageBeingSent g with
  | none => rfl
  | some p =>
    simp only [Option.any_some]
    congr 1
    funext x
    simp [blockUnder]

/-! ## The obligation -/

section
variable {h : Head} {first k : Nat} {r : Reason} {s : State}

/-- A WRITE whose entries are refused, or stored, is answered so. -/
theorem write_answered {me : Instr} {run : State → State × Result} {x : Result} {u : State}
    (hp : Permitted h 2 s) (hr : run (countRequest h s) = (u, x)) :
    Host.Outcome.next (execRequest h 2 me (answering h run) s) =
      (.next (answered me h x u) : Answer) :=
  congrArg Host.Outcome.next (execRequest_answering hp me hr)

/-- The first failing entry of each table is the one its owner refuses (R202 step 3). -/
theorem write_refused {α : Type} {me : Instr} {lo size : Nat} {check fate : Nat → α → Option Reason}
    {store : State → State} {es : List α} (hp : Permitted h 2 s)
    (hf : ∀ i e, fate i e = entryFate lo size check i e) (hr : FirstRefused fate first es k r) :
    Host.Outcome.next
        (execRequest h 2 me (answering h (writeEntries lo size first check store es)) s) =
      (.next (answered me h (.refused r (first + k)) (countRequest h s)) : Answer) :=
  write_answered hp (writeEntries_fails hf hr)

/-- The page table and the page store are checked against the page being sent. -/
theorem writePages_refused {pages : List (List Segment)}
    (hr : FirstRefused (entryFate 1 63 (checkPage s.sign)) first pages k r) :
    writePages first pages (countRequest h s) = (countRequest h s, .refused r (first + k)) :=
  writeEntries_refused hr

theorem writeBlocks_refused {blocks : List Octets}
    (hr : FirstRefused (entryFate 0 512 (checkBlock s.sign)) first blocks k r) :
    writeBlocks first blocks (countRequest h s) = (countRequest h s, .refused r (first + k)) :=
  writeEntries_refused hr

/-- The class values stored move the class table alone. -/
theorem storeClasses_eq (classes : List Nat) (s : State) :
    ∃ c, storeFrom putClass first classes s = s.modToll fun t => { t with classes := c } := by
  induction classes generalizing first s with
  | nil => exact ⟨s.toll.classes, rfl⟩
  | cons v vs ih =>
    obtain ⟨c, hc⟩ := ih (first := first + 1) (putClass first v s)
    exact ⟨c, hc⟩

/-- The settings of conditions stored move the event table alone. -/
theorem storeEvents_eq (events : List (Nat × Nat)) (s : State) :
    ∃ c, storeFrom putEvent first events s = s.modCond fun u => { u with table := c } := by
  induction events generalizing first s with
  | nil => exact ⟨s.cond.table, rfl⟩
  | cons v vs ih =>
    obtain ⟨c, hc⟩ := ih (first := first + 1) (putEvent first v s)
    exact ⟨c, hc⟩

theorem writeClasses_stored {classes : List Nat} (hne : classes ≠ []) (h1 : 1 ≤ first)
    (h8 : first + classes.length ≤ 8) (hc : ∀ v ∈ classes, v ≤ 1) (s : State) :
    writeClasses first classes s = (storeFrom putClass first classes s, .done 0) :=
  writeEntries_stored hne (firstFailure_none h1 (by omega) fun i v hv =>
    if_neg (by have := hc v hv; omega))

theorem writeEvents_stored {events : List (Nat × Nat)} (hne : events ≠ [])
    (h64 : first + events.length ≤ 64) (hc : ∀ e ∈ events, e.2 ≤ 1) (s : State) :
    writeEvents first events s = (storeFrom putEvent first events s, .done 0) :=
  writeEntries_stored hne (firstFailure_none (Nat.zero_le _) (by omega) fun i e he =>
    if_neg (by have := hc e he; omega))

/-- The one entry of the settings, stored. -/
theorem settings_stored (put : Int × Int → State → State) (e : Int × Int) (s : State) :
    writeEntries 0 1 0 noCheck (storeFrom (fun _ => put) 0 [e]) [e] s = (put e s, .done 0) :=
  writeEntries_stored (by simp) rfl

/-- Two octets as a number. -/
theorem toNat_half (a b : Octet) : (half a b).toNat = a.toNat * 256 + b.toNat := by
  unfold half
  rw [BitVec.toNat_append, ← Nat.shiftLeft_add_eq_or_of_lt b.isLt, Nat.shiftLeft_eq]

/-- The octets of the ring settings are read back as their numbers. -/
theorem writeInstr_ring (h : Head) (x y : Nat) :
    writeInstr h 2 0 1 ([octet x] ++ octetsOf 2 y) =
      .writeRingSettings h 0 [(((x % 256 : Nat) : Int), ((y % 65536 : Nat) : Int))] := by
  have h1 : natAt ([octet x] ++ octetsOf 2 y) 0 = x % 256 := by
    simp [natAt, octetAt, octet]
  have h2 : nat2At ([octet x] ++ octetsOf 2 y) 1 = y % 65536 := by
    refine (toNat_half _ _).trans ?_
    simp [octetAt, octetsOf]
    omega
  rw [← h1, ← h2]
  rfl

end

/-- Settles O53, by the tables' one validation and the owners' stores. -/
theorem tableWrites : Obligations.TableWrites := by
  refine ⟨fun h first k table count r ints classes channels events rules pages blocks raw s hp => ?_,
    fun h x y first classes events k c s hp => ?_⟩
  · refine ⟨⟨write_answered hp rfl, write_answered hp rfl, write_answered hp rfl,
      write_answered hp rfl, write_answered hp rfl, write_answered hp rfl, write_answered hp rfl,
      write_answered hp rfl, write_answered hp rfl⟩, fun hr => ⟨?_, ?_, ?_⟩, fun hr => ?_, fun hr => ?_,
      fun hr => ?_, fun hr => ?_, fun hr => ?_, fun hr => ?_, fun ht => ?_, fun n hn hl => ?_,
      fun n hn hl hq => exec_write_read hp hn hl hq⟩
    · exact write_refused hp (fun _ _ => rfl) hr
    · exact write_refused hp (fun _ _ => rfl) hr
    · exact write_refused hp (fun _ _ => rfl) hr
    · refine write_refused hp (fun i v => ?_) hr
      simp only [entryFate, checkClass, decide_eq_true_eq]
    · refine write_refused hp (fun i e => ?_) hr
      rw [entryFate, checkChannel_eq]
    · refine write_refused hp (fun i e => ?_) hr
      simp only [entryFate, checkEvent, decide_eq_true_eq]
    · refine write_refused hp (fun i e => ?_) hr
      cases hb : e.condB <;> simp only [entryFate, checkRule_eq, hb]
    · refine write_answered hp (writePages_refused ?_)
      convert hr using 3 with i d
      rw [entryFate, checkPage_eq]
    · refine write_answered hp (writeBlocks_refused ?_)
      convert hr using 3 with i b
      rw [entryFate, checkBlock, blockBusy_eq]
    · refine write_answered hp ?_
      rw [writeTable, ht]
    · refine write_answered hp ?_
      rw [writeTable, Option.mem_def.1 hn]
      exact if_neg hl
  · refine ⟨write_answered hp ?_, write_answered hp (settings_stored putRing _ _),
      write_answered hp (settings_stored putToll _ _),
      write_answered hp (settings_stored putSign _ _),
      fun hne h1 h8 hc => ?_, fun hne h64 hc => ?_⟩
    · rw [writeTable_read (n := 3) rfl rfl, writeInstr_ring]
      exact settings_stored putRing _ _
    · obtain ⟨cs, hcs⟩ := storeClasses_eq (first := first) classes (countRequest h s)
      have hg := storeFrom_get (tab := fun s => s.toll.classes) (put := putClass) (lo := 1)
        (val := fun _ v => v == 1) (es := classes) (s := countRequest h s) (fun _ _ _ => rfl) h1 k
      have ha := answered_changes (.writeClassTable h first classes) h (.done 0)
        (storeFrom putClass first classes (countRequest h s))
      have htoll := ha .toll (by decide)
      refine ⟨_, write_answered hp (writeClasses_stored hne h1 h8 hc _), ?_, ?_, ?_, ?_⟩
      · rw [htoll, hcs]
        rfl
      · rw [htoll]
        refine hg.trans (if_congr Iff.rfl rfl ?_)
        cases classes[k.val + 1 - first]? <;> rfl
      · rw [htoll, hcs]
        rfl
      · exact (((countRequest_changes h s).mono (by decide)).trans
          ((storeFrom_changes (fun _ _ s => modToll_changes _ s) _ _ _).mono (by decide))).trans
          (ha.mono (by decide))
    · obtain ⟨cs, hcs⟩ := storeEvents_eq (first := first) events (countRequest h s)
      have hg := storeFrom_get (tab := fun s => s.cond.table) (put := putEvent) (lo := 0)
        (val := fun i e => { level := if 50 ≤ i ∧ i ≤ 55 then 7 else min e.1 7, fall := e.2 == 0 })
        (es := events) (s := countRequest h s) (fun _ _ _ => rfl) (Nat.zero_le first) c
      have ha := answered_changes (.writeEventTable h first events) h (.done 0)
        (storeFrom putEvent first events (countRequest h s))
      have hcond := ha .cond (by decide)
      refine ⟨_, write_answered hp (writeEvents_stored hne h64 hc _), ?_, ?_, ?_, ?_⟩
      · rw [hcond, hcs]
        rfl
      · rw [hcond]
        refine hg.trans (if_congr Iff.rfl rfl ?_)
        rw [Nat.add_zero]
        cases events[c.val - first]? <;> rfl
      · rw [hcond, hcs]
        rfl
      · exact (((countRequest_changes h s).mono (by decide)).trans
          ((storeFrom_changes (fun _ _ s => modCond_changes _ s) _ _ _).mono (by decide))).trans
          (ha.mono (by decide))

end Sys2Proof.Machine
end

section
/-! PROOFS. Ring cycles and line ports, part 17: what a message of call signalling leaves of the
Phone Interface: the active bank. -/

namespace Sys2Proof.Machine

set_option Elab.async false

/-! ## The active bank stands until it is switched or cleared (R77, R87) -/

/-- A hand-over that leaves the active bank. -/
def HandKeepsBank (hand : Hand) : Prop := ∀ t m s, (hand t m s).phone.active = s.phone.active

theorem foldl_bank {α : Type} {f : State → α → State}
    (h : ∀ s x, (f s x).phone.active = s.phone.active) (xs : List α) (s : State) :
    (xs.foldl f s).phone.active = s.phone.active := by
  induction xs generalizing s with
  | nil => rfl
  | cons x xs ih => exact (ih _).trans (h s x)

theorem ite_bank {c : Prop} [Decidable c] {s t u : State} (ht : t.phone.active = s.phone.active)
    (hu : u.phone.active = s.phone.active) : (if c then t else u).phone.active = s.phone.active := by
  split
  · exact ht
  · exact hu

theorem talkIfHeld_bank (q : Fin 4) (s : State) :
    (talkIfHeld q s).phone.active = s.phone.active := by
  unfold talkIfHeld
  exact ite_bank rfl rfl

theorem renewStatus_bank (n : Fin 240) (q : Fin 4) (s : State) :
    (renewStatus n q s).phone.active = s.phone.active := by
  unfold renewStatus
  exact ite_bank rfl rfl

theorem markPresent_bank (o : Octet) (s : State) :
    (markPresent o s).phone.active = s.phone.active := by
  unfold markPresent
  split <;> rfl

section
variable {hand : Hand} (hh : HandKeepsBank hand)
include hh

theorem sendVsig_bank (t : Target) (dest : Octet) (m : VsigMsg) (s : State) :
    (sendVsig hand t dest m s).phone.active = s.phone.active := by
  unfold sendVsig
  split
  · exact hh _ _ _
  · rfl

theorem enterRequesting_bank (q : Fin 4) (s : State) :
    (enterRequesting hand q s).phone.active = s.phone.active := by
  refine (talkIfHeld_bank q _).trans ?_
  exact sendVsig_bank hh _ _ _ _

theorem offHookIdle_bank (q : Fin 4) (s : State) :
    (offHookIdle hand q s).phone.active = s.phone.active := ite_bank (enterRequesting_bank hh q s) rfl

theorem endClearing_bank (q : Fin 4) (s : State) :
    (endClearing hand q s).phone.active = s.phone.active :=
  ite_bank (offHookIdle_bank hh q _) rfl

theorem examinePosition_bank (q : Fin 4) (s : State) :
    (examinePosition hand q s).phone.active = s.phone.active := by
  unfold examinePosition
  dsimp only
  split
  · exact ite_bank rfl rfl
  · exact ite_bank rfl rfl
  · exact ite_bank rfl rfl
  · exact ite_bank (endClearing_bank hh q s) rfl
  · rfl

theorem answerPlan_bank (late : Bool) (v : Octet) (s : State) :
    (answerPlan hand late v s).phone.active = s.phone.active := sendVsig_bank hh _ _ _ _

theorem takePlanUpdate_bank (via : Via) (source v : Octet) (c : Half) (slots : Octets) (s : State) :
    (takePlanUpdate hand via source v c slots s).phone.active = s.phone.active := by
  unfold takePlanUpdate
  split
  · rfl
  split
  · rfl
  split
  · rfl
  split
  · exact answerPlan_bank hh _ _ _
  split
  · split
    · exact answerPlan_bank hh _ _ _
    · exact answerPlan_bank hh _ _ _
  · rfl

theorem takeCallQueued_bank (r : CallRef) (k : Nat) (s : State) :
    (takeCallQueued hand r k s).phone.active = s.phone.active := by
  unfold takeCallQueued
  split
  · rfl
  · refine ite_bank ?_ rfl
    unfold queuedAt
    split
    · rfl
    · rfl
    · rfl
    · exact enterRequesting_bank hh _ _
    · rfl

theorem phoneTake_bank (via : Via) (source : Octet) (m : VsigMsg) (s : State) :
    (phoneTake hand via source m s).phone.active = s.phone.active := by
  unfold phoneTake
  split
  · exact takeCallQueued_bank hh _ _ _
  · exact takePlanUpdate_bank hh _ _ _ _ _ _
  · rfl

theorem planCalls_bank (n : Fin 240) (s : State) :
    (planCalls hand n s).phone.active = s.phone.active := sendVsig_bank hh _ _ _ _

theorem grant_bank (n : Fin 240) (q : Fin 4) (p : Bool) (s : State) :
    (grant hand n q p s).phone.active = s.phone.active := by
  unfold grant
  split
  · exact planCalls_bank hh n _
  · rfl

theorem grantQueue_bank (k : Nat) (s : State) :
    (grantQueue hand k s).phone.active = s.phone.active := by
  induction k generalizing s with
  | zero => rfl
  | succ k ih =>
    unfold grantQueue
    split
    · rfl
    · split
      · exact (ih _).trans (grant_bank hh _ _ _ _)
      · rfl

theorem grantAfter_bank (s t : State) :
    (grantAfter hand s t).phone.active = t.phone.active :=
  ite_bank rfl (grantQueue_bank hh _ _)

theorem takeCallRequest_bank (n : Fin 240) (q : Fin 4) (p : Bool) (s : State) :
    (takeCallRequest hand n q p s).phone.active = s.phone.active := by
  unfold takeCallRequest
  split
  · exact planCalls_bank hh n _
  split
  · exact sendVsig_bank hh _ _ _ _
  split
  · exact grant_bank hh _ _ _ _
  split
  · exact sendVsig_bank hh _ _ _ _
  · exact sendVsig_bank hh _ _ _ _

theorem takePlanAccept_bank (n : Fin 240) (v : Octet) (s : State) :
    (takePlanAccept hand n v s).phone.active = s.phone.active := by
  unfold takePlanAccept
  dsimp only
  split
  · exact (grantAfter_bank hh _ _).trans (ite_bank rfl rfl)
  · exact ite_bank rfl rfl

theorem takePlanLate_bank (n : Fin 240) (v : Octet) (s : State) :
    (takePlanLate hand n v s).phone.active = s.phone.active := by
  unfold takePlanLate
  split
  · exact sendVsig_bank hh _ _ _ _
  · rfl

theorem allocMessage_bank (source : Octet) (n : Fin 240) (m : VsigMsg) (s : State) :
    (allocMessage hand source n m s).phone.active = s.phone.active := by
  unfold allocMessage
  split
  · split
    · exact takeCallRequest_bank hh _ _ _ _
    · rfl
  · split
    · exact ite_bank (planCalls_bank hh _ _) rfl
    · rfl
  · split
    · exact foldl_bank (fun s q => renewStatus_bank n q s) _ _
    · rfl
  · exact takePlanAccept_bank hh _ _ _
  · exact takePlanLate_bank hh _ _ _
  · rfl

theorem allocTake_bank (source : Octet) (m : VsigMsg) (s : State) :
    (allocTake hand source m s).phone.active = s.phone.active := by
  unfold allocTake
  split
  · rfl
  · exact (allocMessage_bank hh _ _ _ _).trans (markPresent_bank _ _)

end

theorem handDeep_bank (k : Nat) : HandKeepsBank (handDeep k) := by
  induction k with
  | zero => exact fun _ _ _ => rfl
  | succ k ih =>
    intro t m s
    cases t
    · exact phoneTake_bank ih .taken 1 m s
    · exact allocTake_bank ih 1 m s

/-- The node's own hand-over leaves the active bank. -/
theorem hand_bank : HandKeepsBank hand := handDeep_bank 64

/-- A switch of the banks that is due puts the standby bank in service (R87). -/
theorem switchIfDue_bank (s : State) :
    (switchIfDue hand s).phone.active =
      if s.phone.pendingAt.any (fun c => !ahead c s.timer.number) then s.phone.standby
      else s.phone.active := by
  have hd : switchDue s = s.phone.pendingAt.any fun c => !ahead c s.timer.number := by
    unfold switchDue
    cases s.phone.pendingAt <;> rfl
  unfold switchIfDue
  rw [← hd]
  split
  · exact foldl_bank (fun s q => examinePosition_bank hand_bank q s) _ _
  · rfl

end Sys2Proof.Machine
end

section
/-! PROOFS. Ring cycles and line ports, part 18: what the frames of a zone leave as it was (R42 to
R48). -/

namespace Sys2Proof.Machine

set_option Elab.async false

/-- The parts that the frames of a zone may reach. -/
def frameParts : List Part :=
  [.agent, .prot, .sw, .openIndex, .out, .phone, .alloc, .toll, .journal, .wx, .cond, .sign]

/-- Those of them that a frame may change freely, the address and the active bank apart. -/
def quietParts : List Part :=
  [.agent, .sw, .openIndex, .phone, .alloc, .toll, .journal, .sign]

/-- What the frames of a zone keep: the cycles sent and the speech heard, the active bank, protection
but for LINKED, which goes on following its condition, the weather tables and the conditions. -/
structure FrameKeeps (s t : State) : Prop where
  parts : Changes frameParts s t
  prot  : t.prot = { s.prot with linked := t.prot.linked }
  reach : ReachFollows s → ReachFollows t
  bank  : t.phone.active = s.phone.active
  out   : t.out = { s.out with uplink := t.out.uplink }
  wx    : t.wx = { s.wx with wxIgnored := t.wx.wxIgnored }
  cond  : t.cond = { s.cond with alarmIgnored := t.cond.alarmIgnored }

namespace FrameKeeps

theorem refl (s : State) : FrameKeeps s s := ⟨.refl _ s, rfl, id, rfl, rfl, rfl, rfl⟩

theorem trans {s t u : State} (h : FrameKeeps s t) (k : FrameKeeps t u) : FrameKeeps s u :=
  ⟨h.parts.trans k.parts, k.prot.trans (by rw [h.prot]), k.reach ∘ h.reach, k.bank.trans h.bank,
    k.out.trans (by rw [h.out]), k.wx.trans (by rw [h.wx]), k.cond.trans (by rw [h.cond])⟩

theorem ite {s t u : State} {c : Prop} [Decidable c] (h : FrameKeeps s t) (k : FrameKeeps s u) :
    FrameKeeps s (if c then t else u) := by
  split
  · exact h
  · exact k

theorem foldl {α : Type} {f : State → α → State} (hf : ∀ s a, FrameKeeps s (f s a)) (xs : List α)
    (s : State) : FrameKeeps s (xs.foldl f s) := by
  induction xs generalizing s with
  | nil => exact .refl s
  | cons x xs ih => exact (hf s x).trans (ih _)

/-- LINKED goes on following its condition where nothing of it moves. -/
theorem reach_congr {s t : State} (hm : t.isMaster = s.isMaster) (hn : t.pins = s.pins)
    (hp : t.prot = s.prot) (ha : t.agent.address = s.agent.address) :
    ReachFollows s → ReachFollows t := by
  intro h
  unfold ReachFollows shouldBeLinked at h ⊢
  rw [hm, hn, hp, ha]
  exact h

theorem quiet {s t : State} (h : Changes quietParts s t)
    (ha : t.agent.address = s.agent.address) (hb : t.phone.active = s.phone.active) :
    FrameKeeps s t := by
  have hprot : t.prot = s.prot := h .prot (by decide)
  have hout : t.out = s.out := h .out (by decide)
  have hwx : t.wx = s.wx := h .wx (by decide)
  have hcond : t.cond = s.cond := h .cond (by decide)
  exact ⟨h.mono (by decide), by rw [hprot],
    reach_congr (h .isMaster (by decide)) (h .pins (by decide)) hprot ha, hb, by rw [hout],
    by rw [hwx], by rw [hcond]⟩

theorem modSw (f : FrameSwitch → FrameSwitch) (s : State) : FrameKeeps s (s.modSw f) :=
  .quiet ((modSw_changes f s).mono (by decide)) rfl rfl

/-- Call signalling reaches neither the address nor the active bank. -/
theorem calls {s t : State} (h : Changes callParts s t) (hb : t.phone.active = s.phone.active) :
    FrameKeeps s t :=
  .quiet (h.mono (by decide)) (congrArg Agent.address (h .agent (by decide))) hb

theorem spendOpen (s : State) : FrameKeeps s s.spendOpen :=
  .quiet ((spendOpen_changes s).mono (by decide)) rfl rfl

theorem agent (f : Agent → Agent) (s : State) (h : (f s.agent).address = s.agent.address) :
    FrameKeeps s (s.modAgent f) := .quiet ((modAgent_changes f s).mono (by decide)) h rfl

theorem toll (f : TollRelay → TollRelay) (s : State) : FrameKeeps s (s.modToll f) :=
  .quiet ((modToll_changes f s).mono (by decide)) rfl rfl

theorem journal (f : TollJournal → TollJournal) (s : State) : FrameKeeps s (s.modJournal f) :=
  .quiet ((modJournal_changes f s).mono (by decide)) rfl rfl

theorem sign (f : SignController → SignController) (s : State) : FrameKeeps s (s.modSign f) :=
  .quiet ((modSign_changes f s).mono (by decide)) rfl rfl

end FrameKeeps

theorem offerOwn_frame (q : QueueName) (f : Frame) (s : State) :
    FrameKeeps s (offerOwn q f s).1 := .quiet ((offerOwn_changes q f s).mono (by decide)) rfl rfl

theorem sendUplink_frame (f : Frame) (s : State) : FrameKeeps s (sendUplink f s) :=
  ⟨(sendUplink_changes f s).mono (by decide), rfl, id, rfl, rfl, rfl, rfl⟩

/-! ## What the blocks make of a frame -/

theorem respond_frame (h : Head) (r : Result) (s : State) : FrameKeeps s (respond h r s) := by
  have hc : FrameKeeps s
      (s.modAgent fun a => { a with responsesSent := bump a.responsesSent }).spendOpen :=
    (FrameKeeps.agent _ s rfl).trans (.spendOpen _)
  unfold respond
  dsimp only
  split
  · exact hc.trans (sendUplink_frame _ _)
  · exact .ite (.ite (hc.trans (sendUplink_frame _ _)) (hc.trans (.modSw _ _)))
      (hc.trans (offerOwn_frame _ _ _))

theorem endWalk_frame (r : Result) (s : State) : FrameKeeps s (endWalk r s) :=
  (FrameKeeps.agent _ s rfl).trans (respond_frame _ _ _)

theorem ignoreMgmt_frame (s : State) : FrameKeeps s (ignoreMgmt s) := .agent _ s rfl

theorem takeTaken_frame (a : Octet) (s : State) : FrameKeeps s (takeTaken a s) := by
  have hc : FrameKeeps s (countGiven s) := .agent _ s rfl
  refine .ite (.ite (hc.trans (endWalk_frame _ _)) ?_) (ignoreMgmt_frame s)
  exact hc.trans (.quiet ((makeOffer_changes _ _).mono (by decide)) rfl rfl)

theorem offerReturned_frame (s : State) : FrameKeeps s (offerReturned s) :=
  .ite (endWalk_frame _ _) (ignoreMgmt_frame s)

theorem joinQueue_frame (origin : Origin) (f : Frame) (s : State) :
    FrameKeeps s (joinQueue origin f s) := by
  refine .agent _ s ?_
  split <;> rfl

/-- A MGMT frame of the ring: an offer on an unassigned slave does not come this way (R48). -/
theorem agentTake_frame (f : Frame) (s : State) : FrameKeeps s (agentTake .centre f s) := by
  have hn : fieldOffer .centre f s = none := rfl
  unfold agentTake
  rw [hn]
  dsimp only
  split
  · exact takeTaken_frame _ s
  · exact .ite (joinQueue_frame _ _ s) (ignoreMgmt_frame s)

theorem matchAnswer_frame (k : TollKey) (v : Verdict) (b : Quad) (s : State) :
    FrameKeeps s (matchAnswer k v b s) := by
  unfold matchAnswer
  dsimp only
  split
  · exact ((FrameKeeps.toll _ s).trans (.toll _ _)).trans (.toll _ _)
  · split
    · exact (FrameKeeps.journal _ s).trans (.toll _ _)
    · exact .toll _ s

theorem settleRecord_frame (k : TollKey) (s : State) : FrameKeeps s (settleRecord k s) := by
  unfold settleRecord
  split
  · exact (FrameKeeps.journal _ s).trans (.journal _ _)
  · exact .journal _ s

theorem takeTollFrame_frame (via : Via) (channel : Octet) (p : Octets) (s : State) :
    FrameKeeps s (takeTollFrame via channel p s) := by
  unfold takeTollFrame
  split
  · exact matchAnswer_frame _ _ _ s
  · exact settleRecord_frame _ s
  · exact .toll _ s

theorem handVsig_frame (via : Via) (f : Frame) (s : State) : FrameKeeps s (handVsig via f s) := by
  unfold handVsig
  split
  · exact .calls (allocTake_changes hand_keeps _ _ s) (allocTake_bank hand_bank _ _ s)
  · exact .calls ((modAlloc_changes _ s).mono (by decide)) rfl
  · exact .calls (phoneTake_changes hand_keeps _ _ _ s) (phoneTake_bank hand_bank _ _ _ s)
  · exact .calls ((modPhone_changes _ s).mono (by decide)) rfl

theorem takeSignFrame_frame (source : Octet) (p : Octets) (s : State) :
    FrameKeeps s (takeSignFrame source p s) := by
  unfold takeSignFrame
  split
  · split
    · exact .sign _ s
    · exact .sign _ s
  · exact .sign _ s
  · exact .sign _ s

theorem handFrame_frame (via : Via) (f : Frame) (s : State) : FrameKeeps s (handFrame via f s) := by
  unfold handFrame
  refine .ite (agentTake_frame f s) (.ite ?_ (.ite (takeTollFrame_frame _ _ _ s)
    (.ite (handVsig_frame via f s) (.ite (takeSignFrame_frame _ _ s) ?_))))
  · exact ⟨(modCond_changes _ s).mono (by decide), rfl, id, rfl, rfl, rfl, rfl⟩
  · exact ⟨(modWx_changes _ s).mono (by decide), rfl, id, rfl, rfl, rfl, rfl⟩

/-! ## What becomes of a frame of a zone (R43 to R48) -/

theorem notePresent_frame (f : Frame) (s : State) : FrameKeeps s (notePresent f s) :=
  .ite (.calls (markPresent_changes _ s) (markPresent_bank _ s)) (.refl s)

theorem stripFrame_frame (f : Frame) (s : State) : FrameKeeps s (stripFrame f s) := by
  unfold stripFrame
  exact .ite ((FrameKeeps.modSw _ s).trans (offerReturned_frame _)) (.modSw _ s)

theorem takeFrame_frame (f : Frame) (s : State) : FrameKeeps s (takeFrame f s) :=
  ((notePresent_frame f s).trans (.modSw _ _)).trans (handFrame_frame _ _ _)

theorem frameToCentre_frame (f : Frame) (s : State) : FrameKeeps s (frameToCentre f s) := by
  unfold frameToCentre
  exact .ite (((notePresent_frame f s).trans (.modSw _ _)).trans (sendUplink_frame _ _))
    ((notePresent_frame f s).trans (.modSw _ _))

theorem copyFrame_frame (f : Frame) (s : State) : FrameKeeps s (copyFrame f s) :=
  .ite (((notePresent_frame f s).trans (.modSw _ _)).trans (handFrame_frame _ _ _)) (.refl s)

theorem passFrame_frame (p : Port) (f : Frame) (s : State) : FrameKeeps s (passFrame p f s).1 := by
  unfold passFrame
  split
  · exact .modSw _ s
  · dsimp only
    exact .modSw _ s

/-- A slave that takes an address: LINKED follows (R20, R207). -/
theorem takeAddress_frame (a : Octet) (s : State) : FrameKeeps s (takeAddress a s).1 :=
  ⟨(takeAddress_changes a s).mono (by decide), rfl, fun _ => reachFollows_updateReach _, rfl, rfl,
    rfl, rfl⟩

theorem handleFrame_frame (p : Port) (f : Frame) (s : State) :
    FrameKeeps s (handleFrame p f s).1 := by
  unfold handleFrame
  split
  · unfold unassignedFrame
    split
    · exact takeAddress_frame _ s
    · exact passFrame_frame p f s
  split
  · exact stripFrame_frame f s
  split
  · exact takeFrame_frame f s
  split
  · exact frameToCentre_frame f s
  split
  · exact (copyFrame_frame f s).trans (passFrame_frame p f _)
  · exact passFrame_frame p f s

theorem handleItem_frame (p : Port) (i : ZoneItem) (s : State) :
    FrameKeeps s (handleItem p i s).1 := by
  cases i with
  | badHeader =>
    dsimp only [handleItem]
    exact .modSw _ s
  | tooLong h within =>
    dsimp only [handleItem]
    exact .modSw _ s
  | truncated => exact .modSw _ s
  | frame f =>
    unfold handleItem
    dsimp only
    split
    · exact .modSw _ s
    · exact handleFrame_frame p f s

theorem handleItems_frame (p : Port) (is : List ZoneItem) (s : State) :
    FrameKeeps s (handleItems p is s).1 := by
  induction is generalizing s with
  | nil => exact .refl s
  | cons i is ih => exact (handleItem_frame p i s).trans (ih _)

/-- The frames of a zone keep what `FrameKeeps` says. -/
theorem processZone_frame (p : Port) (zone : Octets) (s : State) :
    FrameKeeps s (processZone p zone s).1 := by
  unfold processZone placeTaken
  split
  · exact handleItems_frame p _ s
  · exact (handleItems_frame p _ s).trans (.foldl (fun s k => offerOwn_frame _ _ s) _ _)

end Sys2Proof.Machine
end

section
/-! PROOFS. Ring cycles and line ports, part 19: a received header as its port takes it, and the S
stream of RING (R4 to R9, R26, R31). -/

namespace Sys2Proof.Machine

set_option Elab.async false

/-! ## The content of a cycle leaves the ports and the steering as they are -/

/-- What steers a received cycle and the port it comes by, with the tables that only a command moves. -/
def steering (s : State) :=
  (s.line, s.prot.state, s.prot.forced, s.pending, s.isMaster, s.pins, s.choices, s.wx.table,
    s.wx.work, s.cond.table)

/-- The parts that bear on none of it. -/
def unsteeredParts : List Part :=
  [.agent, .sw, .openIndex, .out, .phone, .alloc, .toll, .journal, .sign, .timer, .period, .lanes]

theorem steering_of_changes {s t : State} (h : Changes unsteeredParts s t) :
    steering t = steering s := by
  have hl : t.line = s.line := h .line (by decide)
  have hp : t.prot = s.prot := h .prot (by decide)
  have hq : t.pending = s.pending := h .pending (by decide)
  have hm : t.isMaster = s.isMaster := h .isMaster (by decide)
  have hn : t.pins = s.pins := h .pins (by decide)
  have hc : t.choices = s.choices := h .choices (by decide)
  have hw : t.wx = s.wx := h .wx (by decide)
  have ht : t.cond = s.cond := h .cond (by decide)
  unfold steering
  rw [hl, hp, hq, hm, hn, hc, hw, ht]

theorem FrameKeeps.steering {s t : State} (h : FrameKeeps s t) :
    Machine.steering t = Machine.steering s := by
  have hl : t.line = s.line := h.parts .line (by decide)
  have hq : t.pending = s.pending := h.parts .pending (by decide)
  have hm : t.isMaster = s.isMaster := h.parts .isMaster (by decide)
  have hn : t.pins = s.pins := h.parts .pins (by decide)
  have hc : t.choices = s.choices := h.parts .choices (by decide)
  unfold Machine.steering
  rw [hl, h.prot, hq, hm, hn, hc, h.wx, h.cond]

theorem transmit_steering (p : Port) (cycle : Octets) (s : State) :
    steering (transmit p cycle s) = steering s :=
  steering_of_changes ((transmit_changes p cycle s).mono (by decide))

theorem slaveHeader_steering (h : CycleHeader) (s : State) :
    steering (slaveHeader h s) = steering s := by
  unfold slaveHeader
  refine (steering_of_changes ((switchIfDue_changes hand_keeps _).mono (by decide))).trans ?_
  split <;> rfl

/-- A slave that has taken a processed header and exchanged its speech: what the frames of the zone
then find. -/
def slaveHears (h : CycleHeader) (cycle : Octets) (s : State) : State :=
  exchangeSpeech h.u.toNat (voiceOf h.u.toNat cycle) (slaveHeader h s)

theorem slaveCycle_eq (p out : Port) (h : CycleHeader) (cycle : Octets) (s : State) :
    slaveCycle p out h cycle s =
      sendFilled out h
        (spoken (slaveHears h cycle s) h.u.toNat (voiceOf h.u.toNat cycle))
        (processZone p (zoneOf h.u.toNat cycle) (slaveHears h cycle s)).2
        (processZone p (zoneOf h.u.toNat cycle) (slaveHears h cycle s)).1 := rfl

theorem slaveCycle_steering (p out : Port) (h : CycleHeader) (cycle : Octets) (s : State) :
    steering (slaveCycle p out h cycle s) = steering s := by
  rw [slaveCycle_eq, steering_of_changes ((sendFilled_changes _ _ _ _ _).mono (by decide)),
    (processZone_frame _ _ _).steering]
  exact slaveHeader_steering h s

theorem ite_steering {c : Prop} [Decidable c] {s t u : State} (ht : steering t = steering s)
    (hu : steering u = steering s) : steering (if c then t else u) = steering s := by
  split
  · exact ht
  · exact hu

theorem offerReport_steering (s : State) : steering (offerReport s) = steering s := by
  have hs := steering_of_changes ((sendToCentre_changes .alarm svcAlarm
    (octet ((reportableEvents s).length - 62))
    (((reportableEvents s).take 62).flatMap encodeEvent) s).mono (by decide))
  exact ite_steering rfl hs

/-- An edge of a condition leaves the event table and what else steers. -/
theorem judgeEdge_steering (c : Fin 64) (rise : Bool) (s : State) :
    steering (judgeEdge c rise s) = steering s := by
  unfold judgeEdge
  refine ite_steering rfl (ite_steering rfl (ite_steering ?_ rfl))
  exact ite_steering (offerReport_steering _) rfl

theorem changeCondition_steering (judged : Bool) (c : Fin 64) (v : Bool) (s : State) :
    steering (changeCondition judged c v s) = steering s := by
  unfold changeCondition
  refine ite_steering rfl ?_
  exact ite_steering (judgeEdge_steering c v _) rfl

/-- The master that has seen a processed header and exchanged its speech: what the frames of the zone
then find. -/
def masterHears (h : CycleHeader) (cycle : Octets) (s : State) : State :=
  let s := (masterSees h s).modPeriod fun x => { x with processed := true }
  sendLanes h.u.toNat (spoken s h.u.toNat (voiceOf h.u.toNat cycle))
    (exchangeSpeech h.u.toNat (voiceOf h.u.toNat cycle) s)

theorem masterHears_changes (h : CycleHeader) (cycle : Octets) (s : State) :
    Changes [.period, .out, .lanes] (masterSees h s) (masterHears h cycle s) :=
  (((modPeriod_changes _ _).mono (by decide)).trans ((modOut_changes _ _).mono (by decide))).trans
    ((modLanes_changes _ _).mono (by decide))

theorem masterCycle_eq (p : Port) (h : CycleHeader) (cycle : Octets) (s : State) :
    masterCycle p h cycle s =
      (processZone p (zoneOf h.u.toNat cycle) (masterHears h cycle s)).1.modSw fun sw =>
        { sw with pool := sw.pool ++
            (processZone p (zoneOf h.u.toNat cycle) (masterHears h cycle s)).2 } := rfl

theorem masterSees_steering (h : CycleHeader) (s : State) :
    steering (masterSees h s) = steering s :=
  ite_steering rfl (ite_steering rfl (changeCondition_steering _ _ _ _))

theorem masterCycle_steering (p : Port) (h : CycleHeader) (cycle : Octets) (s : State) :
    steering (masterCycle p h cycle s) = steering s := by
  rw [masterCycle_eq, steering_of_changes ((modSw_changes _ _).mono (by decide)),
    (processZone_frame _ _ _).steering]
  exact (steering_of_changes ((masterHears_changes h cycle s).mono (by decide))).trans
    (masterSees_steering h s)

/-! ## The steering of a received cycle -/

theorem dropHeldS_steering (s : State) : steering (dropHeldS s) = steering s := by
  unfold dropHeldS
  split <;> rfl

theorem slaveReceive_steering (p : Port) (h : CycleHeader) (cycle : Octets) (s : State) :
    steering (slaveReceive p h cycle s) = steering s := by
  unfold slaveReceive
  split
  · exact slaveCycle_steering _ _ h cycle s
  · exact transmit_steering _ _ s
  · exact slaveCycle_steering _ _ h cycle s
  · exact slaveCycle_steering _ _ h cycle s
  · rfl

theorem masterReceive_steering (p : Port) (h : CycleHeader) (cycle : Octets) (s : State) :
    steering (masterReceive p h cycle s) = steering s := by
  unfold masterReceive
  split
  · exact masterCycle_steering _ h cycle s
  · exact dropHeldS_steering s
  · exact masterCycle_steering _ h cycle s
  · exact masterCycle_steering _ h cycle s
  · rfl

theorem receiveContent_steering (p : Port) (cycle : Octets) (s : State) :
    steering (receiveContent p cycle s) = steering s := by
  unfold receiveContent
  split
  · exact ite_steering (masterReceive_steering p _ cycle s) (slaveReceive_steering p _ cycle s)
  · rfl

/-- What `steering` holds, part by part. -/
theorem steering_parts {s t : State} (h : steering t = steering s) :
    t.line = s.line ∧ t.prot.state = s.prot.state ∧ t.prot.forced = s.prot.forced ∧
      t.pending = s.pending ∧ t.isMaster = s.isMaster ∧ t.pins = s.pins ∧ t.choices = s.choices ∧
      t.wx.table = s.wx.table ∧ t.wx.work = s.wx.work ∧ t.cond.table = s.cond.table := by
  simpa [steering] using h

/-! ## The receive side, and the faulted status that follows (R4 to R6) -/

/-- The condition of R6 that holds first. -/
theorem faultReason_eq (p : LinePort) :
    faultReason p =
      if p.rx = .down then some .loss
      else if p.rx = .aligning ∧ (p.entryFrom = .fromUp ∨ 5 ≤ p.alignCycles) then some .align
      else if 3 ≤ p.errorRun then some .headers
      else if 3 ≤ p.farEndRun then some .farEnd
      else none := by
  simp [faultReason, lossHolds, alignHolds, headersHolds, farEndHolds]

/-- The faulted status leaves the receive side. -/
theorem refreshPort_receive (forced : Bool) (p : LinePort) :
    (refreshPort forced p).rx = p.rx ∧ (refreshPort forced p).entryFrom = p.entryFrom ∧
      (refreshPort forced p).alignCycles = p.alignCycles ∧
      (refreshPort forced p).errorRun = p.errorRun ∧
      (refreshPort forced p).farEndRun = p.farEndRun ∧
      (refreshPort forced p).alignRun = p.alignRun ∧
      (refreshPort forced p).markerFound = p.markerFound ∧
      (refreshPort forced p).headerErrors = p.headerErrors := by
  unfold refreshPort
  split
  · exact ⟨rfl, rfl, rfl, rfl, rfl, rfl, rfl, rfl⟩
  · unfold unfaultPort
    dsimp only
    split_ifs <;> exact ⟨rfl, rfl, rfl, rfl, rfl, rfl, rfl, rfl⟩

theorem refreshPort_faultReason (forced : Bool) (p : LinePort) :
    faultReason (refreshPort forced p) = faultReason p := by
  obtain ⟨h1, h2, h3, h4, h5, _⟩ := refreshPort_receive forced p
  rw [faultReason_eq, faultReason_eq, h1, h2, h3, h4, h5]

/-- The faulted status stands exactly while a condition of R6 holds. -/
theorem refreshPort_faulted (forced : Bool) (p : LinePort) :
    (refreshPort forced p).faulted = (faultReason p).isSome := by
  rcases hr : faultReason p with _ | r
  · rw [refreshPort_of_none _ hr]
    unfold unfaultPort
    dsimp only
    split_ifs <;> rfl
  · rw [refreshPort_of_reason _ hr]
    rfl

/-- Where none holds, reason and count stand, and without a request the health does. -/
theorem refreshPort_unfaulted (forced : Bool) {p : LinePort} (h : faultReason p = none) :
    (refreshPort forced p).reason = p.reason ∧ (refreshPort forced p).portFaults = p.portFaults ∧
      (forced = false → (refreshPort forced p).health = p.health) := by
  rw [refreshPort_of_none _ h]
  unfold unfaultPort
  dsimp only
  split_ifs with h1 h2
  · exact ⟨rfl, rfl, fun _ => rfl⟩
  · exact ⟨rfl, rfl, fun hf => absurd (hf.symm.trans h2) Bool.false_ne_true⟩
  · exact ⟨rfl, rfl, fun _ => rfl⟩
  · exact ⟨rfl, rfl, fun _ => rfl⟩
  · exact ⟨rfl, rfl, fun _ => rfl⟩

/-- The receive side keeps to itself: faulted status, health and the counts of both stand. -/
theorem examineHeader_health (n : Half) (h : Option CycleHeader) (p : LinePort) :
    let q := examineHeader n h p
    q.faulted = p.faulted ∧ q.reason = p.reason ∧ q.portFaults = p.portFaults ∧
      q.health = p.health ∧ q.everHealthy = p.everHealthy ∧ q.completed = p.completed ∧
      q.portRecoveries = p.portRecoveries := by
  unfold examineHeader examineAligning examineUp
  dsimp only
  split
  · exact ⟨rfl, rfl, rfl, rfl, rfl, rfl, rfl⟩
  · split
    · split <;> exact ⟨rfl, rfl, rfl, rfl, rfl, rfl, rfl⟩
    · exact ⟨rfl, rfl, rfl, rfl, rfl, rfl, rfl⟩
  · split
    · exact ⟨rfl, rfl, rfl, rfl, rfl, rfl, rfl⟩
    · split <;> exact ⟨rfl, rfl, rfl, rfl, rfl, rfl, rfl⟩

section
variable {n : Half} {p : LinePort}

theorem examineHeader_up (hx : p.rx = .up) (o : Option CycleHeader) :
    examineHeader n o p = examineUp n o p := by
  unfold examineHeader
  rw [hx]

theorem examineUp_none :
    examineUp n none p =
      if 3 ≤ p.errorRun + 1 then
        { p with
          errorRun := p.errorRun + 1, headerErrors := bump p.headerErrors, rx := .aligning
          entryFrom := .fromUp, entryCycle := n, alignCycles := 0, markerFound := false
          alignRun := 0 }
      else { p with errorRun := p.errorRun + 1, headerErrors := bump p.headerErrors } := rfl

theorem examineHeader_aligning (hx : p.rx = .aligning) (hm : p.markerFound = true)
    (o : Option CycleHeader) : examineHeader n o p = examineAligning o p := by
  unfold examineHeader
  rw [hx]
  exact if_pos hm

theorem examineHeader_unexamined (hx : p.rx = .down ∨ p.rx = .aligning ∧ p.markerFound = false)
    (o : Option CycleHeader) : examineHeader n o p = p := by
  unfold examineHeader
  rcases hx with hx | ⟨hx, hm⟩
  · rw [hx]
  · rw [hx]
    exact if_neg (by rw [hm]; decide)

end

end Sys2Proof.Machine
end

section
/-! PROOFS. Ring cycles and line ports, part 20: HEADER_RECEIVED and the port it comes by (O6). -/

namespace Sys2Proof.Machine

set_option Elab.async false

section
variable (p : Port) (cycle : Octets) (s : State)

/-- The port after a received cycle (R4 to R9). -/
def portAfter : LinePort :=
  refreshPort (forcedOn s p) (examineHeader s.timer.number (decodeCycleHeader cycle) (portAt s p))

theorem exec_headerReceived :
    exec (.headerReceived p cycle) s = .next (receiveCycle p cycle s) := rfl

theorem portAt_receiveCycle : portAt (receiveCycle p cycle s) p = portAfter p cycle s := by
  obtain ⟨hl, _, hf, _⟩ := steering_parts (receiveContent_steering p cycle s)
  unfold receiveCycle portAfter
  rw [portAt_changePort, portAt_congr hl]
  unfold forcedOn
  rw [hf]

theorem portAt_receiveCycle_other :
    portAt (receiveCycle p cycle s) (otherPort p) = portAt s (otherPort p) := by
  obtain ⟨hl, _⟩ := steering_parts (receiveContent_steering p cycle s)
  unfold receiveCycle
  rw [portAt_changePort_other, portAt_congr hl]

/-- What a received cycle leaves besides the other port. -/
theorem receiveCycle_keeps :
    (receiveCycle p cycle s).prot.state = s.prot.state ∧
      (receiveCycle p cycle s).pending = s.pending ∧
      (receiveCycle p cycle s).isMaster = s.isMaster ∧
      (receiveCycle p cycle s).pins = s.pins ∧ (receiveCycle p cycle s).choices = s.choices ∧
      (receiveCycle p cycle s).wx.table = s.wx.table ∧
      (receiveCycle p cycle s).wx.work = s.wx.work ∧
      (receiveCycle p cycle s).cond.table = s.cond.table := by
  obtain ⟨_, hst, _, hq, hm, hn, hc, hwt, hww, hct⟩ :=
    steering_parts (receiveContent_steering p cycle s)
  have h := changePort_changes p (examineHeader s.timer.number (decodeCycleHeader cycle))
    (receiveContent p cycle s)
  have hp : (receiveCycle p cycle s).prot = (receiveContent p cycle s).prot :=
    changePort_prot p _ _
  have hw : (receiveCycle p cycle s).wx = (receiveContent p cycle s).wx := h .wx (by decide)
  have hco : (receiveCycle p cycle s).cond = (receiveContent p cycle s).cond := h .cond (by decide)
  exact ⟨(congrArg Protection.state hp).trans hst, (h .pending (by decide)).trans hq,
    (h .isMaster (by decide)).trans hm, (h .pins (by decide)).trans hn,
    (h .choices (by decide)).trans hc, (congrArg WeatherSampler.table hw).trans hwt,
    (congrArg WeatherSampler.work hw).trans hww, (congrArg ConditionUnit.table hco).trans hct⟩

/-- The receive side of the port is the examined one. -/
theorem portAfter_receive {q : LinePort}
    (hq : examineHeader s.timer.number (decodeCycleHeader cycle) (portAt s p) = q) :
    let y := portAfter p cycle s
    y.rx = q.rx ∧ y.entryFrom = q.entryFrom ∧ y.alignCycles = q.alignCycles ∧
      y.errorRun = q.errorRun ∧ y.farEndRun = q.farEndRun ∧ y.alignRun = q.alignRun ∧
      y.markerFound = q.markerFound ∧ y.headerErrors = q.headerErrors := by
  subst hq
  exact refreshPort_receive _ _

theorem portAfter_faulted :
    (portAfter p cycle s).faulted = (faultReason (portAfter p cycle s)).isSome := by
  unfold portAfter
  rw [refreshPort_faulted, refreshPort_faultReason]

/-- A condition that holds faults the port (R6, R9, R11). -/
theorem portAfter_of_reason {r : PortReason} (h : faultReason (portAfter p cycle s) = some r) :
    let x := portAt s p
    let y := portAfter p cycle s
    y.reason = r ∧ y.health = .unhealthy ∧ y.wtrTimer = none ∧ y.bringUp = 0 ∧
      y.portFaults = (if x.faulted then x.portFaults else bump x.portFaults) ∧
      y.everHealthy = (x.everHealthy && x.completed.isNone) ∧
      y.portRecoveries = x.completed.getD x.portRecoveries := by
  have h' := h
  unfold portAfter at h'
  rw [refreshPort_faultReason] at h'
  obtain ⟨hf, _, hpf, _, he, hc, hpr⟩ :=
    examineHeader_health s.timer.number (decodeCycleHeader cycle) (portAt s p)
  dsimp only
  unfold portAfter
  rw [refreshPort_of_reason _ h']
  refine ⟨rfl, rfl, rfl, rfl, ?_, ?_, ?_⟩
  · rw [← hf, ← hpf]
    rfl
  · rw [← he, ← hc]
    rfl
  · rw [← hc, ← hpr]
    rfl

theorem portAfter_of_none (h : faultReason (portAfter p cycle s) = none) :
    let x := portAt s p
    let y := portAfter p cycle s
    y.reason = x.reason ∧ y.portFaults = x.portFaults ∧
      (s.prot.forced ≠ some p → y.health = x.health) := by
  unfold portAfter at h
  rw [refreshPort_faultReason] at h
  obtain ⟨_, hr, hpf, hh, _⟩ :=
    examineHeader_health s.timer.number (decodeCycleHeader cycle) (portAt s p)
  obtain ⟨h1, h2, h3⟩ := refreshPort_unfaulted (forcedOn s p) h
  exact ⟨h1.trans hr, h2.trans hpf, fun hn => (h3 (by simp [forcedOn, hn])).trans hh⟩

/-- In UP a valid header ends the error run (R5, R8). -/
theorem portAfter_up {h : CycleHeader} (hx : (portAt s p).rx = .up)
    (hd : decodeCycleHeader cycle = some h) :
    let y := portAfter p cycle s
    y.rx = .up ∧ y.errorRun = 0 ∧ y.headerErrors = (portAt s p).headerErrors ∧
      y.farEndRun = (if h.farEnd then (portAt s p).farEndRun + 1 else 0) ∧
      y.faulted = decide (3 ≤ y.farEndRun) := by
  have he := examineHeader_up (n := s.timer.number) hx (some h)
  rw [← hd] at he
  obtain ⟨hrx, _, _, her, hfe, _, _, hhe⟩ := portAfter_receive p cycle s he
  rw [hd] at hrx her hfe hhe
  replace hrx := hrx.trans hx
  replace her : (portAfter p cycle s).errorRun = 0 := her
  refine ⟨hrx, her, hhe, hfe, ?_⟩
  rw [portAfter_faulted, faultReason_eq, hrx, her]
  by_cases h3 : 3 ≤ (portAfter p cycle s).farEndRun <;> simp [h3]

/-- In UP a failed header counts, the third in a row taking the port to ALIGNING (R4, R5). -/
theorem portAfter_up_failed (hx : (portAt s p).rx = .up) (hd : decodeCycleHeader cycle = none) :
    let y := portAfter p cycle s
    y.headerErrors = bump (portAt s p).headerErrors ∧
      y.errorRun = (portAt s p).errorRun + 1 ∧ y.farEndRun = (portAt s p).farEndRun ∧
      (if (portAt s p).errorRun < 2 then y.rx = .up
       else y.rx = .aligning ∧ y.entryFrom = .fromUp ∧ y.alignRun = 0 ∧ y.faulted = true ∧
        y.reason = .align ∧ y.health = .unhealthy) := by
  have he := (examineHeader_up (n := s.timer.number) hx none).trans examineUp_none
  rw [← hd] at he
  by_cases h3 : 3 ≤ (portAt s p).errorRun + 1
  · rw [if_pos h3] at he
    obtain ⟨hrx, hef, _, her, hfe, har, _, hhe⟩ := portAfter_receive p cycle s he
    have hr : faultReason (portAfter p cycle s) = some .align := by
      rw [faultReason_eq, hrx, hef]
      rfl
    obtain ⟨hre, hh, _⟩ := portAfter_of_reason p cycle s hr
    refine ⟨hhe, her, hfe, ?_⟩
    rw [if_neg (by omega)]
    exact ⟨hrx, hef, har, by rw [portAfter_faulted, hr]; rfl, hre, hh⟩
  · rw [if_neg h3] at he
    obtain ⟨hrx, _, _, her, hfe, _, _, hhe⟩ := portAfter_receive p cycle s he
    refine ⟨hhe, her, hfe, ?_⟩
    rw [if_pos (by omega)]
    exact hrx.trans hx

/-- In ALIGNING at the found position valid headers add to the run (R4). -/
theorem portAfter_aligning {h : CycleHeader} (hx : (portAt s p).rx = .aligning)
    (hm : (portAt s p).markerFound = true) (hd : decodeCycleHeader cycle = some h) :
    let y := portAfter p cycle s
    y.rx = (if 7 ≤ (portAt s p).alignRun then .up else .aligning) ∧
      ((portAt s p).alignRun ≤ 7 → y.alignRun = (portAt s p).alignRun + 1) ∧
      y.markerFound = true ∧ y.errorRun = 0 ∧ y.headerErrors = (portAt s p).headerErrors ∧
      y.farEndRun = (if h.farEnd then (portAt s p).farEndRun + 1 else 0) := by
  have he := examineHeader_aligning (n := s.timer.number) hx hm (some h)
  rw [← hd] at he
  obtain ⟨hrx, _, _, her, hfe, har, hmf, hhe⟩ := portAfter_receive p cycle s he
  rw [hd] at hrx her hfe har hmf hhe
  exact ⟨hrx.trans (if_congr (by omega) rfl rfl), fun hle => har.trans (min_eq_right (by omega)),
    hmf.trans hm, her, hhe, hfe⟩

/-- A failed one restarts the search (R4). -/
theorem portAfter_aligning_failed (hx : (portAt s p).rx = .aligning)
    (hm : (portAt s p).markerFound = true) (hd : decodeCycleHeader cycle = none) :
    let y := portAfter p cycle s
    y.rx = .aligning ∧ y.alignRun = 0 ∧ y.markerFound = false ∧
      y.errorRun = (portAt s p).errorRun + 1 ∧ y.headerErrors = (portAt s p).headerErrors := by
  have he := examineHeader_aligning (n := s.timer.number) hx hm none
  rw [← hd] at he
  obtain ⟨hrx, _, _, her, _, har, hmf, hhe⟩ := portAfter_receive p cycle s he
  rw [hd] at hrx her har hmf hhe
  exact ⟨hrx.trans hx, har, hmf, her, hhe⟩

/-! ## The S stream of RING (R26, R31) -/

theorem receiveContent_up {h : CycleHeader} (hx : (portAt s p).rx = .up)
    (hd : decodeCycleHeader cycle = some h) :
    receiveContent p cycle s =
      if s.isMaster then masterReceive p h cycle s else slaveReceive p h cycle s := by
  unfold receiveContent
  rw [hx, hd]

/-- A cycle that is not examined, or whose header fails, has no content (R3). -/
theorem receiveContent_none (h : (portAt s p).rx ≠ .up ∨ decodeCycleHeader cycle = none) :
    receiveContent p cycle s = s := by
  unfold receiveContent
  split
  · next hx hd =>
    rcases h with h | h
    · exact absurd hx h
    · rw [h] at hd
      cases hd
  · rfl

theorem receiveCycle_line {u : State} (h : receiveContent p cycle s = u) :
    Changes [.line] u (receiveCycle p cycle s) := by
  subst h
  exact changePort_changes p _ _

end

/-- The frames of a held cycle whose items are all frames. -/
theorem cycleFrames_eq {cycle : Octets} {h : CycleHeader} {fs : List Frame}
    (hd : decodeCycleHeader cycle = some h)
    (hz : zoneItems (zoneOf h.u.toNat cycle) = fs.map ZoneItem.frame) : cycleFrames cycle = fs := by
  unfold cycleFrames
  rw [hd]
  dsimp only
  rw [hz, List.filterMap_map]
  induction fs with
  | nil => rfl
  | cons f fs _ => simp

/-- The master replaces the cycle it holds (R31). -/
theorem holdS_fields (cycle : Octets) (s : State) :
    (holdS cycle s).prot = { s.prot with heldS := some cycle } ∧
      Changes [.sw, .prot] s (holdS cycle s) ∧
      (s.prot.heldS = none → (holdS cycle s).sw = s.sw) ∧
      ∀ old ∈ s.prot.heldS, (holdS cycle s).sw =
        discardAll s.timer.number .noRoom (.port .e) (cycleFrames old) s.sw := by
  have hc : Changes [.sw, .prot] s (holdS cycle s) :=
    (dropHeldS_changes s).trans ((modProt_changes _ _).mono (by decide))
  rcases ho : s.prot.heldS with _ | old
  · have hs : dropHeldS s = s := by
      unfold dropHeldS
      rw [ho]
    refine ⟨?_, hc, fun _ => ?_, fun _ h => (by cases h)⟩
    · rw [holdS, hs]
      rfl
    · rw [holdS, hs]
      rfl
  · have hs : dropHeldS s = (s.modSw (discardAll s.timer.number .noRoom (.port .e)
        (cycleFrames old))).modProt fun p => { p with heldS := none } := by
      unfold dropHeldS
      rw [ho]
    refine ⟨?_, hc, fun h => (by cases h), fun o h => ?_⟩
    · rw [holdS, hs]
      rfl
    · obtain rfl : old = o := Option.some.inj h
      rw [holdS, hs]
      rfl

/-- The steering of the S stream in RING (R26, R31). -/
theorem receive_ring_e {cycle : Octets} {h : CycleHeader} {s : State} (hs : s.prot.state = .ring)
    (hx : (portAt s .e).rx = .up) (hd : decodeCycleHeader cycle = some h) :
    receiveContent .e cycle s =
      if s.isMaster then holdS cycle s else passThrough h cycle s := by
  rw [receiveContent_up .e cycle s hx hd]
  unfold masterReceive slaveReceive
  rw [hs]

/-- Settles O6: the port by the examined header, then the S stream at E. -/
theorem headersAlign : Obligations.HeadersAlign := by
  refine ⟨fun p cycle s => ⟨_, exec_headerReceived p cycle s, ?_⟩, fun cycle s hs =>
    ⟨fun hm => ⟨fun h hx hd => ⟨_, exec_headerReceived .e cycle s, ?_⟩,
      fun hn => ⟨_, exec_headerReceived .e cycle s, ?_⟩⟩,
      fun hm hx hd => ⟨_, exec_headerReceived .e cycle s, ?_⟩⟩⟩
  · have hother := portAt_receiveCycle_other p cycle s
    rw [portAt_receiveCycle, hother]
    refine ⟨fun h hx hd => portAfter_up p cycle s hx hd,
      fun hx hd => portAfter_up_failed p cycle s hx hd,
      fun h hx hm hd => portAfter_aligning p cycle s hx hm hd,
      fun hx hm hd => portAfter_aligning_failed p cycle s hx hm hd, fun hn => ?_, ?_, rfl,
      receiveCycle_keeps p cycle s⟩
    · obtain ⟨hrx, _, _, her, hfe, _⟩ :=
        portAfter_receive p cycle s (examineHeader_unexamined hn _)
      exact ⟨hrx, her, hfe⟩
    · intro x y holding
      have hh : holding = faultReason y := (faultReason_eq y).symm
      rw [hh]
      exact ⟨portAfter_faulted p cycle s, fun r hr => portAfter_of_reason p cycle s hr,
        portAfter_of_none p cycle s⟩
  · have hc := receive_ring_e hs hx hd
    rw [hm, if_neg (by decide)] at hc
    have hl := receiveCycle_line .e cycle s hc
    exact ⟨hl .out (by decide), hl .period (by decide),
      ((transmit_changes .w _ s).mono (by decide)).trans (hl.mono (by decide))⟩
  · exact receiveCycle_line .e cycle s (receiveContent_none .e cycle s hn)
  · obtain ⟨h, hd'⟩ := Option.isSome_iff_exists.1 hd
    have hc := receive_ring_e hs hx hd'
    rw [if_pos hm] at hc
    have hl := receiveCycle_line .e cycle s hc
    have hsw : (receiveCycle .e cycle s).sw = (holdS cycle s).sw := hl .sw (by decide)
    obtain ⟨hp, hch, hnone, hsome⟩ := holdS_fields cycle s
    refine ⟨(hl .prot (by decide)).trans hp, (hch.mono (by decide)).trans (hl.mono (by decide)),
      fun hn => hsw.trans (hnone hn), fun old ho h' fs hd2 hz => ?_⟩
    rw [hsw, hsome old ho, cycleFrames_eq hd2 hz]

end Sys2Proof.Machine
end

section
/-! PROOFS. Ring cycles and line ports, part 21: the voice region of a cycle and the speech of the
positions (R64, R78). -/

namespace Sys2Proof.Machine

set_option Elab.async false

/-! ## The slots of a received cycle -/

theorem pieces_getElem? {k n i : Nat} (hi : i < n) (os : Octets) :
    (pieces k n os)[i]? = some ((os.drop (k * i)).take k) := by
  induction n generalizing i os with
  | zero => omega
  | succ n ih =>
    cases i with
    | zero => simp [pieces]
    | succ i =>
      rw [pieces, List.getElem?_cons_succ, ih (by omega), List.drop_drop, Nat.mul_succ, Nat.add_comm]

/-- Slot `k` of the voice region of a received cycle. -/
theorem voiceOf_getElem? {u k : Nat} (hk : k < u) (cycle : Octets) :
    (voiceOf u cycle)[k]? = some ((cycle.drop (10 + 8 * k)).take 8) := by
  rw [voiceOf, pieces_getElem? hk, List.drop_drop]

theorem voiceOf_getD {u k : Nat} (hk : k < u) (cycle : Octets) (d : Octets) :
    (voiceOf u cycle).getD k d = (cycle.drop (10 + 8 * k)).take 8 := by
  rw [List.getD_eq_getElem?_getD, voiceOf_getElem? hk]
  rfl

/-- What a position hears of a received cycle: its down slot, silence without one (R78). -/
theorem heard_voiceOf (u : Nat) (cycle : Octets) (e : Option SlotPair) :
    heard u (voiceOf u cycle) e =
      match e with
      | none => List.replicate 8 0xD5
      | some x =>
        if x.down.val < u then (cycle.drop (10 + 8 * x.down.val)).take 8
        else List.replicate 8 0xD5 := by
  cases e with
  | none => rfl
  | some x =>
    unfold heard
    dsimp only
    split
    · next h => exact voiceOf_getD h cycle _
    · rfl

theorem exchangeSpeech_get (u : Nat) (voice : List Octets) (s : State) (q : Fin 4) :
    (exchangeSpeech u voice s).out.speech.get q = heard u voice (bankEntry s q) :=
  Tab.get_mk ..

/-! ## The speech of the positions -/

/-- One position's speech written into the voice region (R78). -/
def speakInto (s : State) (u : Nat) (voice : List Octets) (q : Fin 4) : List Octets :=
  match bankEntry s q with
  | none => voice
  | some p => if p.up.val < u then voice.set p.up.val (s.pins.speechIn.get q) else voice

theorem spoken_eq (s : State) (u : Nat) (voice : List Octets) :
    spoken s u voice = (indices 4).foldl (speakInto s u) voice := rfl

section
variable {s : State} {u k : Nat}

/-- A position speaks into slot `k`. -/
def SpeaksInto (s : State) (u k : Nat) (q : Fin 4) : Prop :=
  ∃ x ∈ bankEntry s q, x.up.val < u ∧ x.up.val = k

theorem speakInto_other {q : Fin 4} (h : ¬ SpeaksInto s u k q) (voice : List Octets) :
    (speakInto s u voice q)[k]? = voice[k]? := by
  unfold speakInto
  split
  · rfl
  · next x hx =>
    split
    · next hu => rw [List.getElem?_set_ne fun hk => h ⟨x, hx, hu, hk⟩]
    · rfl

theorem speakInto_own {q : Fin 4} (h : SpeaksInto s u k q) {voice : List Octets}
    (hk : k < voice.length) : (speakInto s u voice q)[k]? = some (s.pins.speechIn.get q) := by
  obtain ⟨x, hx, hu, rfl⟩ := h
  unfold speakInto
  rw [Option.mem_def.1 hx]
  dsimp only
  rw [if_pos hu, List.getElem?_set_self hk]

theorem speakInto_length (voice : List Octets) (q : Fin 4) :
    (speakInto s u voice q).length = voice.length := by
  unfold speakInto
  split
  · rfl
  · split
    · exact List.length_set
    · rfl

theorem foldl_speakInto_length (qs : List (Fin 4)) (voice : List Octets) :
    (qs.foldl (speakInto s u) voice).length = voice.length := by
  induction qs generalizing voice with
  | nil => rfl
  | cons q qs ih => exact (ih _).trans (speakInto_length voice q)

/-- Positions that do not speak into a slot leave it. -/
theorem foldl_speakInto_other {qs : List (Fin 4)} (h : ∀ q ∈ qs, ¬ SpeaksInto s u k q)
    (voice : List Octets) : (qs.foldl (speakInto s u) voice)[k]? = voice[k]? := by
  induction qs generalizing voice with
  | nil => rfl
  | cons q qs ih =>
    exact (ih (fun r hr => h r (List.mem_cons_of_mem q hr)) _).trans
      (speakInto_other (h q List.mem_cons_self) voice)

/-- A slot that no position speaks into passes through. -/
theorem spoken_passes (h : ∀ q, ¬ SpeaksInto s u k q) (voice : List Octets) :
    (spoken s u voice)[k]? = voice[k]? := foldl_speakInto_other (fun q _ => h q) voice

/-- A slot that one position alone speaks into carries its speech. -/
theorem spoken_carries {q : Fin 4} (h : SpeaksInto s u k q)
    (halone : ∀ r, r ≠ q → ¬ SpeaksInto s u k r) {voice : List Octets} (hk : k < voice.length) :
    (spoken s u voice)[k]? = some (s.pins.speechIn.get q) := by
  obtain ⟨before, after, hq⟩ := List.append_of_mem (List.mem_finRange q)
  have hnd := List.nodup_finRange 4
  rw [hq] at hnd
  have hne : ∀ r ∈ after, r ≠ q := fun r hr he => by
    subst he
    simp [List.nodup_append, hr] at hnd
  rw [spoken_eq, indices, hq, List.foldl_append, List.foldl_cons,
    foldl_speakInto_other fun r hr => halone r (hne r hr),
    speakInto_own h (by rwa [foldl_speakInto_length])]

theorem spoken_length (voice : List Octets) : (spoken s u voice).length = voice.length :=
  foldl_speakInto_length _ voice

end

/-- The lanes toward the centre after a processed cycle (R102). -/
theorem sendLanes_get (u : Nat) (voice : List Octets) (s : State) (k : Fin 48) :
    (sendLanes u voice s).lanes.toCentre.get k =
      if k.val < u then voice.getD k.val silence else silence :=
  Tab.get_mk ..

end Sys2Proof.Machine
end

section
/-! PROOFS. Ring cycles and line ports, part 22: a processed header on a slave (O7). -/

namespace Sys2Proof.Machine

set_option Elab.async false

/-! ## The judgement (R16) -/

/-- The rows of R16 that make a header fresh or an adoption. -/
def AdoptedOrFresh (t : CycleTimer) (h : CycleHeader) : Prop :=
  t.adoptNext = true ∨ t.holdover = true ∨ h.origin ≠ t.record.origin ∨
    h.masterAddr ≠ t.record.masterAddr ∨ ahead h.number t.highWater = true ∨
    255 < (t.highWater - h.number).toNat

theorem judge_repeated_iff (t : CycleTimer) (h : CycleHeader) :
    judge t h = .repeated ↔ ¬ AdoptedOrFresh t h := by
  unfold judge AdoptedOrFresh
  simp only [Bool.or_eq_true]
  split_ifs with h1 h2 h3 h4
  · exact iff_of_false nofun (not_not.2 (by tauto))
  · exact iff_of_false nofun (not_not.2 (by tauto))
  · exact iff_of_false nofun (not_not.2 (by tauto))
  · have : ¬ 255 < (t.highWater - h.number).toNat := by omega
    exact iff_of_true rfl (by tauto)
  · have : 255 < (t.highWater - h.number).toNat := by omega
    exact iff_of_false nofun (not_not.2 (by tauto))

/-- High-water number, repeat run and recirculation flag by the judgement (R16). -/
theorem lockTiming_judged (h : CycleHeader) (t : CycleTimer) :
    (AdoptedOrFresh t h → (lockTiming h t).highWater = h.number ∧ (lockTiming h t).repeatRun = 0 ∧
      (lockTiming h t).recirculating = false) ∧
    (¬ AdoptedOrFresh t h → (lockTiming h t).highWater = t.highWater ∧
      (lockTiming h t).repeatRun = t.repeatRun + 1 ∧
      (lockTiming h t).recirculating = t.recirculating) := by
  rw [← judge_repeated_iff]
  have hi := judge_repeated_iff t h
  unfold lockTiming
  constructor
  · intro ha
    rcases hj : judge t h
    · exact ⟨rfl, rfl, rfl⟩
    · exact ⟨rfl, rfl, rfl⟩
    · exact absurd ha (hi.1 hj)
  · intro hj
    rw [hj]
    exact ⟨rfl, rfl, rfl⟩

/-! ## A slave takes the header (R13, R20, R87) -/

/-- A slave's state as its timing is locked and its age and reachability follow, a switch that is due
still to come. -/
def locked (h : CycleHeader) (s : State) : State :=
  let s := s.modTimer (lockTiming h)
  let q := qualifies s.timer h
  let s := s.modPeriod fun x => { x with processed := true, qualified := x.qualified || q }
  updateReach (if q then setAge 0 s else s)

theorem slaveHeader_eq (h : CycleHeader) (s : State) :
    slaveHeader h s = switchIfDue hand (locked h s) := rfl

theorem locked_changes (h : CycleHeader) (s : State) :
    Changes [.timer, .period, .prot] s (locked h s) := by
  refine (((modTimer_changes _ s).mono (by decide)).trans
    ((modPeriod_changes _ _).mono (by decide))).trans (.trans (.ite ?_ (.refl _ _))
      ((updateReach_changes _).mono (by decide)))
  exact (modProt_changes _ _).mono (by decide)

theorem locked_timer (h : CycleHeader) (s : State) :
    (locked h s).timer = lockTiming h s.timer := by
  unfold locked
  dsimp only
  split <;> rfl

theorem locked_age (h : CycleHeader) (s : State) :
    (locked h s).prot.age =
      if qualifies (lockTiming h s.timer) h then 0 else s.prot.age := by
  unfold locked
  dsimp only
  split
  · next hq => exact (if_pos hq).symm
  · next hq => exact (if_neg hq).symm

theorem slaveHeader_changes (h : CycleHeader) (s : State) :
    Changes (.timer :: .period :: .prot :: callParts) s (slaveHeader h s) := by
  rw [slaveHeader_eq]
  exact ((locked_changes h s).mono (by decide)).trans
    ((switchIfDue_changes hand_keeps _).mono (by decide))

theorem slaveHeader_timer (h : CycleHeader) (s : State) :
    (slaveHeader h s).timer = lockTiming h s.timer := by
  rw [slaveHeader_eq]
  exact (switchIfDue_changes hand_keeps _ .timer (by decide)).trans (locked_timer h s)

theorem slaveHeader_prot (h : CycleHeader) (s : State) :
    (slaveHeader h s).prot = (locked h s).prot := by
  rw [slaveHeader_eq]
  exact switchIfDue_changes hand_keeps _ .prot (by decide)

theorem slaveHeader_reach (h : CycleHeader) (s : State) : ReachFollows (slaveHeader h s) := by
  have hc := switchIfDue_changes hand_keeps (locked h s)
  have ha : (switchIfDue hand (locked h s)).agent = (locked h s).agent := hc .agent (by decide)
  rw [slaveHeader_eq]
  exact FrameKeeps.reach_congr (hc .isMaster (by decide)) (hc .pins (by decide))
    (hc .prot (by decide)) (congrArg Agent.address ha) (reachFollows_updateReach _)

/-- A switch of the banks that the number makes due has been taken (R87). -/
theorem slaveHeader_bank (h : CycleHeader) (s : State) :
    (slaveHeader h s).phone.active =
      if s.phone.pendingAt.any (fun c => !ahead c h.number) then s.phone.standby
      else s.phone.active := by
  have hp : (locked h s).phone = s.phone := locked_changes h s .phone (by decide)
  obtain ⟨hn, _⟩ := lockTiming_fields h s.timer
  rw [slaveHeader_eq, switchIfDue_bank, hp, locked_timer, hn]

/-! ## The whole processed cycle of a slave -/

/-- The P processing of a slave steers by the protection state alone (R26 to R28). -/
theorem receiveContent_slave {p out : Port} {cycle : Octets} {h : CycleHeader} {s : State}
    (hm : s.isMaster = false) (hp : processedPort s.prot.state = some p)
    (ho : outPort s.prot.state = some out) (hx : (portAt s p).rx = .up)
    (hd : decodeCycleHeader cycle = some h) :
    receiveContent p cycle s = slaveCycle p out h cycle s := by
  rw [receiveContent_up p cycle s hx hd, hm, if_neg (by decide)]
  unfold slaveReceive
  rcases hs : s.prot.state <;> rw [hs] at hp ho <;> cases hp <;> cases ho <;> rfl

section
variable (p out : Port) (h : CycleHeader) (cycle : Octets) (s : State)

/-- What the frames of the zone leave of what the header brought. -/
theorem slaveZone_frame : FrameKeeps (slaveHears h cycle s)
    (processZone p (zoneOf h.u.toNat cycle) (slaveHears h cycle s)).1 := processZone_frame _ _ _

theorem slaveCycle_timer : (slaveCycle p out h cycle s).timer = lockTiming h s.timer := by
  rw [slaveCycle_eq]
  exact ((sendFilled_changes _ _ _ _ _ .timer (by decide)).trans
    ((slaveZone_frame p h cycle s).parts .timer (by decide))).trans (slaveHeader_timer h s)

theorem slaveCycle_after_zone :
    Changes [.sw, .out, .period] (processZone p (zoneOf h.u.toNat cycle) (slaveHears h cycle s)).1
      (slaveCycle p out h cycle s) := by
  rw [slaveCycle_eq]
  exact sendFilled_changes _ _ _ _ _

theorem slaveCycle_age : (slaveCycle p out h cycle s).prot.age =
    if qualifies (lockTiming h s.timer) h then 0 else s.prot.age := by
  have h1 : (slaveCycle p out h cycle s).prot = _ :=
    slaveCycle_after_zone p out h cycle s .prot (by decide)
  rw [h1, (slaveZone_frame p h cycle s).prot]
  exact (congrArg Protection.age (slaveHeader_prot h s)).trans (locked_age h s)

theorem slaveCycle_reach : ReachFollows (slaveCycle p out h cycle s) := by
  have hc := slaveCycle_after_zone p out h cycle s
  have ha : (slaveCycle p out h cycle s).agent = _ := hc .agent (by decide)
  exact FrameKeeps.reach_congr (hc .isMaster (by decide)) (hc .pins (by decide))
    (hc .prot (by decide)) (congrArg Agent.address ha)
    ((slaveZone_frame p h cycle s).reach (slaveHeader_reach h s))

theorem slaveCycle_bank : (slaveCycle p out h cycle s).phone.active =
    (slaveHeader h s).phone.active := by
  have h1 : (slaveCycle p out h cycle s).phone = _ :=
    slaveCycle_after_zone p out h cycle s .phone (by decide)
  rw [h1]
  exact (slaveZone_frame p h cycle s).bank

theorem slaveCycle_speech (q : Fin 4) : (slaveCycle p out h cycle s).out.speech.get q =
    heard h.u.toNat (voiceOf h.u.toNat cycle) (bankEntry (slaveHeader h s) q) := by
  rw [slaveCycle_eq, sendFilled_speech, (slaveZone_frame p h cycle s).out]
  exact exchangeSpeech_get _ _ _ q

theorem slaveCycle_sent : ∃ fs, sentAt (slaveCycle p out h cycle s) out =
    encodeCycle { h with farEnd := rxFaulted (portAt s out) }
      (spoken (slaveHeader h s) h.u.toNat (voiceOf h.u.toNat cycle)) fs := by
  obtain ⟨hl, _⟩ := steering_parts ((slaveZone_frame p h cycle s).steering.trans
    (slaveHeader_steering h s : steering (slaveHears h cycle s) = steering s))
  rw [slaveCycle_eq, sentAt_sendFilled, if_pos rfl, portAt_congr hl]
  exact ⟨_, rfl⟩

end

/-- The slots of the cycle a slave repeats: a position's speech in its up slot, the others as received
(R78). -/
theorem spoken_slots {s : State} {u : Nat} {cycle : Octets} (hu : u ≤ 48)
    (hc : cycle.length = 1024) :
    (∀ q, ∀ x ∈ bankEntry s q, x.up.val < u →
      (∀ k, k ≠ q → ∀ y ∈ bankEntry s k, y.up ≠ x.up) →
      (spoken s u (voiceOf u cycle))[x.up.val]? = some (s.pins.speechIn.get q)) ∧
    (∀ k, k < u → (∀ q, ∀ x ∈ bankEntry s q, x.up.val ≠ k) →
      (spoken s u (voiceOf u cycle))[k]? = some ((cycle.drop (10 + 8 * k)).take 8)) := by
  obtain ⟨hlen, _⟩ := voiceWhole_voiceOf hu hc
  refine ⟨fun q x hx hxu halone => ?_, fun k hk hn => ?_⟩
  · exact spoken_carries ⟨x, hx, hxu, rfl⟩
      (fun r hr ⟨y, hy, _, he⟩ => halone r hr y hy (Fin.ext he)) (by omega)
  · rw [spoken_passes fun q ⟨x, hx, _, he⟩ => hn q x hx he, voiceOf_getElem? hk]

/-- A slot of a sent cycle, told by the list of its slots. -/
theorem encodeCycle_slot_of {h : CycleHeader} {voice : List Octets} (fs : List Frame)
    (hv : VoiceWhole h.u.toNat voice) {k : Nat} {v : Octets} (hk : voice[k]? = some v) :
    ((encodeCycle h voice fs).drop (10 + 8 * k)).take 8 = v := by
  obtain ⟨hlt, rfl⟩ := List.getElem?_eq_some_iff.1 hk
  exact encodeCycle_slot fs hv hlt

/-- Settles O7. -/
theorem timingLocks : Obligations.TimingLocks := by
  intro p out cycle h s hm hp ho hx hd
  have hl := receiveCycle_line p cycle s (receiveContent_slave hm hp ho hx hd)
  have htimer := (hl .timer (by decide)).trans (slaveCycle_timer p out h cycle s)
  have hprot : (receiveCycle p cycle s).prot = _ := hl .prot (by decide)
  have hage := (congrArg Protection.age hprot).trans (slaveCycle_age p out h cycle s)
  have hphone : (receiveCycle p cycle s).phone = _ := hl .phone (by decide)
  have hbank := (congrArg PhoneInterface.active hphone).trans (slaveCycle_bank p out h cycle s)
  have hout : (receiveCycle p cycle s).out = (slaveCycle p out h cycle s).out :=
    hl .out (by decide)
  have hsent : sentAt (receiveCycle p cycle s) out = sentAt (slaveCycle p out h cycle s) out := by
    cases out <;> simp only [sentAt, hout]
  obtain ⟨fs, hfs⟩ := slaveCycle_sent p out h cycle s
  obtain ⟨hnum, hrec, hmiss, hhold, _⟩ := lockTiming_fields h s.timer
  obtain ⟨hfresh, hrepeat⟩ := lockTiming_judged h s.timer
  obtain ⟨hstate, _, hmaster, _⟩ := receiveCycle_keeps p cycle s
  refine ⟨_, exec_headerReceived p cycle s, ?_⟩
  rw [htimer, hrec, hage, hsent, hfs, hbank]
  refine ⟨hnum, rfl, rfl, rfl, rfl, hmiss, hhold, ?_, fun hor hcu hre hrun => ?_, fun hn => ?_,
    ?_, hstate, encodeCycle_take_header _ _ _, slaveHeader_bank h s, fun hs hc => ⟨fun q => ?_, ?_⟩⟩
  · split
    · next hj => exact hfresh hj
    · next hj => exact hrepeat hj
  · exact if_pos (by simp [qualifies, hor, hcu, hre, hrun])
  · refine if_neg fun hq => ?_
    simp only [qualifies, Bool.and_eq_true, beq_iff_eq, Bool.not_eq_true', decide_eq_true_eq] at hq
    obtain ⟨⟨⟨hor, hcu⟩, hre⟩, _⟩ := hq
    rcases hn with hn | hn | hn
    · exact hn hor
    · exact Bool.false_ne_true (hn.symm.trans hcu)
    · exact Bool.false_ne_true (hre.symm.trans hn)
  · have hr : ReachFollows (receiveCycle p cycle s) :=
      FrameKeeps.reach_congr (hl .isMaster (by decide)) (hl .pins (by decide)) hprot
        (congrArg Agent.address (hl .agent (by decide))) (slaveCycle_reach p out h cycle s)
    unfold ReachFollows shouldBeLinked at hr
    rw [hmaster, hm, if_neg (by decide), hage] at hr
    exact hr
  · rw [hout, slaveCycle_speech]
    exact heard_voiceOf _ _ _
  · have hu : h.u.toNat ≤ 48 := toNat_le_48.1 (decodeCycleHeader_u hd)
    have hpins : (slaveHeader h s).pins = s.pins := slaveHeader_changes h s .pins (by decide)
    have hw : VoiceWhole h.u.toNat
        (spoken (slaveHeader h s) h.u.toNat (voiceOf h.u.toNat cycle)) :=
      (voiceWhole_voiceOf hu hc).spoken (by rw [hpins]; exact hs.1) _
    obtain ⟨hown, hpass⟩ := spoken_slots (s := slaveHeader h s) hu hc
    refine ⟨fun q x hx hxu halone => ?_, fun k hk hn => ?_⟩
    · rw [← hpins]
      exact encodeCycle_slot_of (h := { h with farEnd := rxFaulted (portAt s out) }) fs hw
        (hown q x hx hxu halone)
    · exact encodeCycle_slot_of (h := { h with farEnd := rxFaulted (portAt s out) }) fs hw
        (hpass k hk hn)

end Sys2Proof.Machine
end

section
/-! PROOFS. Ring cycles and line ports, part 23: frames that pass a node, the second master, and
reachability on the master (O11). -/

namespace Sys2Proof.Machine

set_option Elab.async false

/-! ## A frame that passes (R47) -/

/-- Nothing of R43 to R46 and R48 takes the frame: it passes. -/
def PassesBy (s : State) (f : Frame) : Prop :=
  frameFault f = none ∧ awaitsAddress s = false ∧ comesHome s f = false ∧
    s.agent.address ≠ some f.dest ∧ ¬(s.isMaster = true ∧ f.dest = 0) ∧ f.dest ≠ 255

theorem PassesBy.congr {s t : State} {f : Frame} (hm : t.isMaster = s.isMaster)
    (ha : t.agent = s.agent) (h : PassesBy s f) : PassesBy t f := by
  unfold PassesBy awaitsAddress comesHome at h ⊢
  rw [hm, ha]
  exact h

theorem handleItem_passes {p : Port} {f : Frame} {s : State} (h : PassesBy s f) :
    handleItem p (.frame f) s = passFrame p f s := by
  obtain ⟨hf, hw, hc, hd, hm, hb⟩ := h
  unfold handleItem
  dsimp only
  rw [hf]
  dsimp only
  unfold handleFrame
  rw [hw, if_neg (by decide), hc, if_neg (by decide), if_neg hd, if_neg hm, if_neg hb]

theorem passFrame_changes (p : Port) (f : Frame) (s : State) :
    Changes [.sw] s (passFrame p f s).1 := by
  unfold passFrame
  split
  · dsimp only
    exact modSw_changes _ s
  · dsimp only
    exact modSw_changes _ s

/-- Frames that all pass move the switch alone. -/
theorem handleItems_passes_changes (p : Port) {fs : List Frame} {s : State}
    (h : ∀ f ∈ fs, PassesBy s f) :
    Changes [.sw] s (handleItems p (fs.map ZoneItem.frame) s).1 := by
  induction fs generalizing s with
  | nil => exact .refl _ s
  | cons f fs ih =>
    rw [List.map_cons, handleItems]
    dsimp only
    rw [handleItem_passes (h f List.mem_cons_self)]
    have hp := passFrame_changes p f s
    exact hp.trans (ih fun g hg => (h g (List.mem_cons_of_mem f hg)).congr
      (hp .isMaster (by decide)) (hp .agent (by decide)))

/-- With hops left they become transit in their order, each with one hop less, and are counted. -/
theorem handleItems_passes (p : Port) {fs : List Frame} {s : State}
    (h : ∀ f ∈ fs, PassesBy s f ∧ 2 ≤ f.hop.toNat) :
    ∃ n, handleItems p (fs.map ZoneItem.frame) s =
      (s.modSw fun sw => { sw with passed := n },
        fs.map fun f => { inPlace := false, frame := hopped f }) := by
  induction fs generalizing s with
  | nil => exact ⟨s.sw.passed, rfl⟩
  | cons f fs ih =>
    obtain ⟨hf, hhop⟩ := h f List.mem_cons_self
    obtain ⟨n, hn⟩ := ih (s := s.modSw fun sw => { sw with passed := bump sw.passed }) fun g hg =>
      ⟨(h g (List.mem_cons_of_mem f hg)).1.congr rfl rfl, (h g (List.mem_cons_of_mem f hg)).2⟩
    refine ⟨n, ?_⟩
    rw [List.map_cons, handleItems, handleItem_passes hf, passFrame, if_neg (by omega)]
    dsimp only
    rw [hn]
    rfl

/-- A zone of frames that all pass leaves them as transit. -/
theorem processZone_passes (p : Port) {zone : Octets} {fs : List Frame} {s : State}
    (hz : zoneItems zone = fs.map ZoneItem.frame)
    (h : ∀ f ∈ fs, PassesBy s f ∧ 2 ≤ f.hop.toNat) :
    ∃ n, processZone p zone s =
      (s.modSw fun sw => { sw with passed := n }, fs.map hopped) := by
  obtain ⟨n, hn⟩ := handleItems_passes p h
  refine ⟨n, ?_⟩
  have h1 : ((fs.map fun f => ({ inPlace := false, frame := hopped f } : Kept)).filter
      (·.inPlace)) = [] := by simp
  have h2 : ((fs.map fun f => ({ inPlace := false, frame := hopped f } : Kept)).filter
      fun k => !k.inPlace).map (·.frame) = fs.map hopped := by
    simp [List.filter_map, Function.comp_def]
  rw [processZone, hz, hn, placeTaken]
  dsimp only
  split
  · rw [List.map_map]
    rfl
  · rw [h1, h2]
    rfl

theorem processZone_passes_changes (p : Port) {zone : Octets} {s : State}
    (h : ∀ i ∈ zoneItems zone, ∃ f, i = .frame f ∧ PassesBy s f) :
    Changes [.sw] s (processZone p zone s).1 := by
  obtain ⟨fs, hfs⟩ : ∃ fs : List Frame, zoneItems zone = fs.map ZoneItem.frame := by
    generalize zoneItems zone = is at h
    induction is with
    | nil => exact ⟨[], rfl⟩
    | cons i is ih =>
      obtain ⟨f, rfl, _⟩ := h i List.mem_cons_self
      obtain ⟨fs, rfl⟩ := ih fun j hj => h j (List.mem_cons_of_mem _ hj)
      exact ⟨f :: fs, rfl⟩
  have hp : ∀ f ∈ fs, PassesBy s f := fun f hf => by
    obtain ⟨g, hg, hpass⟩ := h (.frame f) (hfs ▸ List.mem_map_of_mem hf)
    cases hg
    exact hpass
  unfold processZone placeTaken
  rw [hfs]
  split
  · exact handleItems_passes_changes p hp
  · exact (handleItems_passes_changes p hp).trans
      (Changes.foldl (fun s k => (offerOwn_changes _ _ s)) _ _)

/-! ## An edge of a condition: the sign, and the switch of a master (R161, R168, R184) -/

theorem ite_of {α β : Type} {g : α → β} {c : Prop} [Decidable c] {t u : α} {x : β} (ht : g t = x)
    (hu : g u = x) : g (if c then t else u) = x := by
  split
  · exact ht
  · exact hu

theorem offerReport_sign (s : State) : (offerReport s).sign = s.sign := by
  have h := (sendToCentre_changes .alarm svcAlarm (octet ((reportableEvents s).length - 62))
    (((reportableEvents s).take 62).flatMap encodeEvent) s) .sign (by decide)
  unfold offerReport
  exact ite_of rfl h

theorem judgeEdge_sign (c : Fin 64) (rise : Bool) (s : State) :
    (judgeEdge c rise s).sign = s.sign := by
  unfold judgeEdge
  refine ite_of rfl (ite_of rfl (ite_of ?_ rfl))
  exact ite_of (offerReport_sign _) rfl

/-- A master's reports leave by the uplink: the switch stands (R169). -/
theorem judgeEdge_sw {s : State} (hm : s.isMaster = true) (c : Fin 64) (rise : Bool) :
    (judgeEdge c rise s).sw = s.sw := by
  have hr : ∀ u : State, u.isMaster = true → (offerReport u).sw = u.sw := fun u hu => by
    have hs : ∀ x y z, (sendToCentre .alarm x y z u).1.sw = u.sw := fun x y z => by
      unfold sendToCentre
      dsimp only
      rw [show u.spendOpen.isMaster = true from hu, if_pos rfl]
      rfl
    unfold offerReport
    exact ite_of rfl (hs _ _ _)
  unfold judgeEdge
  refine ite_of rfl (ite_of rfl (ite_of ?_ rfl))
  exact ite_of (hr _ hm) rfl

theorem changeCondition_sw {s : State} (hm : s.isMaster = true) (judged : Bool) (c : Fin 64)
    (v : Bool) : (changeCondition judged c v s).sw = s.sw := by
  unfold changeCondition
  refine ite_of rfl ?_
  cases judged
  · rfl
  · exact judgeEdge_sw (s := s.modCond _) hm c v

theorem namedByRule_iff (g : SignController) (c : Fin 64) :
    g.rules.data.any (ruleNames c) = true ↔ NamedByRule g c := by
  rw [List.any_eq_true]
  constructor
  · rintro ⟨r, hr, hn⟩
    obtain ⟨k, hk, rfl⟩ := List.getElem_of_mem hr
    refine ⟨⟨k, by rw [← g.rules.size]; exact hk⟩, ?_⟩
    simpa [ruleNames, Tab.get] using hn
  · rintro ⟨k, hk⟩
    refine ⟨g.rules.get k, List.getElem_mem _, ?_⟩
    simpa [ruleNames] using hk

theorem conditionMoved_follows (copy : Tab Bool 64) (c : Fin 64) (g : SignController) :
    SignFollows copy c g (conditionMoved copy c g) := by
  unfold SignFollows
  rw [← namedByRule_iff]
  exact ⟨fun h => if_pos h, fun h => if_neg h⟩

/-- The sign follows a change of a condition over the changed copy (R161, R184). -/
theorem changeCondition_follows {c : Fin 64} {v : Bool} {s : State} (h : s.cond.copy.get c ≠ v) :
    SignFollows (changeCondition true c v s).cond.copy c s.sign (changeCondition true c v s).sign := by
  have hf := conditionMoved_follows
    (judgeEdge c v (s.modCond fun u => { u with copy := u.copy.set c v })).cond.copy c
    (judgeEdge c v (s.modCond fun u => { u with copy := u.copy.set c v })).sign
  rw [judgeEdge_sign] at hf
  unfold changeCondition
  rw [if_neg h]
  dsimp only [State.modSign]
  rw [if_pos rfl, judgeEdge_sign]
  exact hf

/-! ## The master sees a header (R18, R19, R97) -/

section
variable {h : CycleHeader} {s : State}

theorem ownOriginated_iff : ownOriginated s h = true ↔
    h.origin = .master ∧ h.masterAddr = 1 ∧ (s.timer.number - h.number).toNat < 1000 := by
  simp [ownOriginated, and_assoc]

/-- Its own header comes round: the plans it reaches are seen. -/
theorem masterSees_own (ho : h.origin = .master) (ha : h.masterAddr = 1)
    (hn : (s.timer.number - h.number).toNat < 1000) :
    masterSees h s = s.modAlloc fun a => { a with plans := a.plans.map (seenPlan h.number) } := by
  unfold masterSees
  rw [if_neg (by rw [ho]; decide), if_pos (ownOriginated_iff.2 ⟨ho, ha, hn⟩)]

/-- A second master's header. -/
theorem masterSees_second (ho : h.origin = .master)
    (hn : ¬(h.masterAddr = 1 ∧ (s.timer.number - h.number).toNat < 1000)) :
    masterSees h s = changeCondition true condDuplicate true
      (s.modTimer fun t => { t with duplicate := some 0 }) := by
  unfold masterSees
  rw [if_neg (by rw [ho]; decide), if_neg fun hc => hn (ownOriginated_iff.1 hc).2]

theorem masterSees_holdover (ho : h.origin = .holdover) : masterSees h s = s := if_pos ho

/-- What a processed header reaches on the master. -/
theorem masterSees_changes (h : CycleHeader) (s : State) :
    Changes ([.timer, .alloc] ++ condParts) s (masterSees h s) := by
  unfold masterSees
  split
  · exact .refl _ s
  split
  · exact (modAlloc_changes _ s).mono (by decide)
  · exact ((modTimer_changes _ s).mono (by decide)).trans
      ((changeCondition_changes _ _ _ _).mono (by decide))

theorem masterSees_timer (h : CycleHeader) (s : State) :
    (masterSees h s).timer = { s.timer with duplicate := (masterSees h s).timer.duplicate } := by
  have hc : (changeCondition true condDuplicate true
      (s.modTimer fun t => { t with duplicate := some 0 })).timer = { s.timer with duplicate := some 0 } :=
    changeCondition_changes _ _ _ _ .timer (by decide)
  unfold masterSees
  split
  · rfl
  split
  · rfl
  · rw [hc]

theorem masterSees_sw (hm : s.isMaster = true) (h : CycleHeader) : (masterSees h s).sw = s.sw := by
  unfold masterSees
  split
  · rfl
  split
  · rfl
  · rw [changeCondition_sw (s := s.modTimer fun t => { t with duplicate := some 0 }) hm]
    rfl

end

/-! ## The whole processed cycle of the master -/

theorem receiveContent_master {p : Port} {cycle : Octets} {h : CycleHeader} {s : State}
    (hm : s.isMaster = true) (hp : processedPort s.prot.state = some p)
    (hx : (portAt s p).rx = .up) (hd : decodeCycleHeader cycle = some h) :
    receiveContent p cycle s = masterCycle p h cycle s := by
  rw [receiveContent_up p cycle s hx hd, if_pos hm]
  unfold masterReceive
  rcases hs : s.prot.state <;> rw [hs] at hp <;> cases hp <;> rfl

section
variable (p : Port) (h : CycleHeader) (cycle : Octets) (s : State)

theorem masterZone_frame : FrameKeeps (masterHears h cycle s)
    (processZone p (zoneOf h.u.toNat cycle) (masterHears h cycle s)).1 := processZone_frame _ _ _

theorem masterCycle_after_zone :
    Changes [.sw] (processZone p (zoneOf h.u.toNat cycle) (masterHears h cycle s)).1
      (masterCycle p h cycle s) := modSw_changes _ _

theorem masterCycle_timer : (masterCycle p h cycle s).timer = (masterSees h s).timer :=
  ((masterCycle_after_zone p h cycle s .timer (by decide)).trans
    ((masterZone_frame p h cycle s).parts .timer (by decide))).trans
      (masterHears_changes h cycle s .timer (by decide))

theorem masterCycle_copy :
    (masterCycle p h cycle s).cond.copy = (masterSees h s).cond.copy := by
  have h1 : (masterCycle p h cycle s).cond = _ :=
    masterCycle_after_zone p h cycle s .cond (by decide)
  have h2 : (masterHears h cycle s).cond = (masterSees h s).cond :=
    masterHears_changes h cycle s .cond (by decide)
  rw [h1, (masterZone_frame p h cycle s).cond, h2]

theorem masterCycle_lanes : (masterCycle p h cycle s).lanes = (masterHears h cycle s).lanes :=
  (masterCycle_after_zone p h cycle s .lanes (by decide)).trans
    ((masterZone_frame p h cycle s).parts .lanes (by decide))

theorem masterCycle_speech :
    (masterCycle p h cycle s).out.speech = (masterHears h cycle s).out.speech := by
  have h1 : (masterCycle p h cycle s).out = _ :=
    masterCycle_after_zone p h cycle s .out (by decide)
  rw [h1, (masterZone_frame p h cycle s).out]

theorem masterSees_bank (q : Fin 4) :
    bankEntry (masterSees h s) q = s.phone.active.entries.get q := by
  have h1 : (masterSees h s).phone = s.phone := masterSees_changes h s .phone (by decide)
  unfold bankEntry
  rw [h1]

theorem masterHears_heard (q : Fin 4) : (masterHears h cycle s).out.speech.get q =
    heard h.u.toNat (voiceOf h.u.toNat cycle) (s.phone.active.entries.get q) := by
  rw [← masterSees_bank h s q]
  exact exchangeSpeech_get _ _ _ q

theorem masterHears_lanes (k : Fin 48) : (masterHears h cycle s).lanes.toCentre.get k =
    if k.val < h.u.toNat then
      (spoken (masterSees h s) h.u.toNat (voiceOf h.u.toNat cycle)).getD k.val silence
    else silence := sendLanes_get _ _ _ k

end

/-- What of a zone passes a master: it is for the ring, and from the ring. -/
theorem passesBy_master {s : State} (hm : s.isMaster = true) (ha : s.agent.address = some 1)
    {f : Frame} (hf : frameFault f = none) (h0 : f.source ≠ 0) (h1 : f.source ≠ 1) (d0 : f.dest ≠ 0)
    (d1 : f.dest ≠ 1) (d255 : f.dest ≠ 255) : PassesBy s f := by
  refine ⟨hf, by simp [awaitsAddress, hm], ?_, ?_, fun h => d0 h.2, d255⟩
  · rw [comesHome, if_pos hm, beq_false_of_ne h1, beq_false_of_ne h0]
    rfl
  · rw [ha]
    exact fun h => d1 (Option.some.inj h).symm

/-- The state that the frames of the master's zone find is as theirs of before, for what passes. -/
theorem masterHears_passes {s : State} (hm : s.isMaster = true) (h : CycleHeader) (cycle : Octets)
    (ha : s.agent.address = some 1) :
    (masterHears h cycle s).isMaster = true ∧ (masterHears h cycle s).agent.address = some 1 := by
  have h1 := masterHears_changes h cycle s
  have h2 := masterSees_changes h s
  have hag : (masterHears h cycle s).agent = s.agent :=
    (h1 .agent (by decide)).trans (h2 .agent (by decide))
  exact ⟨((h1 .isMaster (by decide)).trans (h2 .isMaster (by decide))).trans hm, by rw [hag, ha]⟩

/-! ## Reachability on the master (R18, R21) -/

theorem execUplinkUp_eq (s : State) : exec .uplinkUp s = .next (setUplink true s) := rfl

theorem execUplinkDown_eq (s : State) : exec .uplinkDown s = .next (setUplink false s) := rfl

theorem setUplink_master {s : State} (hm : s.isMaster = true) (up : Bool) :
    (setUplink up s).pins = { s.pins with uplinkUp := up } ∧
      (setUplink up s).prot = { s.prot with linked := up } ∧
      Changes [.pins, .prot] s (setUplink up s) := by
  rw [setUplink_eq, if_pos hm]
  refine ⟨rfl, ?_, ((modPins_changes _ s).mono (by decide)).trans
    ((updateReach_changes _).mono (by decide))⟩
  simp [updateReach, shouldBeLinked, State.modPins, State.modProt, hm]

theorem setUplink_slave {s : State} (hm : s.isMaster = false) (up : Bool) :
    setUplink up s = s.modPins fun x => { x with uplinkUp := up } := by
  rw [setUplink_eq, hm, if_neg (by decide)]

/-- The second master's timer has run out (R19). -/
theorem execDuplicateMasterClear_due {s : State} (h : duplicateDue s = true) :
    exec .duplicateMasterClear s = .next (changeCondition true condDuplicate false
      (s.modTimer fun t => { t with duplicate := none })) := by
  show execDuplicateMasterClear s = _
  unfold execDuplicateMasterClear
  exact whenever_pos h

/-- The lanes toward the centre after a cycle (R78, R102). -/
theorem masterCycle_slots {p : Port} {h : CycleHeader} {cycle : Octets} {s : State}
    (hu : h.u.toNat ≤ 48) (hc : cycle.length = 1024) :
    let slot := fun (k : Nat) => (cycle.drop (10 + 8 * k)).take 8
    let lane := fun (k : Fin 48) => (masterCycle p h cycle s).lanes.toCentre.get k
    (∀ k : Fin 48, h.u.toNat ≤ k.val → lane k = List.replicate 8 0xD5) ∧
    (∀ k : Fin 48, k.val < h.u.toNat →
      (∀ q, ∀ x ∈ s.phone.active.entries.get q, x.up ≠ k) → lane k = slot k.val) ∧
    (∀ q, ∀ x ∈ s.phone.active.entries.get q, x.up.val < h.u.toNat →
      (∀ k, k ≠ q → ∀ y ∈ s.phone.active.entries.get k, y.up ≠ x.up) →
      lane x.up = s.pins.speechIn.get q) := by
  intro slot lane
  obtain ⟨hown, hpass⟩ := spoken_slots (s := masterSees h s) hu hc
  have hb := masterSees_bank h s
  have hpins : (masterSees h s).pins = s.pins := masterSees_changes h s .pins (by decide)
  have hlane : ∀ k, lane k = _ := fun k =>
    (congrArg (fun l : Lanes => l.toCentre.get k) (masterCycle_lanes p h cycle s)).trans
      (masterHears_lanes h cycle s k)
  refine ⟨fun k hk => (hlane k).trans (if_neg (by omega)), fun k hk hn => ?_,
    fun q x hx hxu halone => ?_⟩
  · rw [hlane, if_pos hk, List.getD_eq_getElem?_getD,
      hpass k.val hk fun q x hx he => hn q x ((hb q) ▸ hx) (Fin.ext he)]
    rfl
  · rw [hlane, if_pos hxu, List.getD_eq_getElem?_getD,
      hown q x ((hb q).symm ▸ hx) hxu fun k hk y hy => halone k hk y ((hb k) ▸ hy), hpins]
    rfl

/-- Frames that all pass leave the plans as the header left them (R97). -/
theorem masterCycle_plans {p : Port} {h : CycleHeader} {cycle : Octets} {s : State}
    (hz : ∀ i ∈ zoneItems (zoneOf h.u.toNat cycle),
      ∃ f, i = .frame f ∧ PassesBy (masterHears h cycle s) f) :
    (masterCycle p h cycle s).alloc = (masterSees h s).alloc :=
  ((masterCycle_after_zone p h cycle s .alloc (by decide)).trans
    (processZone_passes_changes p hz .alloc (by decide))).trans
      (masterHears_changes h cycle s .alloc (by decide))

/-- The frames of a zone that pass with a hop left join the fresh-transit pool (R47, R59). -/
theorem masterCycle_pool {p : Port} {h : CycleHeader} {cycle : Octets} {s : State} {fs : List Frame}
    (hm : s.isMaster = true) (hz : zoneItems (zoneOf h.u.toNat cycle) = fs.map ZoneItem.frame)
    (hp : ∀ f ∈ fs, PassesBy (masterHears h cycle s) f ∧ 2 ≤ f.hop.toNat) :
    (masterCycle p h cycle s).sw.pool = s.sw.pool ++ fs.map hopped := by
  obtain ⟨n, hn⟩ := processZone_passes p hz hp
  have hsw : (masterHears h cycle s).sw = s.sw :=
    (masterHears_changes h cycle s .sw (by decide)).trans (masterSees_sw hm h)
  rw [masterCycle_eq, hn, ← hsw]
  rfl

/-- Settles O11. -/
theorem masterReach : Obligations.MasterReach := by
  refine ⟨fun p cycle h s => ⟨fun hm hp hx hd => ?_, fun ⟨k, hk, hle⟩ => ?_⟩, fun s =>
    ⟨fun hm => ⟨⟨_, execUplinkUp_eq s, setUplink_master hm true⟩,
      ⟨_, execUplinkDown_eq s, setUplink_master hm false⟩⟩,
      fun hm => ⟨(execUplinkUp_eq s).trans (congrArg _ (setUplink_slave hm true)),
        (execUplinkDown_eq s).trans (congrArg _ (setUplink_slave hm false))⟩⟩⟩
  · have hl := receiveCycle_line p cycle s (receiveContent_master hm hp hx hd)
    have htimer := (hl .timer (by decide)).trans (masterCycle_timer p h cycle s)
    have hcond : (receiveCycle p cycle s).cond = _ := hl .cond (by decide)
    have hcopy := (congrArg ConditionUnit.copy hcond).trans (masterCycle_copy p h cycle s)
    have halloc : (receiveCycle p cycle s).alloc = _ := hl .alloc (by decide)
    have hsw : (receiveCycle p cycle s).sw = _ := hl .sw (by decide)
    have hlanes : (receiveCycle p cycle s).lanes = _ := hl .lanes (by decide)
    have hout : (receiveCycle p cycle s).out = _ := hl .out (by decide)
    have ht := masterSees_timer h s
    refine ⟨_, exec_headerReceived p cycle s, ?_⟩
    rw [htimer, hcopy, halloc, hsw, hlanes, hout]
    refine ⟨by rw [ht], by rw [ht], fun ho hn => ?_, fun hn => ?_, fun ho ⟨ha, hlt⟩ hz h1 n => ?_,
      fun fs hz hfs h1 => ?_, ?_, fun hs hc => ⟨fun q => ?_, ?_⟩⟩
    · rw [masterSees_second ho hn, changeCondition_copy, Tab.get_set, if_pos rfl]
      exact ⟨congrArg CycleTimer.duplicate (changeCondition_changes _ _ _ _ .timer (by decide)),
        rfl⟩
    · rcases ho : h.origin with _ | _
      · rcases hn with hn | ⟨ha, hlt⟩
        · rw [ho] at hn
          cases hn
        · rw [masterSees_own ho ha hlt]
          exact ⟨rfl, rfl⟩
      · rw [masterSees_holdover ho]
        exact ⟨rfl, rfl⟩
    · obtain ⟨hm', h1'⟩ := masterHears_passes hm h cycle h1
      rw [masterCycle_plans fun i hi => by
        obtain ⟨r, hr, hf, h0, hs1, d0, d1, d255⟩ := hz i hi
        exact ⟨r, hr, passesBy_master hm' h1' hf h0 hs1 d0 d1 d255⟩, masterSees_own ho ha hlt]
      exact Tab.get_map _ _ n
    · obtain ⟨hm', h1'⟩ := masterHears_passes hm h cycle h1
      exact masterCycle_pool hm hz fun f hf => by
        obtain ⟨hff, h0, hs1, d0, d1, d255, hhop⟩ := hfs f hf
        exact ⟨passesBy_master hm' h1' hff h0 hs1 d0 d1 d255, hhop⟩
    · rw [masterCycle_lanes]
      have hml : (masterSees h s).lanes = s.lanes := masterSees_changes h s .lanes (by decide)
      have hfc : (masterHears h cycle s).lanes.fromCentre = (masterSees h s).lanes.fromCentre := rfl
      rw [hfc, hml]
    · rw [masterCycle_speech, masterHears_heard]
      exact heard_voiceOf _ _ _
    · exact masterCycle_slots (toNat_le_48.1 (decodeCycleHeader_u hd)) hc
  · have hdue : duplicateDue s = true := by
      rw [duplicateDue, Option.mem_def.1 hk]
      exact decide_eq_true hle
    refine ⟨_, execDuplicateMasterClear_due hdue, changeCondition_changes _ _ _ _ .timer (by decide),
      ?_, fun hset => ?_, ((modTimer_changes _ s).mono (by decide)).trans
        ((changeCondition_changes _ _ _ _).mono (by decide))⟩
    · rw [changeCondition_copy, Tab.get_set, if_pos rfl]
    · exact changeCondition_follows (s := s.modTimer fun t => { t with duplicate := none })
        (by rw [State.modTimer_cond, hset]; decide)

end Sys2Proof.Machine
end

section
/-! PROOFS. Ring cycles and line ports, part 24: cycles and frames read back from their octets (O14). -/

namespace Sys2Proof.Machine

set_option Elab.async false

/-! ## Numbers and checks (R211) -/

/-- A 16-bit number is read back from its two octets. -/
theorem half_octets2 (x : Half) : half ((x >>> 8).setWidth 8) (x.setWidth 8) = x := by
  apply BitVec.eq_of_toNat_eq
  rw [toNat_half]
  have := x.isLt
  simp only [BitVec.toNat_setWidth, BitVec.toNat_ushiftRight, Nat.shiftRight_eq_div_pow]
  omega

theorem toNat_halves (a b : Half) : (a ++ b).toNat = a.toNat * 65536 + b.toNat := by
  rw [BitVec.toNat_append, ← Nat.shiftLeft_add_eq_or_of_lt b.isLt, Nat.shiftLeft_eq]

/-- A 32-bit number is read back from its four octets. -/
theorem quad_octets4 (x : Quad) :
    half ((x >>> 24).setWidth 8) ((x >>> 16).setWidth 8) ++
      half ((x >>> 8).setWidth 8) (x.setWidth 8) = x := by
  apply BitVec.eq_of_toNat_eq
  rw [toNat_halves, toNat_half, toNat_half]
  have := x.isLt
  simp only [BitVec.toNat_setWidth, BitVec.toNat_ushiftRight, Nat.shiftRight_eq_div_pow]
  omega

/-- Octets followed by their check hold it. -/
theorem checkHolds_withCheck (os : Octets) : checkHolds (withCheck os) = true := by
  unfold checkHolds
  rw [length_withCheck, Nat.add_sub_cancel, withCheck, List.drop_left, List.take_left,
    beq_self_eq_true, Bool.and_true]
  exact decide_eq_true (by omega)

/-! ## The cycle header (R3, R212) -/

theorem headerFlags_bits (a b : Bool) :
    (headerFlags a b).getLsbD 7 = a ∧ (headerFlags a b).getLsbD 6 = b := by
  revert a b
  decide

theorem decodeCycleHeader_encode {h : CycleHeader} (hu : h.u.toNat ≤ 48) (rest : Octets) :
    decodeCycleHeader (encodeCycleHeader h ++ rest) = some h := by
  have ht : (encodeCycleHeader h ++ rest).take 10 = encodeCycleHeader h :=
    List.take_left' (length_encodeCycleHeader h)
  have hn : halfAt (encodeCycleHeader h) 2 = h.number := half_octets2 h.number
  have ho : octetAt (encodeCycleHeader h) 4 = originOctet h.origin := rfl
  have hf : octetAt (encodeCycleHeader h) 7 = headerFlags h.centreUp h.farEnd := rfl
  obtain ⟨h7, h6⟩ := headerFlags_bits h.centreUp h.farEnd
  have horigin : octetAt (encodeCycleHeader h) 4 = 1 ∨ octetAt (encodeCycleHeader h) 4 = 2 := by
    rw [ho]
    cases h.origin
    · exact .inl rfl
    · exact .inr rfl
  have hmaster : (if octetAt (encodeCycleHeader h) 4 = 1 then HeaderOrigin.master
      else .holdover) = h.origin := by
    rw [ho]
    cases h.origin <;> rfl
  unfold decodeCycleHeader
  dsimp only
  rw [ht, if_pos ⟨length_encodeCycleHeader h, rfl, rfl, checkHolds_withCheck _, horigin,
    toNat_le_48.2 hu⟩, hmaster, hn, hf, h7, h6]
  rfl

/-! ## The voice region -/

/-- Whole slots laid end to end are cut out again. -/
theorem pieces_flatten {k : Nat} {vs : List Octets} (hv : ∀ v ∈ vs, v.length = k) (rest : Octets) :
    pieces k vs.length (vs.flatten ++ rest) = vs := by
  induction vs with
  | nil => rfl
  | cons v vs ih =>
    have hk : v.length = k := hv v List.mem_cons_self
    rw [List.length_cons, pieces, List.flatten_cons, List.append_assoc, List.take_left' hk,
      List.drop_left' hk, ih fun w hw => hv w (List.mem_cons_of_mem v hw)]

/-! ## Frames (R41, R212) -/

/-- A frame as a reader finds it: the fill bits of its flags are zero. -/
def asSent (f : Frame) : Frame := { f with flags := f.flags &&& 0xC0 }

theorem octetAt_drop (os : Octets) (k i : Nat) : octetAt os (k + i) = octetAt (os.drop k) i := by
  simp [octetAt]

theorem length_frameHeader (f : Frame) : (withCheck (frameHeader f)).length = 12 := rfl

section
variable (f : Frame) (tail : Octets)

theorem frame_take_header : (encodeFrame f ++ tail).take 12 = withCheck (frameHeader f) := by
  rw [encodeFrame, List.append_assoc, List.append_assoc, List.take_left' (length_frameHeader f)]

theorem frame_drop_header :
    (encodeFrame f ++ tail).drop 12 = f.payload ++ (octets4 f.check ++ tail) := by
  rw [encodeFrame, List.append_assoc, List.append_assoc, List.drop_left' (length_frameHeader f)]

theorem frame_drop : (encodeFrame f ++ tail).drop (16 + f.payload.length) = tail :=
  List.drop_left' (length_encodeFrame f)

theorem frame_length (hp : f.payload.length ≤ 496) :
    (halfAt (encodeFrame f ++ tail) 8).toNat = f.payload.length := by
  refine (congrArg BitVec.toNat (half_octets2 (BitVec.ofNat 16 f.payload.length))).trans ?_
  rw [BitVec.toNat_ofNat]
  omega

/-- The check stands behind the payload. -/
theorem frame_check : quadAt (encodeFrame f ++ tail) (12 + f.payload.length) = f.check := by
  have hd : (encodeFrame f ++ tail).drop (12 + f.payload.length) = octets4 f.check ++ tail := by
    rw [← List.drop_drop, frame_drop_header, List.drop_left]
  have h : ∀ i, octetAt (encodeFrame f ++ tail) (12 + f.payload.length + i) =
      octetAt (octets4 f.check ++ tail) i := fun i => by rw [octetAt_drop, hd]
  unfold quadAt halfAt
  have h3 : octetAt (encodeFrame f ++ tail) (12 + f.payload.length + 2 + 1) = _ := h 3
  have h0 : octetAt (encodeFrame f ++ tail) (12 + f.payload.length) = _ := h 0
  rw [h0, h 1, h 2, h3]
  exact quad_octets4 f.check

theorem frameOf_encode : frameOf (encodeFrame f ++ tail) f.payload.length = asSent f := by
  have htag : halfAt (encodeFrame f ++ tail) 6 = f.tag := half_octets2 f.tag
  unfold frameOf
  rw [htag, frame_drop_header, List.take_left, frame_check]
  rfl

end

/-- Frames back to back, and then idle fill, are read one after another (R41). -/
theorem readZone_encode (fill : Nat) {n : Nat} {fs : List Frame} (hn : fs.length ≤ n)
    (hf : ∀ f ∈ fs, f.payload.length ≤ 496 ∧ f.dest ≠ 0xF5) :
    readZone n (fs.flatMap encodeFrame ++ List.replicate fill 0xF5) =
      fs.map fun f => ZoneItem.frame (asSent f) := by
  induction fs generalizing n with
  | nil =>
    cases n with
    | zero => rfl
    | succ n =>
      refine if_pos ?_
      cases fill with
      | zero => exact .inl (by decide)
      | succ fill => exact .inr rfl
  | cons f fs ih =>
    obtain ⟨n, rfl⟩ : ∃ m, n = m + 1 := ⟨n - 1, by simp at hn; omega⟩
    obtain ⟨hp, hd⟩ := hf f List.mem_cons_self
    have ih := ih (Nat.le_of_succ_le_succ hn) fun g hg => hf g (List.mem_cons_of_mem f hg)
    rw [List.flatMap_cons, List.append_assoc]
    generalize fs.flatMap encodeFrame ++ List.replicate fill 0xF5 = tail at ih ⊢
    have hl : (encodeFrame f ++ tail).length = 16 + f.payload.length + tail.length := by
      rw [List.length_append, length_encodeFrame, extent]
    have h0 : octetAt (encodeFrame f ++ tail) 0 = f.dest := rfl
    have hgo : ¬(16 + f.payload.length + tail.length < 16 ∨ f.dest = 0xF5) := by
      rintro (h | h)
      · omega
      · exact hd h
    unfold readZone
    rw [hl, h0, if_neg hgo, frame_take_header, checkHolds_withCheck,
      if_neg (by decide)]
    dsimp only
    rw [frame_length f tail hp, if_neg (by omega), if_neg (by omega), frameOf_encode, frame_drop,
      ih]
    rfl

/-- A zone holds at most 63 frames (R1, R41). -/
theorem length_le_of_extents {z : Nat} (hz : z ≤ 1014) {fs : List Frame} (h : extents fs ≤ z) :
    fs.length ≤ 64 := by
  have h16 : 16 * fs.length ≤ extents fs := by
    clear h
    induction fs with
    | nil => exact Nat.zero_le _
    | cons f fs ih =>
      rw [extents_cons, List.length_cons, extent]
      omega
  omega

/-- Settles O14. -/
theorem cycleRoundTrip : Obligations.CycleRoundTrip := by
  intro h voice fs hu hvl hv hf hz c
  have hw : VoiceWhole h.u.toNat voice := ⟨hvl, hv⟩
  have hzone : zoneOf h.u.toNat c = encodeZone (zoneSize h.u.toNat) fs := by
    unfold zoneOf
    rw [encodeCycle_zone fs hw, List.take_of_length_le (length_encodeZone hz).le]
  refine ⟨length_encodeCycle hu hw hz, ?_, ?_, ?_⟩
  · show decodeCycleHeader (encodeCycle h voice fs) = some h
    rw [encodeCycle, List.append_assoc]
    exact decodeCycleHeader_encode hu _
  · unfold voiceOf
    rw [encodeCycle_drop_header, ← hvl]
    exact pieces_flatten hv _
  · rw [hzone]
    exact readZone_encode _ (length_le_of_extents (by unfold zoneSize; omega) hz) hf

end Sys2Proof.Machine
end

section
/-! PROOFS. Ring cycles and line ports, part 25: discards counted and recorded, and frames taken from
the heads of queues (R50, R51, R57 to R60). -/

namespace Sys2Proof.Machine

set_option Elab.async false

/-! ## Several of a count -/

@[simp] theorem bumps_zero (n : Nat) : bumps 0 n = n := rfl

theorem bumps_succ (k n : Nat) : bumps (k + 1) n = bumps k (bump n) := rfl

theorem bumps_one (n : Nat) : bumps 1 n = bump n := rfl

theorem bumps_add (j k n : Nat) : bumps (j + k) n = bumps k (bumps j n) := by
  unfold bumps
  rw [Nat.add_comm, Function.iterate_add_apply]

theorem tab_modify_id {α : Type} {n : Nat} (t : Tab α n) (i : Fin n) : t.modify i id = t :=
  Tab.ext_get fun j => by rw [Tab.get_modify]; split <;> rfl

theorem tab_modify_modify {α : Type} {n : Nat} (t : Tab α n) (i : Fin n) (f g : α → α) :
    (t.modify i f).modify i g = t.modify i (g ∘ f) :=
  Tab.ext_get fun j => by
    simp only [Tab.get_modify]
    split <;> rfl

/-! ## Discards (R50, R51) -/

theorem reasonIndex_inj {r r' : DiscardReason} : reasonIndex r = reasonIndex r' ↔ r = r' := by
  cases r <;> cases r' <;> decide

theorem take_append_take {α : Type} (k : Nat) (xs ys : List α) :
    (xs ++ ys.take k).take k = (xs ++ ys).take k := by
  rw [List.take_append, List.take_append, List.take_take, Nat.min_eq_left (Nat.sub_le _ _)]

/-- What a discard records of a frame. -/
def recordOfFrame (c : Half) (r : DiscardReason) (p : Place) (f : Frame) : DiscardRecord :=
  { reason := r, place := p, cycle := c, fields := some (frameFields f), flushed := none }

section
variable (c : Half) (r : DiscardReason) (p : Place) (fs : List Frame) (sw : FrameSwitch)

/-- The discards of several frames are counted under their reason. -/
theorem discardAll_count (r' : DiscardReason) :
    (discardAll c r p fs sw).discards.get (reasonIndex r') =
      if r' = r then bumps fs.length (sw.discards.get (reasonIndex r'))
      else sw.discards.get (reasonIndex r') := by
  induction fs generalizing sw with
  | nil => simp
  | cons f fs ih =>
    rw [discardAll_cons, ih, discardFrame_discards, Tab.get_modify]
    by_cases h : r' = r
    · subst h
      rw [if_pos rfl, if_pos rfl, if_pos rfl]
      rfl
    · rw [if_neg h, if_neg h, if_neg fun e => h (reasonIndex_inj.1 e).symm]

/-- The newest records stand first, at most eight. -/
theorem recordsAfter_cons (x : Place × Frame) (lost : List (Place × Frame))
    (old : List DiscardRecord) :
    recordsAfter c r (x :: lost) old =
      recordsAfter c r lost ((recordOfFrame c r x.1 x.2 :: old).take 8) := by
  unfold recordsAfter
  rw [take_append_take, List.map_cons, List.reverse_cons, List.append_assoc]
  rfl

theorem recordsAfter_nil {old : List DiscardRecord} (h : old.length ≤ 8) :
    recordsAfter c r [] old = old := List.take_of_length_le h

theorem recordsAfter_length (lost : List (Place × Frame)) (old : List DiscardRecord) :
    (recordsAfter c r lost old).length ≤ 8 := List.length_take_le _ _

theorem recordsAfter_append (lost more : List (Place × Frame)) {old : List DiscardRecord}
    (h : old.length ≤ 8) :
    recordsAfter c r (lost ++ more) old = recordsAfter c r more (recordsAfter c r lost old) := by
  induction lost generalizing old with
  | nil => rw [recordsAfter_nil c r h, List.nil_append]
  | cons x lost ih =>
    rw [List.cons_append, recordsAfter_cons, recordsAfter_cons, ih (List.length_take_le _ _)]

theorem discardAll_records {sw : FrameSwitch} (h : sw.records.length ≤ 8) :
    (discardAll c r p fs sw).records =
      recordsAfter c r (fs.map fun f => (p, f)) sw.records := by
  induction fs generalizing sw with
  | nil => exact (recordsAfter_nil c r h).symm
  | cons f fs ih =>
    rw [discardAll_cons, ih (List.length_take_le _ _), List.map_cons, recordsAfter_cons]
    rfl

end

/-! ## Frames placed for as long as the next fits (R31, R59) -/

/-- `placeWhile` takes a run from the head, as long as it fits. -/
theorem placeWhile_run (left : Nat) (fs : List Frame) :
    ∃ n, n ≤ fs.length ∧ placeWhile left fs = (fs.take n, fs.drop n) ∧
      extents (fs.take n) ≤ left ∧ (n < fs.length → left < extents (fs.take (n + 1))) := by
  induction fs generalizing left with
  | nil => exact ⟨0, le_rfl, rfl, Nat.zero_le _, fun h => absurd h (Nat.lt_irrefl 0)⟩
  | cons f fs ih =>
    unfold placeWhile
    split
    · next hf =>
      obtain ⟨n, hn, hp, hfit, hstop⟩ := ih (left - extent f)
      refine ⟨n + 1, Nat.succ_le_succ hn, ?_, ?_, fun h => ?_⟩
      · rw [hp]
        rfl
      · rw [List.take_succ_cons, extents_cons]
        omega
      · have := hstop (Nat.lt_of_succ_lt_succ h)
        rw [List.take_succ_cons, extents_cons]
        omega
    · next hf =>
      refine ⟨0, Nat.zero_le _, rfl, Nat.zero_le _, fun _ => ?_⟩
      rw [List.take_succ_cons, extents_cons]
      omega

/-! ## The visit of one queue (R57, R58) -/

/-- The frames that outgrow B at the head of a budgeted queue are discarded, and the visit goes on
(R58). -/
theorem visitQueue_oversize (c : Half) {q : QueueName} (hq : budgeted q = true) {big : List Frame}
    (rest : List Frame) {x : Fill} (h : ∀ f ∈ big, x.sw.budget < extent f) :
    visitQueue c q (big ++ rest) x =
      visitQueue c q rest { x with sw := discardAll c .noRoom (.queue q) big x.sw } := by
  induction big generalizing x with
  | nil => rfl
  | cons f fs ih =>
    have hf : (budgeted q && decide (x.sw.budget < extent f)) = true := by
      rw [hq, decide_eq_true (h f List.mem_cons_self)]
      rfl
    rw [List.cons_append, visitQueue, if_pos hf, discardAll_cons]
    exact ih (x := { x with sw := discardFrame c .noRoom (.queue q) f x.sw })
      fun g hg => h g (List.mem_cons_of_mem f hg)

/-- The octets of a run that count against the budget. -/
def budgetOf (q : QueueName) (fs : List Frame) : Nat := if budgeted q then extents fs else 0

/-- Frames of a queue counted as added. -/
def countAdded (q : QueueName) (n : Nat) (sw : FrameSwitch) : FrameSwitch :=
  { sw with added := sw.added.modify (queueIndex q) (bumps n) }

theorem countAdded_zero (q : QueueName) (sw : FrameSwitch) : countAdded q 0 sw = sw := by
  unfold countAdded
  rw [show (bumps 0 : Nat → Nat) = id from rfl, tab_modify_id]

theorem countAdded_placeAdd (q : QueueName) (n : Nat) (f : Frame) (x : Fill) :
    countAdded q n (placeAdd q f x).sw = countAdded q (n + 1) x.sw := by
  unfold countAdded placeAdd
  dsimp only
  rw [tab_modify_modify]
  rfl

/-- The visit of a queue `fs` by the fill `x` has taken `n` frames from its head and left `y`. -/
structure Visited (q : QueueName) (fs : List Frame) (x : Fill) (n : Nat) (y : Fill) : Prop where
  le     : n ≤ fs.length
  placed : y.placed = x.placed ++ fs.take n
  left   : y.left + extents (fs.take n) = x.left
  used   : y.used = x.used + budgetOf q (fs.take n)
  budget : x.used ≤ x.sw.budget → y.used ≤ x.sw.budget
  stop   : ∀ f ∈ (fs.drop n).head?, x.left < extents (fs.take n) + extent f ∨
    (budgeted q = true ∧ x.sw.budget < x.used + extents (fs.take n) + extent f)
  sw     : y.sw = countAdded q n x.sw

/-- A head that is not placed ends the visit. -/
theorem Visited.none {q : QueueName} {f : Frame} {fs : List Frame} {x : Fill}
    (hm : ¬ mayPlace q f x = true) : Visited q (f :: fs) x 0 x := by
  refine ⟨Nat.zero_le _, by simp, rfl, by simp [budgetOf], id, fun g hg => ?_,
    (countAdded_zero q x.sw).symm⟩
  obtain rfl : f = g := by simpa using hg
  rw [mayPlace_iff, not_and_or] at hm
  rw [List.take_zero, extents_nil]
  rcases hm with hm | hm
  · exact .inl (by omega)
  · rw [Classical.not_imp] at hm
    exact .inr ⟨hm.1, by omega⟩

/-- A head that is placed adds to the run of the rest. -/
theorem Visited.cons {q : QueueName} {f : Frame} {fs : List Frame} {x y : Fill} {n : Nat}
    (hm : mayPlace q f x = true) (h : Visited q fs (placeAdd q f x) n y) :
    Visited q (f :: fs) x (n + 1) y := by
  obtain ⟨hfit, hbud⟩ := mayPlace_iff.1 hm
  have hle : (placeAdd q f x).left = x.left - extent f := rfl
  have hus : (placeAdd q f x).used = if budgeted q then x.used + extent f else x.used := rfl
  have hbu : (placeAdd q f x).sw.budget = x.sw.budget := rfl
  refine ⟨Nat.succ_le_succ h.le, ?_, ?_, ?_, fun h0 => h.budget ?_, fun g hg => ?_,
    h.sw.trans (countAdded_placeAdd q n f x)⟩
  · rw [h.placed]
    simp [placeAdd]
  · have := h.left
    rw [List.take_succ_cons, extents_cons]
    omega
  · rw [h.used, hus, List.take_succ_cons]
    unfold budgetOf
    rw [extents_cons]
    split <;> omega
  · rw [hus, hbu]
    split
    · next hq => exact hbud hq
    · exact h0
  · rw [List.take_succ_cons, extents_cons]
    rcases h.stop g hg with h1 | ⟨hq, h1⟩
    · exact .inl (by omega)
    · rw [hus, if_pos hq, hbu] at h1
      exact .inr ⟨hq, by omega⟩

/-- A queue without a frame that outgrows B gives a run of frames from its head (R57). -/
theorem visitQueue_run (c : Half) (q : QueueName) (fs : List Frame) {x : Fill}
    (h : budgeted q = true → ∀ f ∈ fs, extent f ≤ x.sw.budget) :
    ∃ n y, visitQueue c q fs x = (fs.drop n, y) ∧ Visited q fs x n y := by
  induction fs generalizing x with
  | nil =>
    exact ⟨0, x, rfl, le_rfl, by simp, rfl, by simp [budgetOf], id, by simp,
      (countAdded_zero q x.sw).symm⟩
  | cons f fs ih =>
    have hno : ¬(budgeted q && decide (x.sw.budget < extent f)) = true := by
      simpa using fun hq => h hq f List.mem_cons_self
    rw [visitQueue, if_neg hno]
    by_cases hm : mayPlace q f x = true
    · obtain ⟨n, y, hv, hrun⟩ := ih (x := placeAdd q f x)
        fun hq g hg => h hq g (List.mem_cons_of_mem f hg)
      exact ⟨n + 1, y, by rw [if_pos hm, hv]; rfl, hrun.cons hm⟩
    · exact ⟨0, x, by rw [if_neg hm]; rfl, .none hm⟩

/-! ## The queues one after another (R57) -/

/-- The frames that `n` takes from the heads of the queues. -/
def takenFrom (sw : FrameSwitch) (n : QueueName → Nat) (qs : List QueueName) : List Frame :=
  qs.flatMap fun q => (queueFrames sw q).take (n q)

theorem takenFrom_cons (sw : FrameSwitch) (n : QueueName → Nat) (q : QueueName)
    (qs : List QueueName) :
    takenFrom sw n (q :: qs) = (queueFrames sw q).take (n q) ++ takenFrom sw n qs := rfl

theorem takenFrom_congr {sw sw' : FrameSwitch} {n n' : QueueName → Nat} {qs : List QueueName}
    (hq : ∀ q ∈ qs, queueFrames sw' q = queueFrames sw q) (hn : ∀ q ∈ qs, n' q = n q) :
    takenFrom sw' n' qs = takenFrom sw n qs := by
  unfold takenFrom
  exact List.flatMap_congr fun q h => by rw [hq q h, hn q h]

/-- The queues visited up to and with `q`. -/
def upTo (qs : List QueueName) (q : QueueName) : List QueueName := qs.takeWhile (· ≠ q) ++ [q]

theorem upTo_cons_self (q : QueueName) (qs : List QueueName) : upTo (q :: qs) q = [q] := by
  simp [upTo]

theorem upTo_cons_ne {q r : QueueName} (h : r ≠ q) (qs : List QueueName) :
    upTo (r :: qs) q = r :: upTo qs q := by
  simp [upTo, h]

theorem mem_of_mem_upTo {qs : List QueueName} {q r : QueueName} (hq : q ∈ qs)
    (h : r ∈ upTo qs q) : r ∈ qs := by
  rcases List.mem_append.1 h with h | h
  · exact (List.takeWhile_sublist _).mem h
  · rw [List.mem_singleton.1 h]
    exact hq

/-- The visits of `qs` by the fill `x` have taken `n q` frames from the head of each queue and left
`y`. -/
structure FilledBy (qs : List QueueName) (x : Fill) (n : QueueName → Nat) (y : Fill) : Prop where
  le     : ∀ q, n q ≤ (queueFrames x.sw q).length
  other  : ∀ q, q ∉ qs → n q = 0
  queues : ∀ q, queueFrames y.sw q = (queueFrames x.sw q).drop (n q)
  placed : y.placed = x.placed ++ takenFrom x.sw n qs
  left   : y.left + extents (takenFrom x.sw n qs) = x.left
  used   : y.used = x.used + extents (takenFrom x.sw n (qs.filter budgeted))
  budget : x.used ≤ x.sw.budget → y.used ≤ x.sw.budget
  stop   : ∀ q ∈ qs, ∀ f ∈ ((queueFrames x.sw q).drop (n q)).head?,
    x.left < extents (takenFrom x.sw n (upTo qs q)) + extent f ∨
    (budgeted q = true ∧
      x.sw.budget < x.used + extents (takenFrom x.sw n ((upTo qs q).filter budgeted)) + extent f)
  added  : ∀ q, y.sw.added.get (queueIndex q) = bumps (n q) (x.sw.added.get (queueIndex q))
  sw     : y.sw.budget = x.sw.budget ∧ y.sw.discards = x.sw.discards ∧
    y.sw.records = x.sw.records ∧ y.sw.holding = x.sw.holding ∧ y.sw.pool = x.sw.pool

theorem queueIndex_inj {q r : QueueName} : queueIndex q = queueIndex r ↔ q = r := by
  cases q <;> cases r <;> decide

/-- The queue left after its visit, in the switch the visit leaves. -/
theorem countAdded_queueFrames (q r : QueueName) (n : Nat) (sw : FrameSwitch) :
    queueFrames (countAdded q n sw) r = queueFrames sw r := by cases r <;> rfl

theorem FilledBy.nil (x : Fill) : FilledBy [] x (fun _ => 0) x :=
  ⟨fun _ => Nat.zero_le _, fun _ _ => rfl, fun _ => rfl, by simp [takenFrom], rfl, rfl, id,
    fun _ h => (by cases h), fun _ => rfl, rfl, rfl, rfl, rfl, rfl⟩

/-- One queue more before the others. -/
theorem FilledBy.cons {q : QueueName} {qs : List QueueName} {x y z : Fill} {k : Nat}
    {n : QueueName → Nat} (hq : q ∉ qs) (hv : Visited q (queueFrames x.sw q) x k y)
    (hf : FilledBy qs { y with sw := setQueue q ((queueFrames x.sw q).drop k) y.sw } n z) :
    FilledBy (q :: qs) x (fun r => if r = q then k else n r) z := by
  set m : QueueName → Nat := fun r => if r = q then k else n r with hm
  set y' : Fill := { y with sw := setQueue q ((queueFrames x.sw q).drop k) y.sw } with hy'
  have hmq : m q = k := if_pos rfl
  have hmr : ∀ r, r ≠ q → m r = n r := fun r hr => if_neg hr
  have hne : ∀ r ∈ qs, r ≠ q := fun r hr e => hq (e ▸ hr)
  have hqueue : ∀ r, queueFrames y'.sw r =
      if q = r then (queueFrames x.sw q).drop k else queueFrames x.sw r := fun r => by
    rw [hy', queueFrames_setQueue, hv.sw, countAdded_queueFrames]
  have hother : ∀ r, r ≠ q → queueFrames y'.sw r = queueFrames x.sw r := fun r hr => by
    rw [hqueue, if_neg (Ne.symm hr)]
  have htaken : ∀ rs, (∀ r ∈ rs, r ∈ qs) → takenFrom x.sw m rs = takenFrom y'.sw n rs :=
    fun rs hrs => takenFrom_congr (fun r hr => (hother r (hne r (hrs r hr))).symm)
      fun r hr => hmr r (hne r (hrs r hr))
  have hbud : y'.sw.budget = x.sw.budget := by rw [hy', setQueue_budget, hv.sw]; rfl
  have hleft : y'.left = y.left := rfl
  have hused : y'.used = y.used := rfl
  have hfilter : ∀ rs, takenFrom x.sw m ((q :: rs).filter budgeted) =
      (if budgeted q then (queueFrames x.sw q).take k else []) ++
        takenFrom x.sw m (rs.filter budgeted) := fun rs => by
    rw [List.filter_cons]
    split
    · rw [takenFrom_cons, hmq]
    · rfl
  have hbo : extents (if budgeted q then (queueFrames x.sw q).take k else []) =
      budgetOf q ((queueFrames x.sw q).take k) := by
    unfold budgetOf
    split <;> rfl
  obtain ⟨hswb, hswd, hswr, hswh, hswp⟩ := hf.sw
  refine ⟨fun r => ?_, fun r hr => ?_, fun r => ?_, ?_, ?_, ?_, fun h0 => ?_, fun r hr f hfr => ?_,
    fun r => ?_, ?_⟩
  · by_cases h : r = q
    · rw [h, hmq]
      exact hv.le
    · rw [hmr r h, ← hother r h]
      exact hf.le r
  · rw [hmr r fun h => hr (h ▸ List.mem_cons_self)]
    exact hf.other r fun h => hr (List.mem_cons_of_mem q h)
  · rw [hf.queues, hqueue]
    by_cases h : r = q
    · subst h
      rw [if_pos rfl, hmq, hf.other r hq, List.drop_zero]
    · rw [if_neg (Ne.symm h), hmr r h]
  · rw [hf.placed, takenFrom_cons, hmq, htaken qs fun _ => id, ← List.append_assoc, ← hv.placed]
  · have h1 := hf.left
    have h2 := hv.left
    rw [takenFrom_cons, hmq, extents_append, htaken qs fun _ => id]
    omega
  · have h1 := hf.used
    have h2 := hv.used
    rw [hfilter, extents_append, hbo, htaken _ fun r hr => (List.mem_filter.1 hr).1]
    omega
  · have h1 := hv.budget h0
    have h2 := hf.budget
    rw [hbud, hused] at h2
    exact h2 h1
  · by_cases h : r = q
    · subst h
      rw [hmq] at hfr
      rw [upTo_cons_self, hfilter, takenFrom_cons, hmq, extents_append, extents_append, hbo]
      rcases hv.stop f hfr with h1 | ⟨hb, h1⟩
      · exact .inl (by simpa [takenFrom] using h1)
      · refine .inr ⟨hb, ?_⟩
        rw [budgetOf, if_pos hb]
        simpa [takenFrom] using h1
    · have hrq : r ∈ qs := (List.mem_cons.1 hr).resolve_left h
      rw [hmr r h, ← hother r h] at hfr
      have h1 := hv.left
      have h2 := hv.used
      rw [upTo_cons_ne (Ne.symm h), hfilter, takenFrom_cons, hmq, extents_append, extents_append,
        hbo, htaken _ fun s hs => mem_of_mem_upTo hrq hs,
        htaken _ fun s hs => mem_of_mem_upTo hrq (List.mem_filter.1 hs).1]
      rcases hf.stop r hrq f hfr with h3 | ⟨hb, h3⟩
      · exact .inl (by omega)
      · rw [hbud, hused] at h3
        exact .inr ⟨hb, by omega⟩
  · rw [hf.added, hy']
    dsimp only
    rw [setQueue_added, hv.sw, countAdded]
    dsimp only
    rw [Tab.get_modify]
    by_cases h : r = q
    · subst h
      rw [if_pos rfl, hmq, hf.other r hq]
      rfl
    · rw [if_neg fun e => h (queueIndex_inj.1 e).symm, hmr r h]
  · rw [hswb, hswd, hswr, hswh, hswp, hy', hv.sw]
    exact ⟨setQueue_budget .., setQueue_discards .., setQueue_records .., setQueue_holding ..,
      setQueue_pool ..⟩

/-- The fill of queues without a frame that outgrows B (R57). -/
theorem fillQueues_run (c : Half) {qs : List QueueName} (hnd : qs.Nodup) {x : Fill}
    (h : ∀ q ∈ qs, budgeted q = true → ∀ f ∈ queueFrames x.sw q, extent f ≤ x.sw.budget) :
    ∃ n, FilledBy qs x n (qs.foldl (fillQueue c) x) := by
  induction qs generalizing x with
  | nil => exact ⟨_, .nil x⟩
  | cons q qs ih =>
    obtain ⟨hq, hnd⟩ := List.nodup_cons.1 hnd
    obtain ⟨k, y, hvis, hv⟩ := visitQueue_run c q (queueFrames x.sw q) (h q List.mem_cons_self)
    have hstep : fillQueue c x q =
        { y with sw := setQueue q ((queueFrames x.sw q).drop k) y.sw } := by
      unfold fillQueue
      dsimp only
      rw [hvis]
    rw [List.foldl_cons, hstep]
    obtain ⟨n, hn⟩ := ih hnd
      (x := { y with sw := setQueue q ((queueFrames x.sw q).drop k) y.sw }) fun r hr hb f hf => by
        have hne : q ≠ r := fun e => hq (e ▸ hr)
        rw [queueFrames_setQueue, if_neg hne, hv.sw, countAdded_queueFrames] at hf
        rw [setQueue_budget, hv.sw]
        exact h r (List.mem_cons_of_mem q hr) hb f hf
    exact ⟨_, .cons hq hv hn⟩

end Sys2Proof.Machine
end

section
/-! PROOFS. Ring cycles and line ports, part 26: what a fill depends on, what it leaves, and the
master's transit (R57 to R60). -/

namespace Sys2Proof.Machine

set_option Elab.async false

/-! ## A fill depends on the queues, the budget and the octets left (R57) -/

/-- Two fills stand alike, as far as the queues that `P` names. -/
structure SameFill (P : QueueName → Prop) (x y : Fill) : Prop where
  left   : y.left = x.left
  used   : y.used = x.used
  placed : y.placed = x.placed
  budget : y.sw.budget = x.sw.budget
  queues : ∀ q, P q → queueFrames y.sw q = queueFrames x.sw q

theorem SameFill.mayPlace {P : QueueName → Prop} {x y : Fill} (h : SameFill P x y) (q : QueueName)
    (f : Frame) : Machine.mayPlace q f y = Machine.mayPlace q f x := by
  unfold Machine.mayPlace
  rw [h.left, h.used, h.budget]

theorem placeAdd_queueFrames (q r : QueueName) (f : Frame) (x : Fill) :
    queueFrames (placeAdd q f x).sw r = queueFrames x.sw r := by cases r <;> rfl

theorem SameFill.placeAdd {P : QueueName → Prop} {x y : Fill} (h : SameFill P x y) (q : QueueName)
    (f : Frame) : SameFill P (Machine.placeAdd q f x) (Machine.placeAdd q f y) := by
  refine ⟨?_, ?_, ?_, h.budget, fun r hr => ?_⟩
  · unfold Machine.placeAdd
    dsimp only
    rw [h.left]
  · unfold Machine.placeAdd
    dsimp only
    rw [h.used]
  · unfold Machine.placeAdd
    dsimp only
    rw [h.placed]
  · rw [placeAdd_queueFrames, placeAdd_queueFrames, h.queues r hr]

/-- What a fill has discarded bears on no later visit. -/
theorem SameFill.discard {P : QueueName → Prop} {x y : Fill} (h : SameFill P x y)
    {sw sw' : FrameSwitch} (hb : sw.budget = x.sw.budget) (hb' : sw'.budget = y.sw.budget)
    (hq : ∀ q, queueFrames sw q = queueFrames x.sw q)
    (hq' : ∀ q, queueFrames sw' q = queueFrames y.sw q) :
    SameFill P { x with sw := sw } { y with sw := sw' } :=
  ⟨h.left, h.used, h.placed, hb'.trans (h.budget.trans hb.symm), fun q hp => by
    rw [hq, hq', h.queues q hp]⟩

theorem SameFill.visit {P : QueueName → Prop} (c c' : Half) (q : QueueName) (fs : List Frame)
    {x y : Fill} (h : SameFill P x y) :
    (visitQueue c' q fs y).1 = (visitQueue c q fs x).1 ∧
      SameFill P (visitQueue c q fs x).2 (visitQueue c' q fs y).2 := by
  induction fs generalizing x y with
  | nil => exact ⟨rfl, h⟩
  | cons f fs ih =>
    unfold visitQueue
    rw [h.budget, h.mayPlace]
    split
    · exact ih (h.discard rfl rfl (fun r => queueFrames_discardFrame ..)
        fun r => queueFrames_discardFrame ..)
    split
    · exact ih (h.placeAdd q f)
    · exact ⟨rfl, h⟩

/-- The visit of a queue, told as the list it visits. -/
def afterVisit (q : QueueName) (r : List Frame × Fill) : Fill :=
  { r.2 with sw := setQueue q r.1 r.2.sw }

theorem fillQueue_eq (c : Half) (x : Fill) (q : QueueName) :
    fillQueue c x q = afterVisit q (visitQueue c q (queueFrames x.sw q) x) := rfl

/-- A queue visited alike stands alike, whatever it held before. -/
theorem SameFill.afterVisit {P : QueueName → Prop} (c c' : Half) (q : QueueName) (fs : List Frame)
    {x y : Fill} (h : SameFill P x y) :
    SameFill (fun r => P r ∨ r = q) (Machine.afterVisit q (visitQueue c q fs x))
      (Machine.afterVisit q (visitQueue c' q fs y)) := by
  obtain ⟨hl, hs⟩ := h.visit c c' q fs
  unfold Machine.afterVisit
  refine ⟨hs.left, hs.used, hs.placed, ?_, fun r hr => ?_⟩
  · rw [setQueue_budget, setQueue_budget, hs.budget]
  · rw [queueFrames_setQueue, queueFrames_setQueue, hl]
    split
    · rfl
    · next hne => exact hs.queues r (hr.resolve_right (Ne.symm hne))

theorem SameFill.mono {P Q : QueueName → Prop} {x y : Fill} (h : SameFill P x y)
    (hq : ∀ q, Q q → P q) : SameFill Q x y :=
  ⟨h.left, h.used, h.placed, h.budget, fun q hp => h.queues q (hq q hp)⟩

theorem SameFill.foldl {P : QueueName → Prop} (c c' : Half) {qs : List QueueName}
    (hqs : ∀ q ∈ qs, P q) {x y : Fill} (h : SameFill P x y) :
    SameFill P (qs.foldl (fillQueue c) x) (qs.foldl (fillQueue c') y) := by
  induction qs generalizing x y with
  | nil => exact h
  | cons q qs ih =>
    refine ih (fun r hr => hqs r (List.mem_cons_of_mem q hr)) ?_
    rw [fillQueue_eq, fillQueue_eq, h.queues q (hqs q List.mem_cons_self)]
    exact (h.afterVisit c c' q _).mono fun r => .inl

/-- The adds are those of the queues, the budget and the octets left. -/
theorem fillAdds_congr (left : Nat) {s t : State} (hb : t.sw.budget = s.sw.budget)
    (hq : ∀ q, queueFrames t.sw q = queueFrames s.sw q) :
    (fillAdds left t).2 = (fillAdds left s).2 ∧
      ∀ q, queueFrames (fillAdds left t).1.sw q = queueFrames (fillAdds left s).1.sw q := by
  have h : SameFill (fun _ => True) (filled left s) (filled left t) := by
    unfold filled
    exact SameFill.foldl _ _ (fun _ _ => trivial) ⟨rfl, rfl, rfl, hb, fun q _ => hq q⟩
  rw [fillAdds_eq, fillAdds_eq]
  dsimp only
  exact ⟨h.placed, fun q => h.queues q trivial⟩

/-! ## What a fill leaves of the switch -/

/-- A fill moves the queues, the counts of added frames and, for NO_ROOM, those of discards. -/
structure FillLeaves (sw sw' : FrameSwitch) : Prop where
  pool    : sw'.pool = sw.pool
  holding : sw'.holding = sw.holding
  count   : ∀ r, r ≠ .noRoom →
    sw'.discards.get (reasonIndex r) = sw.discards.get (reasonIndex r)

theorem FillLeaves.refl (sw : FrameSwitch) : FillLeaves sw sw := ⟨rfl, rfl, fun _ _ => rfl⟩

theorem FillLeaves.trans {a b c : FrameSwitch} (h : FillLeaves a b) (k : FillLeaves b c) :
    FillLeaves a c :=
  ⟨k.pool.trans h.pool, k.holding.trans h.holding, fun r hr => (k.count r hr).trans (h.count r hr)⟩

theorem discardFrame_leaves (c : Half) (p : Place) (f : Frame) (sw : FrameSwitch) :
    FillLeaves sw (discardFrame c .noRoom p f sw) :=
  ⟨rfl, rfl, fun r hr => by
    rw [discardFrame_discards, Tab.get_modify, if_neg fun e => hr (reasonIndex_inj.1 e).symm]⟩

theorem visitQueue_leaves (c : Half) (q : QueueName) (fs : List Frame) (x : Fill) :
    FillLeaves x.sw (visitQueue c q fs x).2.sw := by
  induction fs generalizing x with
  | nil => exact .refl _
  | cons f fs ih =>
    unfold visitQueue
    split
    · exact (discardFrame_leaves c _ f x.sw).trans
        (ih { x with sw := discardFrame c .noRoom (.queue q) f x.sw })
    split
    · have hp : FillLeaves x.sw (placeAdd q f x).sw := ⟨rfl, rfl, fun _ _ => rfl⟩
      exact hp.trans (ih (placeAdd q f x))
    · exact .refl _

theorem fillAdds_leaves (left : Nat) (s : State) : FillLeaves s.sw (fillAdds left s).1.sw := by
  have h : ∀ (qs : List QueueName) (x : Fill),
      FillLeaves x.sw (qs.foldl (fillQueue s.timer.number) x).sw := fun qs => by
    induction qs with
    | nil => exact fun x => .refl _
    | cons q qs ih =>
      intro x
      refine FillLeaves.trans ((visitQueue_leaves s.timer.number q
        (queueFrames x.sw q) x).trans ?_) (ih (fillQueue s.timer.number x q))
      rw [fillQueue_eq]
      exact ⟨setQueue_pool .., setQueue_holding .., fun r _ => by
        unfold afterVisit
        rw [setQueue_discards]⟩
  rw [fillAdds_eq]
  exact h allQueues { left, used := 0, placed := [], sw := s.sw }

/-! ## The frames kept back (R60) -/

/-- The holding buffer with a frame kept back, while it has room. -/
def heldWith (x : List Frame) (f : Frame) : List Frame :=
  if extents x + extent f ≤ 2048 then x ++ [f] else x

/-- A frame kept back moves the holding buffer or is discarded. -/
theorem joinHolding_cases (c : Half) (sw : FrameSwitch) (f : Frame) :
    joinHolding c sw f = { sw with holding := heldWith sw.holding f } ∧
        (heldWith sw.holding f).length = sw.holding.length + 1 ∨
      joinHolding c sw f = discardFrame c .noRoom .holding f sw ∧
        heldWith sw.holding f = sw.holding := by
  unfold joinHolding heldWith
  split
  · exact .inl ⟨rfl, by simp⟩
  · exact .inr ⟨rfl, rfl⟩

/-- The frames kept back leave the queues, B and what was added; each either joins the buffer or is
discarded with NO_ROOM. -/
structure Holds (fs : List Frame) (sw sw' : FrameSwitch) : Prop where
  holding : sw'.holding = fs.foldl heldWith sw.holding
  count   : sw'.holding.length ≤ sw.holding.length + fs.length
  lost    : sw'.discards.get (reasonIndex .noRoom) =
    bumps (sw.holding.length + fs.length - sw'.holding.length)
      (sw.discards.get (reasonIndex .noRoom))
  others  : ∀ r, r ≠ .noRoom →
    sw'.discards.get (reasonIndex r) = sw.discards.get (reasonIndex r)
  pool    : sw'.pool = sw.pool
  budget  : sw'.budget = sw.budget
  queues  : ∀ q, queueFrames sw' q = queueFrames sw q

theorem foldl_joinHolding (c : Half) (fs : List Frame) (sw : FrameSwitch) :
    Holds fs sw (fs.foldl (joinHolding c) sw) := by
  induction fs generalizing sw with
  | nil => exact ⟨rfl, le_rfl, by simp, fun _ _ => rfl, rfl, rfl, fun _ => rfl⟩
  | cons f fs ih =>
    have h := ih (joinHolding c sw f)
    rw [List.foldl_cons]
    rcases joinHolding_cases c sw f with ⟨hj, hl⟩ | ⟨hj, hl⟩
    · rw [hj] at h ⊢
      have hcount := h.count
      have hlost := h.lost
      dsimp only at hcount hlost
      rw [hl] at hcount hlost
      refine ⟨h.holding, ?_, ?_, h.others, h.pool, h.budget, fun q => (h.queues q).trans ?_⟩
      · rw [List.length_cons]
        omega
      · rw [hlost, List.length_cons]
        congr 1
        omega
      · cases q <;> rfl
    · rw [hj] at h ⊢
      have hcount := h.count
      have hlost := h.lost
      rw [discardFrame_holding] at hcount hlost
      rw [discardFrame_discards, Tab.get_modify, if_pos rfl] at hlost
      refine ⟨?_, ?_, ?_, fun r hr => ?_, h.pool, h.budget, fun q => (h.queues q).trans ?_⟩
      · rw [h.holding, List.foldl_cons, hl]
        rfl
      · rw [List.length_cons]
        omega
      · rw [hlost, List.length_cons, show sw.holding.length + (fs.length + 1) -
          (fs.foldl (joinHolding c) (discardFrame c .noRoom .holding f sw)).holding.length =
          sw.holding.length + fs.length -
          (fs.foldl (joinHolding c) (discardFrame c .noRoom .holding f sw)).holding.length + 1 by
            omega, bumps_succ]
      · rw [h.others r hr]
        exact (discardFrame_leaves c _ f sw).count r hr
      · exact queueFrames_discardFrame ..

/-- The master's transit (R59): `a` held frames, then, when none is left, `b` of the pool, each for as
long as the next fits; the rest of the pool is kept back. -/
structure Transit (zone : Nat) (sw : FrameSwitch) (a b : Nat) (sw' : FrameSwitch)
    (fs : List Frame) : Prop where
  placed    : fs = sw.holding.take a ++ sw.pool.take b
  heldLe    : a ≤ sw.holding.length
  poolLe    : b ≤ sw.pool.length
  fits      : extents fs ≤ zone
  heldStops : a < sw.holding.length → b = 0 ∧ zone < extents (sw.holding.take (a + 1))
  poolStops : a = sw.holding.length → b < sw.pool.length →
    zone < extents (sw.holding ++ sw.pool.take (b + 1))
  pool      : sw'.pool = []
  kept      : Holds (sw.pool.drop b) { sw with holding := sw.holding.drop a, pool := [] } sw'

theorem placeTransit_run (c : Half) (zone : Nat) (sw : FrameSwitch) :
    ∃ a b, Transit zone sw a b (placeTransit c zone sw).1 (placeTransit c zone sw).2 := by
  obtain ⟨a, ha, hpa, hfa, hsa⟩ := placeWhile_run zone sw.holding
  by_cases hd : sw.holding.drop a = []
  · have hfull : a = sw.holding.length := by
      have := List.drop_eq_nil_iff.1 hd
      omega
    obtain ⟨b, hb, hpb, hfb, hsb⟩ :=
      placeWhile_run (zone - extents (sw.holding.take a)) sw.pool
    have heq : placeTransit c zone sw =
        ((sw.pool.drop b).foldl (joinHolding c) { sw with holding := sw.holding.drop a, pool := [] },
          sw.holding.take a ++ sw.pool.take b) := by
      unfold placeTransit
      dsimp only
      rw [hpa]
      dsimp only
      rw [if_pos hd, hpb]
    have hk := foldl_joinHolding c (sw.pool.drop b)
      { sw with holding := sw.holding.drop a, pool := [] }
    refine ⟨a, b, ?_⟩
    rw [heq]
    refine ⟨rfl, ha, hb, ?_, fun h => by omega, fun _ h => ?_, hk.pool, hk⟩
    · rw [extents_append]
      omega
    · have := hsb h
      rw [extents_append, ← List.take_of_length_le (l := sw.holding) hfull.ge]
      omega
  · have heq : placeTransit c zone sw =
        (sw.pool.foldl (joinHolding c) { sw with holding := sw.holding.drop a, pool := [] },
          sw.holding.take a ++ []) := by
      unfold placeTransit
      dsimp only
      rw [hpa]
      dsimp only
      rw [if_neg hd]
    have hk := foldl_joinHolding c sw.pool { sw with holding := sw.holding.drop a, pool := [] }
    have hlt : a < sw.holding.length := by
      rw [List.drop_eq_nil_iff] at hd
      omega
    refine ⟨a, 0, ?_⟩
    rw [heq]
    exact ⟨rfl, ha, Nat.zero_le _, by rw [List.append_nil]; exact hfa,
      fun h => ⟨rfl, hsa h⟩, fun h => by omega, hk.pool, hk⟩

end Sys2Proof.Machine
end

section
/-! PROOFS. Ring cycles and line ports, part 27: the cycles a master originates (O9). -/

namespace Sys2Proof.Machine

set_option Elab.async false

/-! ## The carrying of S (R31) -/

/-- The frames of a held cycle that have a hop left. -/
def withHops (fs : List Frame) : List Frame := fs.filter fun f => decide (2 ≤ f.hop.toNat)

section
variable {c : Half} {f : Frame} {x : Carry}

theorem carryFrame_expired (h : f.hop.toNat ≤ 1) :
    carryFrame c f x = { x with sw := discardFrame c .hopLimit (.port .e) f x.sw } := if_pos h

theorem carryFrame_kept (h : 2 ≤ f.hop.toNat) :
    carryFrame c f x =
      if (x.full || decide (x.left < extent f)) = true then
        { x with full := true, sw := discardFrame c .noRoom (.port .e) (hopped f) x.sw }
      else { x with left := x.left - extent f, placed := x.placed ++ [hopped f] } :=
  if_neg (by omega)

end

theorem withHops_cons_neg {f : Frame} {fs : List Frame} (h : f.hop.toNat ≤ 1) :
    withHops (f :: fs) = withHops fs := List.filter_cons_of_neg (by simp; omega)

theorem withHops_cons_pos {f : Frame} {fs : List Frame} (h : 2 ≤ f.hop.toNat) :
    withHops (f :: fs) = f :: withHops fs := List.filter_cons_of_pos (by simp; omega)

/-- The frames carried: those with a hop left, in order, for as long as the next fits. -/
theorem carry_placed (c : Half) (fs : List Frame) (x : Carry) :
    ((fs.map ZoneItem.frame).foldl (carryItem c) x).placed =
      x.placed ++ (if x.full then [] else (placeWhile x.left (withHops fs)).1).map hopped := by
  induction fs generalizing x with
  | nil => simp [withHops, placeWhile]
  | cons f fs ih =>
    rw [List.map_cons, List.foldl_cons, ih, carryItem]
    by_cases h : f.hop.toNat ≤ 1
    · rw [carryFrame_expired h, withHops_cons_neg h]
    · rw [carryFrame_kept (by omega), withHops_cons_pos (by omega), placeWhile]
      cases hx : x.full
      · by_cases hf : extent f ≤ x.left
        · rw [if_neg (by simpa using hf), if_pos hf]
          simp
        · rw [if_pos (by simpa using hf), if_neg hf]
          simp
      · simp

/-- HOP_LIMIT is counted for the frames without a hop left. -/
theorem carry_hopLimit (c : Half) (fs : List Frame) (x : Carry) :
    ((fs.map ZoneItem.frame).foldl (carryItem c) x).sw.discards.get (reasonIndex .hopLimit) =
      bumps (fs.length - (withHops fs).length) (x.sw.discards.get (reasonIndex .hopLimit)) := by
  induction fs generalizing x with
  | nil => rfl
  | cons f fs ih =>
    have hle : (withHops fs).length ≤ fs.length := List.length_filter_le _ _
    rw [List.map_cons, List.foldl_cons, ih, carryItem]
    by_cases h : f.hop.toNat ≤ 1
    · rw [carryFrame_expired h, withHops_cons_neg h, List.length_cons,
        show fs.length + 1 - (withHops fs).length = fs.length - (withHops fs).length + 1 by omega,
        bumps_succ, discardFrame_discards, Tab.get_modify, if_pos rfl]
    · rw [carryFrame_kept (by omega), withHops_cons_pos (by omega), List.length_cons, List.length_cons,
        Nat.add_sub_add_right]
      congr 1
      split
      · exact (discardFrame_leaves c (.port .e) (hopped f) x.sw).count .hopLimit (by decide)
      · rfl

/-- A carried zone leaves the pool. -/
theorem carryZone_pool (c : Half) (left : Nat) (zone : Octets) (sw : FrameSwitch) :
    (carryZone c left zone sw).1.pool = sw.pool := by
  have hi : ∀ (x : Carry) (i : ZoneItem), (carryItem c x i).sw.pool = x.sw.pool := fun x i => by
    cases i with
    | badHeader => rfl
    | tooLong h within => cases within <;> rfl
    | truncated => rfl
    | frame f =>
      show (carryFrame c f x).sw.pool = x.sw.pool
      unfold carryFrame
      split
      · rfl
      split <;> rfl
  have h : ∀ (is : List ZoneItem) (x : Carry), (is.foldl (carryItem c) x).sw.pool = x.sw.pool :=
    fun is => by
      induction is with
      | nil => exact fun _ => rfl
      | cons i is ih => exact fun x => (ih _).trans (hi x i)
  exact h (zoneItems zone) _

theorem carryVoice_get {u v k : Nat} (hk : k < u) (cycle : Octets) :
    (carryVoice u (voiceOf v cycle))[k]? =
      some (if k < v then (cycle.drop (10 + 8 * k)).take 8 else List.replicate 8 0xD5) := by
  rw [carryVoice, List.getElem?_map, List.getElem?_range hk, Option.map_some]
  congr 1
  split
  · next h => exact voiceOf_getD h cycle _
  · next h =>
    have hlen : ∀ (n : Nat) (os : Octets), (pieces 8 n os).length = n := fun n => by
      induction n with
      | zero => exact fun _ => rfl
      | succ n ih => exact fun os => congrArg Nat.succ (ih (os.drop 8))
    rw [List.getD_eq_default _ _ (by rw [voiceOf, hlen]; omega)]
    rfl

/-! ## The parts of an origination -/

theorem transmit_originated (p : Port) (cycle : Octets) (s : State) :
    (transmit p cycle s).period.originated = s.period.originated := by cases p <;> rfl

theorem sendFilled_originated (p : Port) (h : CycleHeader) (voice : List Octets)
    (transit : List Frame) (s : State) :
    (sendFilled p h voice transit s).period.originated = s.period.originated := by
  have hp : (fillAdds (zoneSize h.u.toNat - extents transit) s).1.period = s.period :=
    fillAdds_changes _ s .period (by decide)
  rw [sendFilled_eq]
  exact (transmit_originated p _ _).trans (congrArg Period.originated hp)

theorem masterHeader_congr {s t : State} (hn : t.timer.number = s.timer.number)
    (ha : t.alloc = s.alloc) (hp : t.pins = s.pins) : masterHeader t = masterHeader s := by
  unfold masterHeader
  rw [hn, ha, hp]

theorem masterHeader_u_eq (s : State) : (masterHeader s).u.toNat = currentU s.alloc := by
  have := currentU_le s.alloc
  show (BitVec.ofNat 8 (currentU s.alloc)).toNat = _
  rw [BitVec.toNat_ofNat]
  omega

/-- The header of the master as a port sends it (R7, R18). -/
def sentHeader (s : State) (p : Port) : CycleHeader :=
  { masterHeader s with farEnd := rxFaulted (portAt s p) }

section
variable (p : Port) (s : State)

/-- The state in which the master's transit has been placed (R59). -/
def transited : State :=
  s.modSw fun _ => (placeTransit s.timer.number (zoneSize (currentU s.alloc)) s.sw).1

/-- The transit placed. -/
def transitOf : List Frame :=
  (placeTransit s.timer.number (zoneSize (currentU s.alloc)) s.sw).2

theorem originateP_eq : originateP p s =
    sendFilled p (masterHeader s) (laneVoice (currentU s.alloc) s) (transitOf s) (transited s) := by
  unfold originateP transitOf transited
  dsimp only
  rw [masterHeader_u_eq]

theorem originateP_changes : Changes [.sw, .out, .period] s (originateP p s) := by
  rw [originateP_eq]
  exact ((modSw_changes _ s).mono (by decide)).trans (sendFilled_changes _ _ _ _ _)

theorem originateP_originated : (originateP p s).period.originated = s.period.originated := by
  rw [originateP_eq, sendFilled_originated]
  rfl

theorem originateP_sent : sentAt (originateP p s) p =
    encodeCycle (sentHeader s p) (laneVoice (currentU s.alloc) s)
      (filledFrames (masterHeader s) (transitOf s) (transited s)) := by
  rw [originateP_eq, sentAt_sendFilled, if_pos rfl]
  rfl

theorem originateP_other {q : Port} (h : p ≠ q) : sentAt (originateP p s) q = sentAt s q := by
  rw [originateP_eq, sentAt_sendFilled, if_neg h]
  rfl

theorem originateP_sw : (originateP p s).sw =
    (fillAdds (zoneSize (currentU s.alloc) - extents (transitOf s)) (transited s)).1.sw := by
  rw [originateP_eq, sendFilled_sw, masterHeader_u_eq]

/-- The pool is empty after a fill, and no hop is counted (R59). -/
theorem originateP_pool : (originateP p s).sw.pool = [] ∧
    (originateP p s).sw.discards.get (reasonIndex .hopLimit) =
      s.sw.discards.get (reasonIndex .hopLimit) := by
  obtain ⟨a, b, ht⟩ := placeTransit_run s.timer.number (zoneSize (currentU s.alloc)) s.sw
  have hf := fillAdds_leaves (zoneSize (currentU s.alloc) - extents (transitOf s)) (transited s)
  rw [originateP_sw]
  exact ⟨hf.pool.trans ht.pool, (hf.count .hopLimit (by decide)).trans
    (ht.kept.others .hopLimit (by decide))⟩

end

/-- The state that carries a held cycle, the hold given up (R31). -/
def unheld (s : State) : State := s.modProt fun p => { p with heldS := none }

theorem originateCarry_none {s : State} (h : s.prot.heldS = none) :
    originateCarry s = sendEmpty .w (masterHeader s) s := by
  unfold originateCarry
  rw [h]

theorem originateCarry_some {s : State} {cycle : Octets} {h : CycleHeader}
    (hs : s.prot.heldS = some cycle) (hd : decodeCycleHeader cycle = some h) :
    originateCarry s =
      sendCycle .w (masterHeader s)
        (carryVoice (currentU s.alloc) (voiceOf h.u.toNat cycle))
        (carryZone s.timer.number (zoneSize (currentU s.alloc)) (zoneOf h.u.toNat cycle) s.sw).2
        ((unheld s).modSw fun _ =>
          (carryZone s.timer.number (zoneSize (currentU s.alloc)) (zoneOf h.u.toNat cycle) s.sw).1) := by
  unfold originateCarry
  rw [hs]
  dsimp only
  rw [hd, masterHeader_u_eq]
  rfl

/-- An empty cycle of the master's, sent after what leaves the parts of its header. -/
theorem sentAt_empty {s t : State} (hl : t.line = s.line) (p : Port) :
    sentAt (sendEmpty p (masterHeader s) t) p =
      encodeCycle (sentHeader s p) (silentVoice (currentU s.alloc)) [] := by
  rw [sentAt_sendEmpty, if_pos rfl, masterHeader_u_eq, portAt_congr hl]
  rfl

/-- What the carrying leaves, whatever is held. -/
theorem originateCarry_fields (s : State) :
    Changes [.prot, .sw, .out, .period] s (originateCarry s) ∧
      (originateCarry s).prot = { s.prot with heldS := none } ∧
      (originateCarry s).sw.pool = s.sw.pool ∧
      (originateCarry s).period.originated = s.period.originated ∧
      sentAt (originateCarry s) .e = sentAt s .e ∧
      ∃ voice fs, sentAt (originateCarry s) .w = encodeCycle (sentHeader s .w) voice fs := by
  unfold originateCarry
  dsimp only
  split
  · next h =>
    have hc : Changes [.out, .period] s (sendEmpty .w (masterHeader s) s) := sendCycle_changes _ _ _ _ _
    have hsw : (sendEmpty .w (masterHeader s) s).sw = s.sw := hc .sw (by decide)
    refine ⟨hc.mono (by decide), (hc .prot (by decide)).trans ?_, by rw [hsw],
      transmit_originated .w _ s, ?_, _, _, sentAt_empty rfl .w⟩
    · rw [← h]
    · rw [sentAt_sendEmpty, if_neg (by decide)]
  · next cycle h =>
    refine ⟨((((modProt_changes _ s).mono (by decide)).trans
      ((modSw_changes _ _).mono (by decide))).trans ((sendCycle_changes _ _ _ _ _).mono (by decide))),
      rfl, carryZone_pool .., rfl, ?_, ?_⟩
    · rw [sentAt_sendCycle, if_neg (by decide)]
      rfl
    · rw [sentAt_sendCycle, if_pos rfl]
      exact ⟨_, _, rfl⟩

/-! ## The cycle on both ports (R30) -/

/-- What the master's two cycles hold, `s` being the state as their number is taken. -/
structure Originates (s t : State) : Prop where
  changes    : Changes [.prot, .sw, .out, .period] s t
  originated : t.period.originated = s.period.originated
  header     : ∀ p, ∃ voice fs, sentAt t p = encodeCycle (sentHeader s p) voice fs
  pool       : s.prot.state ≠ .isolated → t.sw.pool = []
  held       : s.prot.state = .ring → t.prot.heldS = none
  voice      : ∀ p, outPort s.prot.state = some p →
    ∃ fs, sentAt t p = encodeCycle (sentHeader s p) (laneVoice (currentU s.alloc) s) fs
  silent     : ∀ p, s.prot.state ≠ .ring → outPort s.prot.state ≠ some p →
    sentAt t p = encodeCycle (sentHeader s p) (silentVoice (currentU s.alloc)) []
  unheldW    : s.prot.state = .ring → s.prot.heldS = none →
    sentAt t .w = encodeCycle (sentHeader s .w) (silentVoice (currentU s.alloc)) []
  isolated   : s.prot.state = .isolated → t.sw = s.sw

theorem sentHeader_congr {s t : State} (hn : t.timer = s.timer) (ha : t.alloc = s.alloc)
    (hp : t.pins = s.pins) (hl : t.line = s.line) (p : Port) : sentHeader t p = sentHeader s p := by
  unfold sentHeader
  rw [masterHeader_congr (by rw [hn]) ha hp, portAt_congr hl]

/-- The master's P output and an empty cycle of the other port (R30). -/
theorem originates_wrap {s : State} {p q : Port} (hpq : p ≠ q) (hs : outPort s.prot.state = some p)
    (hr : s.prot.state ≠ .ring) (hi : s.prot.state ≠ .isolated) :
    Originates s (sendEmpty q (masterHeader s) (originateP p s)) := by
  have h1 := originateP_changes p s
  have h2 : Changes [.out, .period] (originateP p s)
      (sendEmpty q (masterHeader s) (originateP p s)) := sendCycle_changes _ _ _ _ _
  have hq := sentAt_empty (s := s) (t := originateP p s) (h1 .line (by decide)) q
  have hp : sentAt (sendEmpty q (masterHeader s) (originateP p s)) p = _ :=
    (by rw [sentAt_sendEmpty, if_neg (Ne.symm hpq)] :
      _ = sentAt (originateP p s) p).trans (originateP_sent p s)
  have hports : ∀ r, r ≠ p → r = q := fun r => by revert hpq; cases r <;> cases p <;> cases q <;> decide
  have hsw : (sendEmpty q (masterHeader s) (originateP p s)).sw = (originateP p s).sw :=
    h2 .sw (by decide)
  refine ⟨(h1.mono (by decide)).trans (h2.mono (by decide)),
    (transmit_originated q _ _).trans (originateP_originated p s), fun r => ?_, fun _ => ?_,
    fun h => absurd h hr, fun r hr' => ?_, fun r _ hne => ?_, fun h => absurd h hr,
    fun h => absurd h hi⟩
  · by_cases h : r = p
    · subst h
      exact ⟨_, _, hp⟩
    · rw [hports r h]
      exact ⟨_, _, hq⟩
  · rw [hsw]
    exact (originateP_pool p s).1
  · obtain rfl : p = r := Option.some.inj (hs.symm.trans hr')
    exact ⟨_, hp⟩
  · rw [hports r fun e => hne (e ▸ hs)]
    exact hq

theorem originates_ring {s : State} (hs : s.prot.state = .ring) :
    Originates s (originateCarry (originateP .e s)) := by
  have h1 := originateP_changes .e s
  obtain ⟨h2, hprot, hpool, horig, he, voice, fs, hw⟩ := originateCarry_fields (originateP .e s)
  have hh : sentHeader (originateP .e s) .w = sentHeader s .w :=
    sentHeader_congr (h1 .timer (by decide)) (h1 .alloc (by decide)) (h1 .pins (by decide))
      (h1 .line (by decide)) .w
  have he' := he.trans (originateP_sent .e s)
  rw [hh] at hw
  refine ⟨(h1.mono (by decide)).trans h2, horig.trans (originateP_originated .e s), fun r => ?_,
    fun _ => hpool.trans (originateP_pool .e s).1, fun _ => by rw [hprot], fun r hr => ?_,
    fun r hr _ => absurd hs hr, fun _ hn => ?_, fun h => absurd (hs.symm.trans h) (by decide)⟩
  · cases r
    · exact ⟨_, _, hw⟩
    · exact ⟨_, _, he'⟩
  · rw [hs] at hr
    obtain rfl : Port.e = r := Option.some.inj hr
    exact ⟨_, he'⟩
  · have hp : (originateP .e s).prot = s.prot := h1 .prot (by decide)
    rw [originateCarry_none (by rw [hp, hn]), masterHeader_congr
      (congrArg CycleTimer.number (h1 .timer (by decide))) (h1 .alloc (by decide))
      (h1 .pins (by decide))]
    exact sentAt_empty (h1 .line (by decide)) .w

theorem originates_isolated {s : State} (hs : s.prot.state = .isolated) :
    Originates s (sendEmpty .e (masterHeader s) (sendEmpty .w (masterHeader s) s)) := by
  have h1 : Changes [.out, .period] s (sendEmpty .w (masterHeader s) s) := sendCycle_changes _ _ _ _ _
  have h2 : Changes [.out, .period] (sendEmpty .w (masterHeader s) s)
      (sendEmpty .e (masterHeader s) (sendEmpty .w (masterHeader s) s)) := sendCycle_changes _ _ _ _ _
  have he := sentAt_empty (s := s) (h1 .line (by decide)) .e
  have hw : sentAt (sendEmpty .e (masterHeader s) (sendEmpty .w (masterHeader s) s)) .w =
      encodeCycle (sentHeader s .w) (silentVoice (currentU s.alloc)) [] := by
    rw [sentAt_sendEmpty, if_neg (by decide)]
    exact sentAt_empty rfl .w
  refine ⟨(h1.trans h2).mono (by decide),
    (transmit_originated .e _ _).trans (transmit_originated .w _ s), fun r => ?_,
    fun h => absurd hs h, fun h => absurd (hs.symm.trans h) (by decide),
    fun r hr => absurd (hs ▸ hr : outPort .isolated = some r) (by cases r <;> decide),
    fun r _ _ => ?_, fun h => absurd (hs.symm.trans h) (by decide),
    fun _ => (h1.trans h2) .sw (by decide)⟩
  · cases r
    · exact ⟨_, _, hw⟩
    · exact ⟨_, _, he⟩
  · cases r
    · exact hw
    · exact he

theorem sendOriginated_originates (s : State) : Originates s (sendOriginated s) := by
  unfold sendOriginated
  rcases hs : s.prot.state
  · exact originates_ring hs
  · exact originates_wrap (by decide) (by rw [hs]; rfl) (by rw [hs]; decide) (by rw [hs]; decide)
  · exact originates_wrap (by decide) (by rw [hs]; rfl) (by rw [hs]; decide) (by rw [hs]; decide)
  · exact originates_isolated hs

/-! ## The held cycle as it leaves at W (R31) -/

/-- A held cycle whose frames all pass: its voice, its frames with a hop left for as long as the next
fits, and the count of those without one. -/
theorem originateCarry_carried {s : State} {c : Octets} {h : CycleHeader} {fs : List Frame}
    (hc : s.prot.heldS = some c) (hd : decodeCycleHeader c = some h)
    (hz : zoneItems (zoneOf h.u.toNat c) = fs.map ZoneItem.frame) :
    sentAt (originateCarry s) .w =
        encodeCycle (sentHeader s .w) (carryVoice (currentU s.alloc) (voiceOf h.u.toNat c))
          ((placeWhile (zoneSize (currentU s.alloc)) (withHops fs)).1.map hopped) ∧
      (originateCarry s).sw.discards.get (reasonIndex .hopLimit) =
        bumps (fs.length - (withHops fs).length) (s.sw.discards.get (reasonIndex .hopLimit)) := by
  have hfs : (carryZone s.timer.number (zoneSize (currentU s.alloc)) (zoneOf h.u.toNat c) s.sw).2 =
      (placeWhile (zoneSize (currentU s.alloc)) (withHops fs)).1.map hopped := by
    unfold carryZone
    rw [hz]
    exact carry_placed _ fs _
  have hcount : (carryZone s.timer.number (zoneSize (currentU s.alloc)) (zoneOf h.u.toNat c)
      s.sw).1.discards.get (reasonIndex .hopLimit) =
        bumps (fs.length - (withHops fs).length) (s.sw.discards.get (reasonIndex .hopLimit)) := by
    unfold carryZone
    rw [hz]
    exact carry_hopLimit _ fs _
  rw [originateCarry_some hc hd, hfs]
  refine ⟨?_, hcount⟩
  rw [sentAt_sendCycle, if_pos rfl]
  rfl

theorem sendOriginated_carried {s : State} {c : Octets} {h : CycleHeader} {fs : List Frame}
    (hs : s.prot.state = .ring) (hc : s.prot.heldS = some c) (hd : decodeCycleHeader c = some h)
    (hz : zoneItems (zoneOf h.u.toNat c) = fs.map ZoneItem.frame) :
    sentAt (sendOriginated s) .w =
        encodeCycle (sentHeader s .w) (carryVoice (currentU s.alloc) (voiceOf h.u.toNat c))
          ((placeWhile (zoneSize (currentU s.alloc)) (withHops fs)).1.map hopped) ∧
      (sendOriginated s).sw.discards.get (reasonIndex .hopLimit) =
        bumps (fs.length - (withHops fs).length) (s.sw.discards.get (reasonIndex .hopLimit)) := by
  have h1 := originateP_changes .e s
  have ha : (originateP .e s).alloc = s.alloc := h1 .alloc (by decide)
  have hp : (originateP .e s).prot = s.prot := h1 .prot (by decide)
  have hh : sentHeader (originateP .e s) .w = sentHeader s .w :=
    sentHeader_congr (h1 .timer (by decide)) ha (h1 .pins (by decide)) (h1 .line (by decide)) .w
  have hw : sendOriginated s = originateCarry (originateP .e s) := by
    unfold sendOriginated
    rw [hs]
  obtain ⟨hcyc, hcount⟩ := originateCarry_carried (s := originateP .e s) (by rw [hp, hc]) hd hz
  rw [ha, hh] at hcyc
  rw [hw]
  exact ⟨hcyc, hcount.trans (congrArg _ (originateP_pool .e s).2)⟩

/-! ## The number taken (R18) -/

theorem takeNumber_timer (s : State) : (takeNumber s).timer =
    { s.timer with
      number := if s.period.originated then s.timer.number + 1 else s.timer.number } := by
  unfold takeNumber
  cases s.period.originated <;> rfl

theorem takeNumber_originated (s : State) : (takeNumber s).period.originated = true := rfl

/-- Settles O9. -/
theorem masterOriginates : Obligations.MasterOriginates := by
  intro s hm hsp u number
  have hk := takeNumber_changes s
  have ht := takeNumber_timer s
  have hl : (takeNumber s).line = s.line := hk .line (by decide)
  have ha : (takeNumber s).alloc = s.alloc := hk .alloc (by decide)
  have hpin : (takeNumber s).pins = s.pins := hk .pins (by decide)
  have hlan : (takeNumber s).lanes = s.lanes := hk .lanes (by decide)
  have hprot : (takeNumber s).prot = s.prot := hk .prot (by decide)
  have hsw : (takeNumber s).sw = s.sw := hk .sw (by decide)
  have hu : ∀ p, (sentHeader (takeNumber s) p).u.toNat = u := fun p =>
    (masterHeader_u_eq _).trans (by rw [ha])
  have o := sendOriginated_originates (takeNumber s)
  have otimer : (originate s).timer = (takeNumber s).timer := o.changes .timer (by decide)
  have silent : ∀ p, sentAt (originate s) p =
      encodeCycle (sentHeader (takeNumber s) p) (silentVoice u) [] →
      (sentAt (originate s) p).drop 10 =
        List.replicate (8 * u) 0xD5 ++ List.replicate (zoneSize u) 0xF5 := fun p h => by
    rw [h, encodeCycle_drop_header, silentVoice_flatten, encodeZone_nil, hu]
  obtain ⟨och, oor, ohead, opool, oheld, ovoice, osilent, ounheld, oiso⟩ := o
  rw [hprot] at opool oheld ovoice osilent ounheld oiso
  rw [ha] at ovoice osilent ounheld
  refine ⟨originate s, whenever_pos hm, ?_, oor.trans (takeNumber_originated s), fun p => ?_, opool,
    oheld, fun p hp => ?_, ?_, ?_, (hk.mono (by decide)).trans (och.mono (by decide)),
    fun hr hn => silent .w (ounheld hr hn), fun p hr hp => silent p (osilent p hr hp),
    fun hi => (oiso hi).trans hsw, fun c hc h fs hr hlen hd hz => ?_⟩
  · rw [otimer, ht]
  · obtain ⟨voice, fs, hv⟩ := ohead p
    refine (congrArg (List.take 10) hv).trans ?_
    rw [encodeCycle_take_header]
    unfold sentHeader masterHeader
    rw [ht, ha, hpin, portAt_congr hl]
  · obtain ⟨fs, hv⟩ := ovoice p hp
    have hw : VoiceWhole (sentHeader (takeNumber s) p).u.toNat (laneVoice u (takeNumber s)) := by
      rw [hu]
      exact voiceWhole_lanes (currentU_le _) (by rw [hlan]; exact hsp.2)
    have := encodeCycle_voice fs hw
    rw [hu] at this
    refine (congrArg (fun o : Octets => (o.drop 10).take (8 * u)) hv).trans (this.trans ?_)
    unfold laneVoice
    rw [hpin, hlan]
    split <;> rfl
  · rw [otimer, ht]
  · rw [otimer, ht]
  · obtain ⟨hcyc, hcount⟩ := sendOriginated_carried (s := takeNumber s) (by rw [hprot, hr])
      (by rw [hprot]; exact hc) hd hz
    rw [ha] at hcyc
    have hw : VoiceWhole (sentHeader (takeNumber s) .w).u.toNat
        (carryVoice u (voiceOf h.u.toNat c)) := by
      rw [hu]
      exact voiceWhole_carry (voiceWhole_voiceOf (decodeCycleHeader_u hd) hlen)
    obtain ⟨n, hn, hrun, hfit, hnext⟩ := placeWhile_run (zoneSize u) (withHops fs)
    refine ⟨⟨n, hn, hfit, hnext, ?_⟩, fun k hk' => ?_, hcount.trans (by rw [hsw]; rfl)⟩
    · have := encodeCycle_zone ((placeWhile (zoneSize u) (withHops fs)).1.map hopped) hw
      rw [hu] at this
      refine (congrArg (List.drop (10 + 8 * u)) hcyc).trans (this.trans ?_)
      rw [hrun]
      rfl
    · exact (congrArg (fun o : Octets => (o.drop (10 + 8 * k)).take 8) hcyc).trans
        (encodeCycle_slot_of _ hw (carryVoice_get hk' c))

end Sys2Proof.Machine
end

section
/-! PROOFS. Ring cycles and line ports, part 28: the adds of a cycle (O18). -/

namespace Sys2Proof.Machine

set_option Elab.async false

/-! ## The adds, no frame outgrowing B (R57) -/

/-- A fill before its first visit. -/
def freshFill (left : Nat) (sw : FrameSwitch) : Fill := { left, used := 0, placed := [], sw }

theorem filled_fresh (left : Nat) (s : State) :
    filled left s = allQueues.foldl (fillQueue s.timer.number) (freshFill left s.sw) := rfl

theorem fillAdds_sw (left : Nat) (s : State) : (fillAdds left s).1.sw = (filled left s).sw := rfl

theorem fillAdds_placed (left : Nat) (s : State) : (fillAdds left s).2 = (filled left s).placed := by
  rw [fillAdds_eq]

/-- No waiting frame of a budgeted queue outgrows B. -/
def WithinB (sw : FrameSwitch) : Prop :=
  ∀ q, budgeted q = true → ∀ f ∈ queueFrames sw q, extent f ≤ sw.budget

theorem WithinB.congr {sw sw' : FrameSwitch} (h : WithinB sw) (hb : sw'.budget = sw.budget)
    (hq : ∀ q, queueFrames sw' q = queueFrames sw q) : WithinB sw' := fun q hq' f hf => by
  rw [hb]
  rw [hq] at hf
  exact h q hq' f hf

theorem fillAdds_run (left : Nat) {s : State} (h : WithinB s.sw) :
    ∃ n, FilledBy allQueues (freshFill left s.sw) n (filled left s) :=
  fillQueues_run _ (by decide) fun q _ hb f hf => h q hb f hf

theorem fillAdds_discards (left : Nat) {s : State} (h : WithinB s.sw) :
    (fillAdds left s).1.sw.discards = s.sw.discards := by
  obtain ⟨n, hn⟩ := fillAdds_run left h
  exact hn.sw.2.1

/-! ## The zone of a slave's own cycle (R17, R29) -/

theorem fillAdds_ownState (left : Nat) (f : CycleTimer → CycleTimer) (s : State) :
    (fillAdds left (ownState f s)).2 = (fillAdds left s).2 ∧
      ∀ q, queueFrames (fillAdds left (ownState f s)).1.sw q =
        queueFrames (fillAdds left s).1.sw q :=
  fillAdds_congr left rfl fun _ => rfl

/-- A cycle of silence and adds alone. -/
theorem sendFilled_silent (p : Port) (h : CycleHeader) (s : State) :
    (sentAt (sendFilled p h (silentVoice h.u.toNat) [] s) p).drop 10 =
      (silentVoice h.u.toNat).flatten ++
        encodeZone (zoneSize h.u.toNat) (fillAdds (zoneSize h.u.toNat) s).2 := by
  rw [sentAt_sendFilled, if_pos rfl, encodeCycle_drop_header, filledFrames, List.nil_append,
    extents_nil, Nat.sub_zero]

theorem sendOwn_filled {s : State} {p : Port} (hp : outPort s.prot.state = some p)
    (hf : isFed s p = false) :
    sendOwn s = sendFilled p (ownHeader s) (silentVoice (ownHeader s).u.toNat) [] s := by
  unfold sendOwn unlessFed
  rw [hp]
  dsimp only
  rw [hf]
  rfl

/-- A slave's own cycle of its P output: silence, then the adds. -/
theorem ownCycle_filled (f : CycleTimer → CycleTimer) {s : State} {p : Port} {u : Nat}
    (hp : outPort s.prot.state = some p) (hf : isFed s p = false)
    (hu : (ownHeader (ownState f s)).u.toNat = u) :
    (sentAt (sendOwn (ownState f s)) p).drop 10 =
        List.replicate (8 * u) 0xD5 ++ encodeZone (zoneSize u) (fillAdds (zoneSize u) s).2 ∧
      ∀ q, queueFrames (sendOwn (ownState f s)).sw q =
        queueFrames (fillAdds (zoneSize u) s).1.sw q := by
  obtain ⟨hfs, hqs⟩ := fillAdds_ownState (zoneSize u) f s
  rw [sendOwn_filled (s := ownState f s) hp hf]
  refine ⟨?_, fun q => ?_⟩
  · rw [sendFilled_silent, hu, hfs, silentVoice_flatten]
  · rw [sendFilled_sw, extents_nil, Nat.sub_zero, hu, hqs]

/-! ## Frames that outgrow B (R58) -/

theorem SameFill.symm {P : QueueName → Prop} {x y : Fill} (h : SameFill P x y) : SameFill P y x :=
  ⟨h.left.symm, h.used.symm, h.placed.symm, h.budget.symm, fun q hq => (h.queues q hq).symm⟩

/-- The fill of queues among which one holds frames that outgrow B at its head: as without them, but
for their discards. -/
theorem fillQueues_oversize (c : Half) {pre post : List QueueName} {q : QueueName}
    {big rest : List Frame} (hnd : (pre ++ q :: post).Nodup) (hb : budgeted q = true) {x y : Fill}
    (hxy : SameFill (· ≠ q) x y) (hx : queueFrames x.sw q = big ++ rest)
    (hy : queueFrames y.sw q = rest) (hbig : ∀ f ∈ big, x.sw.budget < extent f)
    (hfit : WithinB y.sw) (hrec : x.sw.records.length ≤ 8) :
    SameFill (fun _ => True) ((pre ++ q :: post).foldl (fillQueue c) x)
        ((pre ++ q :: post).foldl (fillQueue c) y) ∧
      ((pre ++ q :: post).foldl (fillQueue c) x).sw.discards.get (reasonIndex .noRoom) =
        bumps big.length (x.sw.discards.get (reasonIndex .noRoom)) ∧
      ((pre ++ q :: post).foldl (fillQueue c) x).sw.records =
        recordsAfter c .noRoom (big.map fun f => (.queue q, f)) x.sw.records := by
  obtain ⟨hpre, hqpost, hdis⟩ := List.nodup_append.1 hnd
  obtain ⟨hq, hpost⟩ := List.nodup_cons.1 hqpost
  have hqpre : q ∉ pre := fun h => hdis q h q List.mem_cons_self rfl
  -- the queues before `q`
  have hfit' : ∀ k ∈ pre, budgeted k = true → ∀ f ∈ queueFrames x.sw k, extent f ≤ x.sw.budget :=
    fun k hk hbk f hf => by
      rw [← hxy.queues k fun e : k = q => hqpre (e ▸ hk)] at hf
      rw [← hxy.budget]
      exact hfit k hbk f hf
  obtain ⟨n, hn⟩ := fillQueues_run c hpre hfit'
  obtain ⟨m, hm⟩ := fillQueues_run c hpre (x := y) fun k _ => hfit k
  have h1 := SameFill.foldl c c (fun k hk (e : k = q) => hqpre (e ▸ hk)) hxy
  rw [List.foldl_append, List.foldl_append, List.foldl_cons, List.foldl_cons]
  generalize pre.foldl (fillQueue c) x = x1 at *
  generalize pre.foldl (fillQueue c) y = y1 at *
  obtain ⟨hb1, hd1, hr1, -, -⟩ := hn.sw
  have hxq : queueFrames x1.sw q = big ++ rest := by
    rw [hn.queues, hn.other q hqpre, List.drop_zero, hx]
  have hyq : queueFrames y1.sw q = rest := by
    rw [hm.queues, hm.other q hqpre, List.drop_zero, hy]
  have hy1 : WithinB y1.sw := fun k hk f hf => by
    rw [hm.queues] at hf
    rw [hm.sw.1]
    exact hfit k hk f (List.mem_of_mem_drop hf)
  -- the visit of `q`
  set x2 : Fill := { x1 with sw := discardAll c .noRoom (.queue q) big x1.sw } with hx2
  have hvx : fillQueue c x1 q = afterVisit q (visitQueue c q rest x2) := by
    rw [fillQueue_eq, hxq, visitQueue_oversize c hb rest (by rw [hb1]; exact hbig)]
  have h2 : SameFill (· ≠ q) x2 y1 :=
    h1.discard (sw' := y1.sw) (discardAll_budget ..) rfl (fun _ => queueFrames_discardAll ..)
      fun _ => rfl
  have h3 : SameFill (fun _ => True) (fillQueue c x1 q) (fillQueue c y1 q) := by
    rw [hvx, fillQueue_eq c y1, hyq]
    exact (h2.afterVisit c c q rest).mono fun k _ => (ne_or_eq k q)
  have hbx2 : x2.sw.budget = y1.sw.budget := (discardAll_budget ..).trans h1.budget.symm
  obtain ⟨k, z, hvis, hz⟩ := visitQueue_run c q rest (x := x2) fun _ f hf => by
    rw [hbx2]
    exact hy1 q hb f (by rw [hyq]; exact hf)
  have hsw : (fillQueue c x1 q).sw = setQueue q (rest.drop k) (countAdded q k x2.sw) := by
    rw [hvx, hvis, ← hz.sw]
    rfl
  -- the queues after `q`
  obtain ⟨l, hl⟩ := fillQueues_run c hpost (x := fillQueue c x1 q) fun r hr hbr f hf => by
    have hne : q ≠ r := fun e => hq (e ▸ hr)
    rw [hsw, queueFrames_setQueue, if_neg hne, countAdded_queueFrames, hx2,
      queueFrames_discardAll, ← h1.queues r (Ne.symm hne)] at hf
    rw [hsw, setQueue_budget]
    exact (hy1 r hbr f hf).trans_eq hbx2.symm
  obtain ⟨-, hd, hr, -, -⟩ := hl.sw
  refine ⟨SameFill.foldl c c (fun _ _ => trivial) h3, ?_, ?_⟩
  · rw [hd, hsw, setQueue_discards]
    refine (discardAll_count ..).trans ?_
    rw [if_pos rfl, hd1]
  · rw [hr, hsw, setQueue_records]
    refine (discardAll_records _ _ _ _ (by rw [hr1]; exact hrec)).trans ?_
    rw [hr1]

theorem allQueues_split (q : QueueName) : ∃ pre post, allQueues = pre ++ q :: post :=
  List.append_of_mem (by cases q <;> decide)

/-! ## The master's P output (R59, R60) -/

/-- The P output carries what `originateP` made; nothing else moves the switch. -/
theorem sendOriginated_filled {s : State} {p : Port} (hp : outPort s.prot.state = some p)
    (hh : s.prot.state = .ring → s.prot.heldS = none) :
    sentAt (sendOriginated s) p = sentAt (originateP p s) p ∧
      (sendOriginated s).sw = (originateP p s).sw := by
  have hempty : ∀ (q : Port) (h : CycleHeader) (t : State), q ≠ p →
      sentAt (sendEmpty q h t) p = sentAt t p ∧ (sendEmpty q h t).sw = t.sw := fun q h t hne =>
    ⟨by rw [sentAt_sendEmpty, if_neg hne], sendCycle_changes _ _ _ _ _ .sw (by decide)⟩
  unfold sendOriginated
  rcases hs : s.prot.state
  · rw [hs] at hp
    obtain rfl : Port.e = p := Option.some.inj hp
    have hn : (originateP .e s).prot.heldS = none := by
      rw [show (originateP .e s).prot = s.prot from originateP_changes .e s .prot (by decide), hh hs]
    dsimp only
    rw [originateCarry_none hn]
    exact hempty .w _ _ (by decide)
  · rw [hs] at hp
    obtain rfl : Port.w = p := Option.some.inj hp
    exact hempty .e _ _ (by decide)
  · rw [hs] at hp
    obtain rfl : Port.e = p := Option.some.inj hp
    exact hempty .w _ _ (by decide)
  · rw [hs] at hp
    cases hp

/-! ## The four statements -/

/-- A fill that discards nothing takes runs of frames from the heads of the queues, within the zone
and the budget, and with them the zones of a slave's own cycles are filled (R17, R29, R57). -/
theorem fillAdds_within (left : Nat) {s : State} (h : WithinB s.sw) :
    ∃ n : QueueName → Nat, (∀ q, n q ≤ (queueFrames s.sw q).length) ∧
      (∀ q, queueFrames (fillAdds left s).1.sw q = (queueFrames s.sw q).drop (n q)) ∧
      (fillAdds left s).2 = takenFrom s.sw n allQueues ∧
      extents (takenFrom s.sw n allQueues) ≤ left ∧
      extents (takenFrom s.sw n (allQueues.filter budgeted)) ≤ s.sw.budget ∧
      (∀ q, ∀ f ∈ ((queueFrames s.sw q).drop (n q)).head?,
        left < extents (takenFrom s.sw n (upTo allQueues q)) + extent f ∨
        (budgeted q = true ∧ s.sw.budget <
          extents (takenFrom s.sw n ((upTo allQueues q).filter budgeted)) + extent f)) ∧
      ∀ q, (fillAdds left s).1.sw.added.get (queueIndex q) =
        bumps (n q) (s.sw.added.get (queueIndex q)) := by
  obtain ⟨n, hn⟩ := fillAdds_run left h
  have hused := hn.used
  have hbud := hn.budget (Nat.zero_le _)
  have hleft : (filled left s).left + extents (takenFrom s.sw n allQueues) = left := hn.left
  rw [hused] at hbud
  have h0 : (freshFill left s.sw).used = 0 := rfl
  rw [h0, Nat.zero_add] at hbud
  rw [fillAdds_sw, fillAdds_placed]
  refine ⟨n, hn.le, hn.queues, hn.placed, by omega, hbud, fun q f hf => ?_, hn.added⟩
  have := hn.stop q (by cases q <;> decide) f hf
  rwa [h0, Nat.zero_add] at this

/-- A slave's own cycle in holdover: no voice, the adds. -/
theorem holdoverCycle_filled {s : State} {p : Port} (hm : s.isMaster = false)
    (hh : s.timer.holdover = true) (hp : s.period.processed = false)
    (ho : outPort s.prot.state = some p) (hf : isFed s p = false) :
    ∃ t, exec .holdoverCycle s = .next t ∧
      (sentAt t p).drop 10 = encodeZone 1014 (fillAdds 1014 s).2 ∧
      ∀ q, queueFrames t.sw q = queueFrames (fillAdds 1014 s).1.sw q := by
  have hu : unprocessed s = true := by simp [unprocessed, hm, hp]
  have hz : (ownHeader (ownState id s)).u.toNat = 0 := by
    rw [ownHeader_holdover (s := ownState id s) hh]
    rfl
  have h := ownCycle_filled id ho hf hz
  rw [Nat.mul_zero, List.replicate_zero, List.nil_append, show zoneSize 0 = 1014 from rfl] at h
  exact ⟨holdoverCycleOf s, whenever_pos (by rw [hu, hh]; rfl), h⟩

/-- A missing cycle: silence in the slots of the record, the adds. -/
theorem missingCycle_filled {s : State} {p : Port} (hm : s.isMaster = false)
    (hh : s.timer.holdover = false) (hlt : s.timer.missing < 3) (hp : s.period.processed = false)
    (ho : outPort s.prot.state = some p) (hf : isFed s p = false) :
    let u := s.timer.record.u.toNat
    ∃ t, exec .missingCycle s = .next t ∧
      (sentAt t p).drop 10 =
        List.replicate (8 * u) 0xD5 ++ encodeZone (zoneSize u) (fillAdds (zoneSize u) s).2 ∧
      ∀ q, queueFrames t.sw q = queueFrames (fillAdds (zoneSize u) s).1.sw q := by
  intro u
  have hu : unprocessed s = true := by simp [unprocessed, hm, hp]
  have hz : (ownHeader (ownState (fun t => { t with missing := t.missing + 1 }) s)).u.toNat = u := by
    rw [ownHeader_regenerated (s := ownState (fun t => { t with missing := t.missing + 1 }) s) hh]
    rfl
  refine ⟨missCycle s, whenever_pos (by rw [hu, hh]; rfl), ?_⟩
  rw [missCycle_counts hlt]
  exact ownCycle_filled _ ho hf hz

/-- The frames at the head of a budgeted queue that outgrow B are lost, and the fill is that of the
queue without them (R58). -/
theorem fillAdds_oversize (left : Nat) {q : QueueName} {big rest : List Frame} {s : State}
    (hb : budgeted q = true) (hq : queueFrames s.sw q = big ++ rest)
    (hbig : ∀ f ∈ big, s.sw.budget < extent f) (hrec : s.sw.records.length ≤ 8)
    (hfit : WithinB (setQueue q rest s.sw)) :
    SameFill (fun _ => True) (filled left s) (filled left (s.modSw (setQueue q rest))) ∧
      (filled left s).sw.discards.get (reasonIndex .noRoom) =
        bumps big.length (s.sw.discards.get (reasonIndex .noRoom)) ∧
      (filled left s).sw.records =
        recordsAfter s.timer.number .noRoom (big.map fun f => (.queue q, f)) s.sw.records := by
  obtain ⟨pre, post, hsplit⟩ := allQueues_split q
  have hnd : allQueues.Nodup := by decide
  rw [hsplit] at hnd
  have hsame : SameFill (· ≠ q) (freshFill left s.sw) (freshFill left (setQueue q rest s.sw)) :=
    ⟨rfl, rfl, rfl, setQueue_budget .., fun r hr =>
      (queueFrames_setQueue ..).trans (if_neg (Ne.symm hr))⟩
  have := fillQueues_oversize s.timer.number hnd hb hsame hq
    ((queueFrames_setQueue ..).trans (if_pos rfl)) hbig hfit hrec
  rw [← hsplit] at this
  exact this

/-- The cycle of the master's P output: the transit, the adds, what is kept back (R59, R60). -/
theorem originateP_filled (p : Port) {s : State} (hsp : SpeechWhole s) (hw : WithinB s.sw) :
    ∃ a b sw', Transit (zoneSize (currentU s.alloc)) s.sw a b sw' (transitOf s) ∧
      (sentAt (originateP p s) p).drop (10 + 8 * currentU s.alloc) =
        encodeZone (zoneSize (currentU s.alloc)) (transitOf s ++
          (fillAdds (zoneSize (currentU s.alloc) - extents (transitOf s)) s).2) ∧
      (∀ q, queueFrames (originateP p s).sw q = queueFrames
        (fillAdds (zoneSize (currentU s.alloc) - extents (transitOf s)) s).1.sw q) ∧
      (originateP p s).sw.holding = sw'.holding ∧
      (originateP p s).sw.discards = sw'.discards := by
  obtain ⟨a, b, ht⟩ := placeTransit_run s.timer.number (zoneSize (currentU s.alloc)) s.sw
  have hq : ∀ q, queueFrames (transited s).sw q = queueFrames s.sw q := fun q =>
    (ht.kept.queues q).trans (by cases q <;> rfl)
  have hb : (transited s).sw.budget = s.sw.budget := ht.kept.budget
  obtain ⟨hfs, hqs⟩ := fillAdds_congr (zoneSize (currentU s.alloc) - extents (transitOf s)) hb hq
  have hu : (sentHeader s p).u.toNat = currentU s.alloc := masterHeader_u_eq s
  have hvoice : VoiceWhole (sentHeader s p).u.toNat (laneVoice (currentU s.alloc) s) := by
    rw [hu]
    exact voiceWhole_lanes (currentU_le _) hsp.2
  refine ⟨a, b, (transited s).sw, ht, ?_, fun q => ?_, ?_, ?_⟩
  · have hzone := encodeCycle_zone (filledFrames (masterHeader s) (transitOf s) (transited s)) hvoice
    rw [hu] at hzone
    rw [originateP_sent, hzone, filledFrames, masterHeader_u_eq, hfs]
  · rw [originateP_sw, hqs]
  · rw [originateP_sw]
    exact (fillAdds_leaves _ _).holding
  · rw [originateP_sw]
    exact fillAdds_discards _ (hw.congr hb hq)

/-- A frame that passes a slave. -/
theorem passesBy_slave {s : State} (hs : RingSlave s) {f : Frame} (hf : frameFault f = none)
    (hsrc : s.agent.address ≠ some f.source) (hd : s.agent.address ≠ some f.dest)
    (h255 : f.dest ≠ 255) : PassesBy s f := by
  obtain ⟨hm, ha, _⟩ := hs
  refine ⟨hf, ?_, ?_, hd, fun h => Bool.false_ne_true (hm.symm.trans h.1), h255⟩
  · rw [awaitsAddress, Option.isNone_eq_false_iff.2 ha, Bool.and_false]
  · rw [comesHome, if_neg (by rw [hm]; decide)]
    exact beq_false_of_ne hsrc

/-- With no plan pending the header of a cycle leaves the switch and the address. -/
theorem slaveHears_sw {s : State} (hp : s.phone.pendingAt = none) (h : CycleHeader)
    (cycle : Octets) : (slaveHears h cycle s).sw = s.sw ∧ (slaveHears h cycle s).agent = s.agent ∧
      (slaveHears h cycle s).isMaster = s.isMaster := by
  have hl := locked_changes h s
  have hphone : (locked h s).phone = s.phone := hl .phone (by decide)
  have hh : slaveHeader h s = locked h s := by
    rw [slaveHeader_eq, switchIfDue, switchDue, hphone, hp]
    rfl
  show (slaveHeader h s).sw = _ ∧ (slaveHeader h s).agent = _ ∧ (slaveHeader h s).isMaster = _
  rw [hh]
  exact ⟨hl .sw (by decide), hl .agent (by decide), hl .isMaster (by decide)⟩

/-- The zone of a repeated cycle, its frames all passing: the transit, then the adds (R47, R56). -/
theorem slaveCycle_filled (p out : Port) {cycle : Octets} {h : CycleHeader} {fs : List Frame}
    {s : State} (hd : decodeCycleHeader cycle = some h)
    (hc : cycle.length = 1024) (hsp : SpeechWhole s) (hp : s.phone.pendingAt = none)
    (hz : zoneItems (zoneOf h.u.toNat cycle) = fs.map ZoneItem.frame)
    (hfs : ∀ f ∈ fs, PassesBy s f ∧ 2 ≤ f.hop.toNat) :
    let left := zoneSize h.u.toNat - extents (fs.map hopped)
    (sentAt (slaveCycle p out h cycle s) out).drop (10 + 8 * h.u.toNat) =
        encodeZone (zoneSize h.u.toNat) (fs.map hopped ++ (fillAdds left s).2) ∧
      ∀ q, queueFrames (slaveCycle p out h cycle s).sw q = queueFrames (fillAdds left s).1.sw q := by
  intro left
  obtain ⟨hsw, hag, hm⟩ := slaveHears_sw hp h cycle
  obtain ⟨n, hn⟩ := processZone_passes p (s := slaveHears h cycle s) hz fun f hf =>
    ⟨(hfs f hf).1.congr hm hag, (hfs f hf).2⟩
  obtain ⟨hadds, hqs⟩ := fillAdds_congr left (s := s)
    (t := (slaveHears h cycle s).modSw fun sw => { sw with passed := n }) (congrArg (·.budget) hsw)
    fun q => (by cases q <;> rfl : _ = queueFrames (slaveHears h cycle s).sw q).trans (by rw [hsw])
  have hpins : (slaveHears h cycle s).pins = s.pins := slaveHeader_changes h s .pins (by decide)
  have hw : VoiceWhole h.u.toNat
      (spoken (slaveHears h cycle s) h.u.toNat (voiceOf h.u.toNat cycle)) :=
    (voiceWhole_voiceOf (toNat_le_48.1 (decodeCycleHeader_u hd)) hc).spoken
      (by rw [hpins]; exact hsp.1) _
  rw [slaveCycle_eq, hn]
  dsimp only
  refine ⟨?_, fun q => ?_⟩
  · rw [sentAt_sendFilled, if_pos rfl, filledFrames, hadds]
    exact encodeCycle_zone (h := { h with farEnd := rxFaulted (portAt _ out) }) _ hw
  · rw [sendFilled_sw, hqs]

/-- Settles O18. -/
theorem fillWithinBudget : Obligations.FillWithinBudget := by
  refine ⟨fun left s hw => ?_, fun left q big rest s hb hq hbig hrec => ?_,
    fun p s hm hp hsp hh hw => ?_, fun p out cycle h fs s hs hp ho hx hd hc hsp hpend hz hfs hw => ?_⟩
  · intro r given upTo' before
    obtain ⟨n, hle, hqueues, hplaced, hfits, hbudget, hstop, hadded⟩ := fillAdds_within left hw
    have hgiven : ∀ q, given r.1.sw q = n q := fun q => by
      show (queueFrames s.sw q).length - (queueFrames (fillAdds left s).1.sw q).length = n q
      have := hle q
      rw [hqueues, List.length_drop]
      omega
    have htaken : ∀ qs : List QueueName,
        (qs.flatMap fun q => (queueFrames s.sw q).take (given r.1.sw q)) = takenFrom s.sw n qs :=
      fun qs => List.flatMap_congr fun q _ => by rw [hgiven]
    have hupTo : ∀ qs, upTo' r.1.sw qs = extents (takenFrom s.sw n qs) := fun qs =>
      congrArg extents (htaken qs)
    refine ⟨fun q => by rw [hgiven]; exact hqueues q, hplaced.trans (htaken _).symm,
      by rw [show r.2 = _ from hplaced]; exact hfits, by rw [hupTo]; exact hbudget,
      fun q f hf => ?_, fun q => by rw [hgiven]; exact hadded q, fillAdds_discards left hw,
      fillAdds_changes left s, fun hl hm' hhold hproc p hp hf => ?_,
      fun hl hu hm' hhold hmiss hproc p hp hf => ?_⟩
    · rw [hupTo, hupTo]
      exact hstop q f (by rw [← hqueues q]; exact hf)
    · subst hl
      exact holdoverCycle_filled hm' hhold hproc hp hf
    · subst hl
      exact missingCycle_filled hm' hhold hmiss hproc hp hf
  · intro s' hfit
    have hfit' : WithinB (setQueue q rest s.sw) := fun k hk f hf => by
      rw [setQueue_budget]
      exact hfit k hk f hf
    obtain ⟨hsame, hcount, hrecords⟩ := fillAdds_oversize left hb hq hbig hrec hfit'
    have hback := hsame.symm
    rw [fillAdds_placed, fillAdds_placed, fillAdds_sw, fillAdds_sw]
    exact ⟨hback.placed, fun k => hback.queues k trivial, hcount, hrecords⟩
  · intro u held pool
    have hk := takeNumber_changes s
    have hsw : (takeNumber s).sw = s.sw := hk .sw (by decide)
    have hprot : (takeNumber s).prot = s.prot := hk .prot (by decide)
    have ha : (takeNumber s).alloc = s.alloc := hk .alloc (by decide)
    have hsp' : SpeechWhole (takeNumber s) := by
      unfold SpeechWhole
      rw [show (takeNumber s).pins = s.pins from hk .pins (by decide),
        show (takeNumber s).lanes = s.lanes from hk .lanes (by decide)]
      exact hsp
    obtain ⟨hcyc, htsw⟩ := sendOriginated_filled (s := takeNumber s) (by rw [hprot]; exact hp)
      (by rw [hprot]; exact hh)
    obtain ⟨a, b, sw', ht, hzone, hqs, hhold, hdis⟩ :=
      originateP_filled p hsp' (by rw [hsw]; exact hw)
    obtain ⟨hfs, hqc⟩ := fillAdds_congr (zoneSize u - extents (transitOf (takeNumber s))) (s := s)
      (t := takeNumber s) (by rw [hsw]) fun q => by rw [hsw]
    rw [hsw] at ht
    rw [ha] at ht hzone hqs
    rw [← hcyc, hfs] at hzone
    refine ⟨a, b, originate s, whenever_pos hm, ht.heldLe, ht.poolLe, ?_, ht.heldStops, ht.poolStops,
      ?_, ?_, ?_, ?_⟩
    · rw [← ht.placed]
      exact ht.fits
    · rw [← ht.placed]
      exact ⟨hzone, fun q => by rw [show (originate s).sw = _ from htsw, hqs]; exact hqc q⟩
    · rw [show (originate s).sw = _ from htsw]
      exact (originateP_pool p _).1
    · rw [show (originate s).sw = _ from htsw, hhold]
      exact ht.kept.holding
    · rw [show (originate s).sw = _ from htsw, hdis, hhold, List.length_append]
      exact ht.kept.lost
  · intro u transit adds
    obtain ⟨hcyc, hqs⟩ := slaveCycle_filled p out hd hc hsp hpend hz fun f hf => by
      obtain ⟨hfault, hsrc, hdest, h255, hhop⟩ := hfs f hf
      exact ⟨passesBy_slave hs hfault hsrc hdest h255, hhop⟩
    have hl := receiveCycle_line p cycle s (receiveContent_slave hs.1 hp ho hx hd)
    have hout : (receiveCycle p cycle s).out = (slaveCycle p out h cycle s).out :=
      hl .out (by decide)
    have hsw : (receiveCycle p cycle s).sw = (slaveCycle p out h cycle s).sw := hl .sw (by decide)
    have hsent : sentAt (receiveCycle p cycle s) out = sentAt (slaveCycle p out h cycle s) out := by
      cases out <;> simp only [sentAt, hout]
    refine ⟨_, exec_headerReceived p cycle s, ?_, fun q => ?_⟩
    · rw [hsent]
      exact hcyc
    · rw [hsw]
      exact hqs q

end Sys2Proof.Machine
end

section
/-! PROOFS. Ring cycles and line ports, part 29: the end of a cycle that leaves the node ISOLATED, and
what a node that the blocks do not see LINKED leaves unsaid. -/

namespace Sys2Proof.Machine

set_option Elab.async false

/-! ## A change of a condition while the centre cannot be reached (R167) -/

theorem reachable_congr {s t : State} (h : t.prot = s.prot) : reachable t = reachable s := by
  unfold reachable
  rw [h]

theorem reportTrigger_unreachable {s : State} (h : reachable s = false) : reportTrigger s = s := by
  rw [reportTrigger, h]
  exact if_neg (by decide)

theorem judgeEdge_unreachable {s : State} (h : reachable s = false) (c : Fin 64) (rise : Bool) :
    Changes [.cond] s (judgeEdge c rise s) := by
  unfold judgeEdge
  refine .ite (.refl _ s) (.ite (modCond_changes _ s) ?_)
  dsimp only
  rw [reportTrigger_unreachable (s := s.modCond _) h, ite_self]
  exact modCond_changes _ s

/-- Without the centre a change of a condition is no report. -/
theorem changeCondition_unreachable {s : State} (h : reachable s = false) (judged : Bool)
    (c : Fin 64) (v : Bool) : Changes [.cond, .sign] s (changeCondition judged c v s) := by
  unfold changeCondition
  refine .ite (.refl _ s) (.trans (t := if judged then
    judgeEdge c v (s.modCond fun u => { u with copy := u.copy.set c v }) else
    s.modCond fun u => { u with copy := u.copy.set c v }) ?_
      ((modSign_changes _ _).mono (by decide)))
  have h1 := (modCond_changes (fun u => { u with copy := u.copy.set c v }) s).mono
    (qs := [.cond, .sign]) (by decide)
  exact .ite (h1.trans ((judgeEdge_unreachable (s := s.modCond _) h c v).mono (by decide))) h1

theorem foldl_changeCondition_unreachable {s : State} (h : reachable s = false)
    (judged : Fin 64 × Bool → Bool) (cs : List (Fin 64 × Bool)) :
    Changes [.cond, .sign] s
      (cs.foldl (fun t c => changeCondition (judged c) c.1 c.2 t) s) := by
  induction cs generalizing s with
  | nil => exact .refl _ s
  | cons c cs ih =>
    have h1 := changeCondition_unreachable h (judged c) c.1 c.2
    exact h1.trans (ih (by rw [reachable_congr (h1 .prot (by decide)), h]))

/-- A node whose conditions offer nothing to its queues: a master, or one without the centre. -/
def Silent (s : State) : Prop := s.isMaster = true ∨ reachable s = false

theorem Silent.congr {s t : State} (h : Silent s) (hm : t.isMaster = s.isMaster)
    (hp : t.prot = s.prot) : Silent t := by
  unfold Silent
  rw [hm, reachable_congr hp]
  exact h

theorem changeCondition_silent {s : State} (h : Silent s) (judged : Bool) (c : Fin 64) (v : Bool) :
    (changeCondition judged c v s).sw = s.sw :=
  h.elim (fun hm => changeCondition_sw hm judged c v)
    fun hr => changeCondition_unreachable hr judged c v .sw (by decide)

theorem foldl_changeCondition_silent {s : State} (h : Silent s) (judged : Fin 64 × Bool → Bool)
    (cs : List (Fin 64 × Bool)) :
    (cs.foldl (fun t c => changeCondition (judged c) c.1 c.2 t) s).sw = s.sw := by
  induction cs generalizing s with
  | nil => rfl
  | cons c cs ih =>
    have hc := changeCondition_changes (judged c) c.1 c.2 s
    exact (ih (h.congr (hc .isMaster (by decide)) (hc .prot (by decide)))).trans
      (changeCondition_silent h _ _ _)

theorem protectionConditions_silent {s : State} (h : Silent s) :
    (protectionConditions s).sw = s.sw := foldl_changeCondition_silent h (fun _ => true) _

theorem journalConditions_silent {s : State} (h : Silent s) : (journalConditions s).sw = s.sw :=
  foldl_changeCondition_silent h (fun c => !(c.2 && s.period.raised.contains c.1)) _

/-! ## The copy after several changes -/

theorem foldl_changeCondition_copy (judged : Fin 64 × Bool → Bool) (cs : List (Fin 64 × Bool))
    (s : State) : (cs.foldl (fun t c => changeCondition (judged c) c.1 c.2 t) s).cond.copy =
      cs.foldl (fun t c => t.set c.1 c.2) s.cond.copy := by
  induction cs generalizing s with
  | nil => rfl
  | cons c cs ih => rw [List.foldl_cons, ih, changeCondition_copy]; rfl

theorem protectionConditions_copy (s : State) : (protectionConditions s).cond.copy =
    (if s.prot.state = .isolated then
      (s.cond.copy.set condWrapped (s.prot.state == .wrapEast || s.prot.state == .wrapWest)).set
        condIsolated (s.prot.state == .isolated)
    else
      (s.cond.copy.set condIsolated (s.prot.state == .isolated)).set
        condWrapped (s.prot.state == .wrapEast || s.prot.state == .wrapWest)) := by
  refine (foldl_changeCondition_copy (fun _ => true) _ s).trans ?_
  split <;> rfl

theorem journalConditions_copy (s : State) : (journalConditions s).cond.copy =
    (s.cond.copy.set condJournalNonempty (decide (s.journal.records ≠ []))).set
      condJournalFull (decide (512 ≤ s.journal.records.length)) :=
  foldl_changeCondition_copy (fun c => !(c.2 && s.period.raised.contains c.1)) _ s

/-! ## A detach is silent (R22, R80, R122, R136) -/

theorem detachPosition_changes_unreachable {s : State} (h : reachable s = false) (q : Fin 4) :
    Changes [.phone] s (detachPosition hand q s) := by
  have hpos : ∀ f u, Changes [.phone] u (modPos q f u) := fun f u => modPhone_changes _ u
  unfold detachPosition
  split
  · exact hpos _ s
  · exact hpos _ s
  · exact hpos _ s
  · unfold endClearing offHookIdle
    dsimp only
    rw [show reachable (modPos q idlePosition s) = false from h]
    exact .ite ((hpos _ s).trans (hpos _ _)) (hpos _ s)
  · exact .refl _ s

theorem phoneDetach_changes_unreachable {s : State} (h : reachable s = false) :
    Changes [.phone] s (phoneDetach hand s) := by
  have hfold : ∀ (qs : List (Fin 4)) (u : State), reachable u = false →
      Changes [.phone] u (qs.foldl (fun s q => detachPosition hand q s) u) := fun qs => by
    induction qs with
    | nil => exact fun u _ => .refl _ u
    | cons q qs ih =>
      intro u hu
      have h1 := detachPosition_changes_unreachable hu q
      exact h1.trans (ih _ (by rw [reachable_congr (h1 .prot (by decide)), hu]))
  have hc : Changes [.phone] s (clearBanks s) := modPhone_changes _ s
  exact hc.trans (hfold _ _ h)

theorem tollDetach_changes_quiet (s : State) : Changes [.toll, .journal] s (tollDetach s) := by
  have hone : ∀ (p : PendingToll) (u : State), Changes [.toll, .journal] u
      ((endPending p u).modToll fun t => { t with detachAnswers := bump t.detachAnswers }) :=
    fun p u => ((((((modToll_changes _ u).mono (by decide)).trans
      ((modToll_changes _ _).mono (by decide))).trans
      ((modToll_changes _ _).mono (by decide))).trans
      ((modJournal_changes _ _).mono (by decide))).trans ((modToll_changes _ _).mono (by decide)))
  exact Changes.foldl (fun u p => hone p u) _ s

theorem detach_changes_quiet (s : State) :
    Changes [.prot, .phone, .toll, .journal, .cond, .sign] s (detach s) := by
  rw [detach_eq]
  have h1 : Changes [.prot] s (setHanded false s) := modProt_changes _ s
  have hr : reachable (setHanded false s) = false := Bool.and_false _
  have h2 := phoneDetach_changes_unreachable hr
  have h3 := tollDetach_changes_quiet (phoneDetach hand (setHanded false s))
  have h4 : Changes [.journal] (tollDetach (phoneDetach hand (setHanded false s)))
    (journalAllWaiting (tollDetach (phoneDetach hand (setHanded false s)))) := modJournal_changes _ _
  have hr4 : reachable (journalAllWaiting (tollDetach (phoneDetach hand (setHanded false s)))) =
      false := by
    rw [reachable_congr ((h4 .prot (by decide)).trans ((h3 .prot (by decide)).trans
      (h2 .prot (by decide)))), hr]
  exact ((((h1.mono (by decide)).trans (h2.mono (by decide))).trans (h3.mono (by decide))).trans
    (h4.mono (by decide))).trans ((changeCondition_unreachable hr4 _ _ _).mono (by decide))

theorem detach_prot (s : State) : (detach s).prot = { s.prot with handed := false } := by
  have hr : reachable (setHanded false s) = false := Bool.and_false _
  rw [detach_eq]
  exact (changeCondition_changes _ _ _ _ .prot (by decide)).trans
    ((tollDetach_changes_quiet _ .prot (by decide)).trans
      (phoneDetach_changes_unreachable hr .prot (by decide)))

/-! ## The discards of ISOLATED (R32, R60) -/

/-- What the queues hold, each frame with its place. -/
def queuedFrames (sw : FrameSwitch) (qs : List QueueName) : List (Place × Frame) :=
  qs.flatMap fun q => (queueFrames sw q).map fun f => (Place.queue q, f)

/-- The frames of the queues `qs` and then of the places in `lost` have been discarded. -/
theorem discardQueues_run (c : Half) {qs : List QueueName} (hnd : qs.Nodup) (sw : FrameSwitch) :
    let sw' := qs.foldl (discardQueue c) sw
    (∀ q, queueFrames sw' q = if q ∈ qs then [] else queueFrames sw q) ∧
      sw'.holding = sw.holding ∧
      sw'.discards.get (reasonIndex .noPath) =
        bumps (queuedFrames sw qs).length (sw.discards.get (reasonIndex .noPath)) ∧
      (sw.records.length ≤ 8 →
        sw'.records = recordsAfter c .noPath (queuedFrames sw qs) sw.records) := by
  induction qs generalizing sw with
  | nil => exact ⟨fun _ => rfl, rfl, rfl, fun h => (recordsAfter_nil _ _ h).symm⟩
  | cons q qs ih =>
    obtain ⟨hq, hnd⟩ := List.nodup_cons.1 hnd
    obtain ⟨hqs, hh, hn, hr⟩ := ih hnd (discardQueue c sw q)
    have hqueue : ∀ r, queueFrames (discardQueue c sw q) r =
        if q = r then [] else queueFrames sw r := fun r => by
      rw [discardQueue, queueFrames_setQueue, queueFrames_discardAll]
    have hrest : queuedFrames (discardQueue c sw q) qs = queuedFrames sw qs :=
      List.flatMap_congr fun r hr => by rw [hqueue, if_neg fun e : q = r => hq (e ▸ hr)]
    have hcount : (discardQueue c sw q).discards.get (reasonIndex .noPath) =
        bumps (queueFrames sw q).length (sw.discards.get (reasonIndex .noPath)) := by
      rw [discardQueue, setQueue_discards, discardAll_count, if_pos rfl]
    have hcons : queuedFrames sw (q :: qs) =
        (queueFrames sw q).map (fun f => (Place.queue q, f)) ++ queuedFrames sw qs := rfl
    rw [List.foldl_cons]
    refine ⟨fun r => ?_, hh.trans ?_, ?_, fun h8 => ?_⟩
    · rw [hqs, hqueue]
      by_cases he : q = r
      · subst he
        rw [if_pos rfl, ite_self, if_pos List.mem_cons_self]
      · rw [if_neg he]
        simp only [List.mem_cons, Ne.symm he, false_or]
    · rw [discardQueue, setQueue_holding, discardAll_holding]
    · rw [hn, hrest, hcount, hcons, List.length_append, List.length_map, bumps_add]
    · have hrec : (discardQueue c sw q).records =
          recordsAfter c .noPath ((queueFrames sw q).map fun f => (.queue q, f)) sw.records := by
        rw [discardQueue, setQueue_records, discardAll_records _ _ _ _ h8]
      rw [hr (by rw [hrec]; exact recordsAfter_length ..), hrest, hrec, hcons,
        recordsAfter_append _ _ _ _ h8]

/-- Every frame of the queues and the holding buffer is discarded with NO_PATH. -/
structure Isolates (c : Half) (sw sw' : FrameSwitch) : Prop where
  queues  : ∀ q, queueFrames sw' q = []
  holding : sw'.holding = []
  count   : sw'.discards.get (reasonIndex .noPath) =
    bumps (queuedFrames sw allQueues ++ sw.holding.map fun f => (Place.holding, f)).length
      (sw.discards.get (reasonIndex .noPath))
  records : sw.records.length ≤ 8 → sw'.records = recordsAfter c .noPath
    (queuedFrames sw allQueues ++ sw.holding.map fun f => (Place.holding, f)) sw.records

theorem isolateSwitch_isolates (c : Half) (sw : FrameSwitch) :
    Isolates c sw (isolateSwitch c sw) := by
  obtain ⟨hq, hh, hn, hr⟩ := discardQueues_run c (qs := allQueues) (by decide) sw
  have heq : isolateSwitch c sw =
      { discardAll c .noPath .holding sw.holding (allQueues.foldl (discardQueue c) sw) with
        holding := [] } := by
    rw [← hh]
    rfl
  rw [heq]
  refine ⟨fun q => ?_, rfl, ?_, fun h8 => ?_⟩
  · refine (by cases q <;> rfl : _ = queueFrames (discardAll c .noPath .holding sw.holding
      (allQueues.foldl (discardQueue c) sw)) q).trans ?_
    rw [queueFrames_discardAll, hq, if_pos (by cases q <;> decide)]
  · rw [discardAll_count, if_pos rfl, hn, List.length_append, List.length_map, bumps_add]
  · rw [discardAll_records _ _ _ _ (by rw [hr h8]; exact recordsAfter_length ..), hr h8,
      recordsAfter_append _ _ _ _ h8]

/-! ## The move to ISOLATED (R14, R20, R24, R31, R32) -/

theorem dropHeldS_prot (s : State) : (dropHeldS s).prot = { s.prot with heldS := none } := by
  unfold dropHeldS
  split
  · next h => rw [← h]
  · rfl

/-- The frames of a held cycle are discarded with NO_ROOM. -/
theorem dropHeldS_sw (s : State) :
    (∀ q, queueFrames (dropHeldS s).sw q = queueFrames s.sw q) ∧
      (dropHeldS s).sw.holding = s.sw.holding ∧
      (dropHeldS s).sw.discards.get (reasonIndex .noPath) =
        s.sw.discards.get (reasonIndex .noPath) ∧
      (s.prot.heldS = none → dropHeldS s = s) := by
  unfold dropHeldS
  split
  · exact ⟨fun _ => rfl, rfl, rfl, fun _ => rfl⟩
  · next cycle hc =>
    refine ⟨fun q => queueFrames_discardAll .., discardAll_holding .., ?_, fun h => ?_⟩
    · exact (discardAll_count ..).trans (if_neg (by decide))
    · rw [h] at hc
      cases hc

/-- What a held cycle of RING loses as the state moves (R31). -/
def heldDropped (s : State) : State := if s.prot.state = .ring then dropHeldS s else s

theorem heldDropped_changes (s : State) : Changes [.sw, .prot] s (heldDropped s) :=
  .ite (dropHeldS_changes s) (.refl _ s)

theorem heldDropped_prot (s : State) : (heldDropped s).prot =
    { s.prot with heldS := (heldDropped s).prot.heldS } := by
  unfold heldDropped
  split
  · rw [dropHeldS_prot]
  · rfl

theorem heldDropped_sw (s : State) :
    (∀ q, queueFrames (heldDropped s).sw q = queueFrames s.sw q) ∧
      (heldDropped s).sw.holding = s.sw.holding ∧
      (heldDropped s).sw.discards.get (reasonIndex .noPath) =
        s.sw.discards.get (reasonIndex .noPath) ∧
      (s.prot.state ≠ .ring ∨ s.prot.heldS = none → heldDropped s = s) := by
  unfold heldDropped
  split
  · next hr =>
    obtain ⟨hq, hh, hd, he⟩ := dropHeldS_sw s
    exact ⟨hq, hh, hd, fun h => he (h.resolve_left (not_not.2 hr))⟩
  · exact ⟨fun _ => rfl, rfl, rfl, fun _ => rfl⟩

/-- The state moved, before what ISOLATED brings. -/
def moved (new : ProtState) (s : State) : State :=
  let t := (heldDropped s).modProt fun p =>
    { p with state := new, changes := bump p.changes
             isolations := if new = .isolated then bump p.isolations else p.isolations }
  if processedPort s.prot.state = processedPort new then t
  else t.modTimer fun t => { t with adoptNext := true }

theorem moveProtection_eq (new : ProtState) (s : State) : moveProtection new s =
    if new = .isolated then
      isolateTiming ((moved new s).modSw (isolateSwitch (moved new s).timer.number))
    else moved new s := rfl

theorem moved_changes (new : ProtState) (s : State) :
    Changes [.timer, .prot, .sw] s (moved new s) := by
  have h1 := ((heldDropped_changes s).mono (qs := [.timer, .prot, .sw]) (by decide)).trans
    ((modProt_changes (fun p => { p with
      state := new, changes := bump p.changes
      isolations := if new = .isolated then bump p.isolations else p.isolations })
      (heldDropped s)).mono (by decide))
  exact .ite h1 (h1.trans ((modTimer_changes _ _).mono (by decide)))

theorem moved_sw (new : ProtState) (s : State) : (moved new s).sw = (heldDropped s).sw := by
  unfold moved
  exact ite_of (g := State.sw) rfl rfl

theorem moved_prot (new : ProtState) (s : State) : (moved new s).prot =
    { s.prot with
      state := new, changes := bump s.prot.changes, heldS := (heldDropped s).prot.heldS
      isolations := if new = .isolated then bump s.prot.isolations else s.prot.isolations } := by
  have h : (moved new s).prot = { (heldDropped s).prot with
      state := new, changes := bump (heldDropped s).prot.changes
      isolations := if new = .isolated then bump (heldDropped s).prot.isolations
        else (heldDropped s).prot.isolations } := by
    unfold moved
    exact ite_of (g := State.prot) rfl rfl
  rw [h, heldDropped_prot]

theorem moved_timer (new : ProtState) (s : State) : (moved new s).timer =
    { s.timer with adoptNext := (moved new s).timer.adoptNext } := by
  have ht : (heldDropped s).timer = s.timer := heldDropped_changes s .timer (by decide)
  unfold moved
  dsimp only
  split
  · show (heldDropped s).timer = { s.timer with adoptNext := (heldDropped s).timer.adoptNext }
    rw [ht]
  · show { (heldDropped s).timer with adoptNext := true } = { s.timer with adoptNext := true }
    rw [ht]

/-- Entry into ISOLATED on a slave: DETACHED and in holdover (R14, R20). -/
theorem isolateTiming_slave {s : State} (hm : s.isMaster = false) :
    (isolateTiming s).prot = { s.prot with age := 16, linked := false } ∧
      (isolateTiming s).timer.holdover = true := by
  unfold isolateTiming
  rw [hm]
  rw [if_neg (by decide)]
  dsimp only
  cases hh : s.timer.holdover
  · refine ⟨?_, rfl⟩
    simp [updateReach, setAge, shouldBeLinked, State.modProt, State.modTimer, hm]
  · refine ⟨?_, hh⟩
    simp [updateReach, setAge, shouldBeLinked, State.modProt, hm]

theorem isolateTiming_master {s : State} (hm : s.isMaster = true) : isolateTiming s = s := if_pos hm

/-! ## The cycle as it is settled -/

theorem pending_changes (s : State) (cs : List Instr) :
    Changes [.pending] s { s with pending := cs } := by
  intro p hp
  cases p
  case pending => exact absurd (by decide) hp
  all_goals rfl

theorem tick_closing {s : State} (h : s.period.stage = .closing) :
    step (s.withPending []) = .next (settlePeriod (s.withPending [])) := by
  show Host.Outcome.next (tick (s.withPending [])) = _
  unfold tick
  rw [show (s.withPending []).period.stage = .closing from h]

/-- After the blocks have been told, the end of a cycle moves the cycles sent, the lanes, the period
and the queue alone. -/
theorem settlePeriod_changes_after (s : State) :
    Changes [.out, .lanes, .period, .pending] (settleCycle s) (settlePeriod s) := by
  have h1 := ((reflagPort_changes .w (settleCycle s)).mono
    (qs := [.out, .lanes, .period, .pending]) (by decide)).trans
    ((reflagPort_changes .e _).mono (by decide))
  have h2 := h1.trans ((quiet_changes _).mono (by decide))
  have h3 := h2.trans ((modPeriod_changes (fun x => { x with stage := .sending, raised := [] }) _).mono
    (by decide))
  exact h3.trans ((pending_changes _ _).mono (by decide))

end Sys2Proof.Machine
end

section
/-! PROOFS. Ring cycles and line ports, part 30: the end of a cycle with both ports UNHEALTHY (O13). -/

namespace Sys2Proof.Machine

set_option Elab.async false

/-! ## The protection state settles to ISOLATED (R24, R32) -/

/-- What the protection state leaves that settles to ISOLATED. -/
structure SettledIsolated (s v : State) : Prop where
  switch  : Isolates s.timer.number (heldDropped s).sw v.sw
  state   : v.prot.state = .isolated
  entry   : s.prot.state ≠ .isolated →
    v.prot.changes = bump s.prot.changes ∧ v.prot.isolations = bump s.prot.isolations
  stays   : s.prot.state = .isolated → v.prot = s.prot
  handed  : v.prot.handed = s.prot.handed
  master  : s.isMaster = true → v.prot.linked = s.prot.linked
  slave   : s.isMaster = false → s.prot.state ≠ .isolated →
    v.prot.age = 16 ∧ v.prot.linked = false ∧ v.timer.holdover = true

theorem moveProtection_isolated {s : State} (hn : s.prot.state ≠ .isolated) :
    SettledIsolated s (moveProtection .isolated s) := by
  have heq : moveProtection .isolated s =
      isolateTiming ((moved .isolated s).modSw (isolateSwitch (moved .isolated s).timer.number)) := by
    rw [moveProtection_eq, if_pos rfl]
  have hm : (moved .isolated s).isMaster = s.isMaster :=
    moved_changes .isolated s .isMaster (by decide)
  have hp := moved_prot .isolated s
  have hsw := moved_sw .isolated s
  have hnum : (moved .isolated s).timer.number = s.timer.number := by rw [moved_timer]
  rw [heq, hnum]
  generalize moved .isolated s = v at *
  have hswitch : Isolates s.timer.number (heldDropped s).sw
      (isolateTiming (v.modSw (isolateSwitch s.timer.number))).sw := by
    rw [isolateTiming_changes _ .sw (by decide), ← hsw]
    exact isolateSwitch_isolates _ _
  cases hms : s.isMaster
  · obtain ⟨hprot, hhold⟩ := isolateTiming_slave (s := v.modSw (isolateSwitch s.timer.number))
      (hm.trans hms)
    replace hprot := hprot.trans (congrArg (fun p : Protection =>
      { p with age := 16, linked := false }) hp)
    exact ⟨hswitch, by rw [hprot], fun _ => by rw [hprot]; exact ⟨rfl, rfl⟩,
      fun h => absurd h hn, by rw [hprot], fun h => absurd (hms.symm.trans h) (by decide),
      fun _ _ => ⟨by rw [hprot], by rw [hprot], hhold⟩⟩
  · have hprot : (isolateTiming (v.modSw (isolateSwitch s.timer.number))).prot = v.prot := by
      rw [isolateTiming_master (s := v.modSw (isolateSwitch s.timer.number)) (hm.trans hms)]
      rfl
    rw [hp] at hprot
    exact ⟨hswitch, by rw [hprot], fun _ => by rw [hprot]; exact ⟨rfl, rfl⟩, fun h => absurd h hn,
      by rw [hprot], fun _ => by rw [hprot], fun h => absurd (hms.symm.trans h) (by decide)⟩

theorem settleProtection_isolated {s : State} (hw : s.line.w.health = .unhealthy)
    (he : s.line.e.health = .unhealthy) : SettledIsolated s (settleProtection s) := by
  have hnew : protectionOf s.line.w.health s.line.e.health = .isolated := by rw [hw, he]; rfl
  unfold settleProtection
  dsimp only
  rw [hnew]
  by_cases hs : s.prot.state = .isolated
  · rw [if_pos hs.symm, if_pos rfl]
    have hd : heldDropped s = s := if_neg (by rw [hs]; decide)
    refine ⟨?_, hs, fun h => absurd hs h, fun _ => rfl, rfl, fun _ => rfl, fun _ h => absurd hs h⟩
    rw [hd]
    exact isolateSwitch_isolates _ _
  · rw [if_neg (Ne.symm hs)]
    exact moveProtection_isolated hs

/-- The hand-over of a reachability that ISOLATED leaves: a detach at most. -/
theorem handReach_silent {v : State} (h : v.isMaster = true ∧ v.prot.linked = v.prot.handed ∨
    v.prot.linked = false) :
    (handReach v).prot = { v.prot with handed := v.prot.linked } ∧
      Changes [.prot, .phone, .toll, .journal, .cond, .sign] v (handReach v) ∧
      Silent (handReach v) := by
  by_cases he : v.prot.linked = v.prot.handed
  · rw [show handReach v = v from if_pos he, he]
    refine ⟨rfl, .refl _ v, h.imp And.left fun hl => ?_⟩
    rw [reachable, hl, Bool.false_and]
  · have hl : v.prot.linked = false := h.resolve_left fun hh => he hh.2
    have heq : handReach v = detach v := by
      unfold handReach
      rw [if_neg he, hl, if_neg (by decide)]
    rw [heq, detach_prot, hl]
    refine ⟨rfl, detach_changes_quiet v, .inr ?_⟩
    rw [reachable, detach_prot]
    exact Bool.and_false _

/-- The conditions that a cycle hands at its end leave the switch, the protection and the timer of a
node that has nothing to say. -/
theorem conditions_silent {w : State} (h : Silent w) :
    (journalConditions (protectionConditions w)).sw = w.sw ∧
      (journalConditions (protectionConditions w)).prot = w.prot ∧
      (journalConditions (protectionConditions w)).timer = w.timer := by
  have h1 := protectionConditions_changes w
  have h2 := journalConditions_changes (protectionConditions w)
  have hs := h.congr (h1 .isMaster (by decide)) (h1 .prot (by decide))
  exact ⟨(journalConditions_silent hs).trans (protectionConditions_silent h),
    (h2 .prot (by decide)).trans (h1 .prot (by decide)),
    (h2 .timer (by decide)).trans (h1 .timer (by decide))⟩

/-- Conditions 49 and 50 of a node in ISOLATED (R33). -/
theorem conditions_isolated {w : State} (h : w.prot.state = .isolated) :
    (journalConditions (protectionConditions w)).cond.copy.get condIsolated = true ∧
      (journalConditions (protectionConditions w)).cond.copy.get condWrapped = false := by
  rw [journalConditions_copy, protectionConditions_copy, h, if_pos rfl]
  simp only [Tab.get_set]
  exact ⟨rfl, rfl⟩

/-! ## The settled cycle of ISOLATED -/

/-- The end of a cycle with both ports UNHEALTHY. -/
theorem settlePeriod_isolated {s : State} (hreach : ReachFollows s)
    (hw : s.line.w.health = .unhealthy) (he : s.line.e.health = .unhealthy)
    (hm : s.isMaster = true → s.prot.handed = s.prot.linked)
    (hs : s.isMaster = false → s.prot.state = .isolated →
      s.prot.handed = false ∧ s.prot.linked = false) :
    let t := settlePeriod s
    SettledIsolated s (settleProtection s) ∧ t.sw = (settleProtection s).sw ∧
      t.timer = (settleProtection s).timer ∧
      t.prot = { (settleProtection s).prot with handed := (settleProtection s).prot.linked } ∧
      (s.isMaster = true → t.prot.linked = s.pins.uplinkUp) ∧
      t.cond.copy.get condIsolated = true ∧ t.cond.copy.get condWrapped = false := by
  intro t
  have hv := settleProtection_isolated hw he
  have hvm : (settleProtection s).isMaster = s.isMaster :=
    settleProtection_changes s .isMaster (by decide)
  have hlink : (settleProtection s).isMaster = true ∧
      (settleProtection s).prot.linked = (settleProtection s).prot.handed ∨
      (settleProtection s).prot.linked = false := by
    cases hms : s.isMaster
    · right
      by_cases hst : s.prot.state = .isolated
      · rw [hv.stays hst]
        exact (hs hms hst).2
      · exact (hv.slave hms hst).2.1
    · left
      rw [hvm, hms, hv.master hms, hv.handed, hm hms]
      exact ⟨rfl, rfl⟩
  obtain ⟨hprot, hch, hsil⟩ := handReach_silent hlink
  obtain ⟨csw, cprot, ctimer⟩ := conditions_silent hsil
  have hafter := settlePeriod_changes_after s
  have tprot : t.prot = _ := (hafter .prot (by decide)).trans (cprot.trans hprot)
  have tcond : t.cond = (settleCycle s).cond := hafter .cond (by decide)
  refine ⟨hv, (hafter .sw (by decide)).trans (csw.trans (hch .sw (by decide))),
    (hafter .timer (by decide)).trans (ctimer.trans (hch .timer (by decide))), tprot, fun hms => ?_, ?_⟩
  · rw [tprot]
    refine (hv.master hms).trans ?_
    unfold ReachFollows shouldBeLinked at hreach
    rwa [hms, if_pos rfl] at hreach
  · rw [tcond]
    refine conditions_isolated ?_
    rw [hprot]
    exact hv.state

/-- Settles O13. -/
theorem isolationDiscards : Obligations.IsolationDiscards := by
  refine ⟨fun p s h => ?_, fun s hst hreach hw he hm hs => ?_, fun q f s hst ha => ⟨fun hw he =>
    ?_, fun hh hb hc => ?_⟩⟩
  · obtain ⟨t, ht, hp, ho, -⟩ := signalLost_port p s
    have hlost : (portAt t p).health = .unhealthy := by rw [hp]; rfl
    rw [← ho] at h
    refine ⟨t, ht, ?_⟩
    cases p
    · rw [show t.line.w.health = _ from hlost, show t.line.e.health = _ from h]
      rfl
    · rw [show t.line.e.health = _ from hlost, show t.line.w.health = _ from h]
      rfl
  · intro lost
    obtain ⟨hv, tsw, ttimer, tprot, tlinked, tcopy⟩ :=
      settlePeriod_isolated (s := s.withPending []) hreach hw he hm hs
    obtain ⟨hq, hhold, hcount, hrec⟩ := hv.switch
    obtain ⟨dq, dhold, dcount, deq⟩ := heldDropped_sw (s.withPending [])
    have hlost : queuedFrames (heldDropped (s.withPending [])).sw allQueues ++
        (heldDropped (s.withPending [])).sw.holding.map (fun f => (Place.holding, f)) = lost := by
      rw [dhold]
      have hq' : queuedFrames (heldDropped (s.withPending [])).sw allQueues =
          queuedFrames s.sw allQueues := List.flatMap_congr fun q _ => by rw [dq]; rfl
      rw [hq']
      rfl
    rw [hlost, dcount] at hcount
    rw [hlost] at hrec
    refine ⟨_, tick_closing hst, by rw [tprot]; exact hv.state, fun hn => ?_, fun hi => ?_,
      fun q => by rw [tsw]; exact hq q, by rw [tsw]; exact hhold, by rw [tsw]; exact hcount,
      fun hh h8 => ?_, fun hms hn => ?_, tlinked, tcopy⟩
    · rw [tprot]
      exact hv.entry hn
    · rw [tprot, hv.stays hi]
      exact ⟨rfl, rfl⟩
    · rw [deq hh] at hrec
      rw [tsw]
      exact hrec h8
    · rw [tprot, ttimer]
      exact hv.slave hms hn
  · have hi : isIsolated s = true := by
      rw [isIsolated, hst, hw, he]
      rfl
    unfold offerOwn offerFrame
    rw [ha, hi]
    rfl
  · have hi : isIsolated s = false := by
      rw [isIsolated]
      rcases hh with h | h <;> rw [h]
      · cases s.line.e.health <;> exact Bool.and_false _
      · cases s.line.w.health <;> exact Bool.and_false _
    rw [offerOwn_queued ha hi hb hc]
    exact (queueFrames_setQueue ..).trans (if_pos rfl)

end Sys2Proof.Machine
end

section
/-! PROOFS. Ring cycles and line ports, part 31: the rows that a period queues, and the first part of
its passing (O60). -/

namespace Sys2Proof.Machine

set_option Elab.async false

/-! ## Rows in an open order (log 3) -/

/-- An arrangement of all the elements is a permutation. -/
theorem arrange_perm {α : Type} (c : Nat) (xs : List α) : (arrange xs.length c xs).1.Perm xs := by
  generalize hk : xs.length = k
  induction k generalizing c xs with
  | zero => exact .refl xs
  | succ k ih =>
    have hlt : c % xs.length < xs.length := Nat.mod_lt _ (by omega)
    unfold arrange
    rw [List.getElem?_eq_getElem hlt]
    have hlen : (xs.eraseIdx (c % xs.length)).length = k := by
      rw [List.length_eraseIdx_of_lt hlt]
      omega
    exact ((ih (c / xs.length) _ hlen).cons _).trans (List.getElem_cons_eraseIdx_perm hlt)

theorem arrange_perm' {α : Type} {k : Nat} (c : Nat) {xs : List α} (hk : xs.length = k) :
    (arrange k c xs).1.Perm xs := hk ▸ arrange_perm c xs

theorem flatten_singletons {α : Type} (xs : List α) : (xs.map fun x => [x]).flatten = xs := by
  induction xs with
  | nil => rfl
  | cons x xs ih =>
    rw [List.map_cons, List.flatten_cons, ih]
    rfl

/-- The rows of a period, in whatever order, are those due, and with a sample tick its samples. -/
theorem orderRows_perm (tick : Bool) (choice : Nat) (due : List Instr) :
    (orderRows tick choice due).1.Perm
      ((if tick then .sampleTick :: (indices 16).map .channelSample else []) ++ due) := by
  unfold orderRows
  dsimp only
  refine (arrange_perm _ _).flatten.trans ?_
  rw [List.flatten_append, flatten_singletons]
  refine List.Perm.append_right due ?_
  cases tick
  · exact .refl _
  · simp only [if_true, List.flatten_cons, List.flatten_nil, List.append_nil]
    exact (arrange_perm' _ (by simp [indices])).cons _

theorem mem_row {due : Bool} {i j : Instr} : i ∈ row due j ↔ due = true ∧ i = j := by
  unfold row
  split
  · next h => simp [h]
  · next h => simp [h]

theorem row_eq (p : Prop) [Decidable p] (b : Bool) (i : Instr) (h : b = true ↔ p) :
    row b i = if p then [i] else [] := by
  unfold row
  by_cases hb : b = true
  · rw [if_pos hb, if_pos (h.1 hb)]
  · rw [if_neg hb, if_neg fun hp => hb (h.2 hp)]

theorem flatMap_row {n : Nat} (due : Fin n → Bool) (f : Fin n → Instr) :
    ((indices n).flatMap fun k => row (due k) (f k)) = ((indices n).filter due).map f := by
  induction indices n with
  | nil => rfl
  | cons k ks ih =>
    rw [List.flatMap_cons, ih, List.filter_cons]
    unfold row
    split <;> rfl

/-! ## The inputs are in -/

/-- The rows of reachability, told by their conditions (R16, R20). -/
theorem reachRows_eq (s : State) : reachRows s =
    (if s.isMaster = false ∧ 256 ≤ s.timer.repeatRun ∧ s.timer.recirculating = false
     then [.recirculation] else []) ++
    (if s.isMaster = false ∧ s.prot.linked = true ∧ s.period.qualified = false ∧ 15 ≤ s.prot.age
     then [.centreHeaderAgeExpiry] else []) := by
  unfold reachRows
  exact congrArg₂ (· ++ ·) (row_eq _ _ _ (by simp [recirculationDue, and_assoc]))
    (row_eq _ _ _ (by simp [ageEnds, and_assoc]))

/-- The rows that the inputs have brought about, told by their conditions. -/
theorem broughtRows_eq (s : State) : broughtRows s =
    (if s.timer.duplicate.any (fun k => decide (1000 ≤ k)) then [.duplicateMasterClear] else []) ++
    ((indices 240).filter (comeRoundDue s)).map .planComeRound ++
    (if s.toll.run ≠ [] ∧ s.toll.runFresh = false then [.tollRunClose []] else []) ++
    (if s.sign.sender.state = .idle ∧ 10000 ≤ s.sign.sender.pollTimer
     then [.pollTimerExpiry] else []) ++
    s.agent.requests.head?.toList.filterMap entryInstr := by
  have hcome : (if s.isMaster then (indices 240).flatMap fun n =>
      row (comeRoundDue s n) (.planComeRound n) else []) =
      ((indices 240).filter (comeRoundDue s)).map .planComeRound := by
    split
    · exact flatMap_row _ _
    · next hm =>
      rw [List.filter_eq_nil_iff.2 fun n _ => by simp [comeRoundDue, hm]]
      rfl
  have hreq : requestRows s = s.agent.requests.head?.toList.filterMap entryInstr := by
    unfold requestRows
    cases s.agent.requests with
    | nil => rfl
    | cons r rs =>
      show (entryInstr r).toList = [r].filterMap entryInstr
      cases h : entryInstr r <;> simp [h]
  unfold broughtRows
  exact congrArg₂ (· ++ ·) (congrArg₂ (· ++ ·) (congrArg₂ (· ++ ·) (congrArg₂ (· ++ ·)
    (row_eq _ _ _ Iff.rfl) hcome) (row_eq _ _ _ (by simp)))
    (row_eq _ _ _ (by simp [pollDue]))) hreq

theorem refuseHead_readable {s : State}
    (h : ∀ r ∈ s.agent.requests.head?, (entryInstr r).isSome = true) : refuseHead s = s := by
  unfold refuseHead
  split
  · rfl
  · next r rest hr =>
    have := h r (by rw [hr]; rfl)
    rw [if_neg (by rw [Option.isNone_eq_false_iff.2 this]; decide)]

/-- Why an unreadable request is refused: by the first three checks, else BAD_VALUE (R200). -/
def unreadableReason (s : State) (h : Head) (code : Nat) : Reason :=
  if h.origin = .field ∧ s.agent.fieldLock = true then .locked
  else if h.origin = .field ∧ code ∉ [1, 9, 21, 22, 23] then .notPermitted
  else if code ∈ [24, 26] ∧ s.isMaster = false then .notMaster
  else .badValue

theorem agentCheck_reason (h : Head) (code : Nat) (s : State) :
    (agentCheck h code s).getD .badValue = unreadableReason s h code := by
  have hf : fieldAllowed code = false ↔ code ∉ [1, 9, 21, 22, 23] := by
    simp [fieldAllowed, and_assoc]
  have hm : masterOnly code = true ↔ code ∈ [24, 26] := by simp [masterOnly]
  unfold agentCheck unreadableReason
  simp only [hf, hm]
  split
  · rfl
  split
  · rfl
  split <;> rfl

/-- An unreadable request at the head of the queue is refused, counted and taken off (R200). -/
theorem refuseHead_unreadable {s : State} {r : QueuedRequest}
    (hr : r ∈ s.agent.requests.head?) (hn : entryInstr r = none) :
    refuseHead s = (respond r.head
      (refusal (unreadableReason s r.head (requestCode r.payload))) (countRequest r.head s)).modAgent
        fun a => { a with requests := s.agent.requests.drop 1 } := by
  unfold refuseHead
  split
  · next h =>
    rw [h] at hr
    cases hr
  · next x rest h =>
    rw [h] at hr
    obtain rfl : x = r := Option.some.inj hr
    rw [hn, if_pos (by rfl), h]
    have hc := agentCheck_reason x.head (requestCode x.payload) (countRequest x.head s)
    unfold refuseUnreadable
    dsimp only
    rw [hc]
    rfl

theorem ite_withPending (b : Bool) (t u : State) (cs : List Instr) :
    (if b then t else u).withPending cs = if b then t.withPending cs else u.withPending cs := by
  cases b <;> rfl

/-- What waits bears on no response (R199). -/
theorem respond_withPending (h : Head) (r : Result) (s : State) (cs : List Instr) :
    respond h r (s.withPending cs) = (respond h r s).withPending cs := by
  unfold respond
  dsimp only
  cases h.origin
  · refine Eq.trans ?_ (ite_withPending s.isMaster _ _ cs).symm
    refine if_congr Iff.rfl ?_ rfl
    refine Eq.trans ?_ (ite_withPending s.pins.uplinkUp _ _ cs).symm
    exact if_congr Iff.rfl rfl rfl
  · rfl

/-- The state as the inputs of a period are in. -/
theorem closePeriod_eq (s : State) : closePeriod s =
    { (setAge (countedAge s) (refuseHead s)).modPeriod fun x => { x with stage := .closing } with
      pending := (refuseHead s).pending ++
        (reachRows s ++ (orderRows false s.choices (broughtRows s)).1)
      choices := (orderRows false s.choices (broughtRows s)).2 } := rfl

theorem refuseHead_pending (s : State) : (refuseHead s).pending = s.pending :=
  refuseHead_changes s .pending (by decide)

theorem closePeriod_changes (s : State) :
    Changes [.pending, .choices, .period, .prot] (refuseHead s) (closePeriod s) := by
  rw [closePeriod_eq]
  intro p hp
  cases p
  case pending | choices | period | prot => exact absurd (by decide) hp
  all_goals rfl

theorem tick_inputs {s : State} (h : s.period.stage = .inputs) :
    step (s.withPending []) = .next (closePeriod (s.withPending [])) := by
  show Host.Outcome.next (tick (s.withPending [])) = _
  unfold tick
  rw [show (s.withPending []).period.stage = .inputs from h]

theorem closePeriod_prot (s : State) :
    (closePeriod s).prot = { s.prot with age := countedAge s } := by
  have h : (refuseHead s).prot = s.prot := refuseHead_changes s .prot (by decide)
  rw [closePeriod_eq]
  show { (refuseHead s).prot with age := countedAge s } = _
  rw [h]

theorem closePeriod_period (s : State) :
    (closePeriod s).period = { s.period with stage := .closing } := by
  have h : (refuseHead s).period = s.period := refuseHead_changes s .period (by decide)
  rw [closePeriod_eq]
  show { (refuseHead s).period with stage := Stage.closing } = _
  rw [h]

theorem countedAge_stands {s : State} (h : s.isMaster = true ∨ s.period.qualified = true) :
    countedAge s = s.prot.age := by
  unfold countedAge
  rw [if_pos (by simpa using h)]

theorem countedAge_linked {s : State} (hm : s.isMaster = false) (hq : s.period.qualified = false)
    (hl : s.prot.linked = true) (ha : s.prot.age < 16) :
    countedAge s = min 15 (s.prot.age + 1) := by
  unfold countedAge
  rw [hm, hq, hl, if_neg (by decide), if_pos rfl]
  omega

theorem countedAge_detached {s : State} (hm : s.isMaster = false) (hq : s.period.qualified = false)
    (hl : s.prot.linked = false) : countedAge s = min 16 (s.prot.age + 1) := by
  unfold countedAge
  rw [hm, hq, hl, if_neg (by decide), if_neg (by decide)]

end Sys2Proof.Machine
end

section
/-! PROOFS. Ring cycles and line ports, part 32: the settling of a cycle (O60). -/

namespace Sys2Proof.Machine

set_option Elab.async false

/-! ## What leaves toward the ring and the phones (R161, R22) -/

/-- The outputs but for the frames of the uplink. -/
def ringOut (s : State) : Outputs := { s.out with uplink := [] }

theorem ringOut_of_out {s t : State} (h : t.out = s.out) : ringOut t = ringOut s := by
  unfold ringOut
  rw [h]

theorem sendToCentre_ringOut (q : QueueName) (service channel : Octet) (payload : Octets)
    (s : State) : ringOut (sendToCentre q service channel payload s).1 = ringOut s := by
  unfold sendToCentre
  dsimp only
  split
  · rfl
  · exact ringOut_of_out (offerOwn_changes _ _ _ .out (by decide))

theorem reportTrigger_ringOut (s : State) : ringOut (reportTrigger s) = ringOut s := by
  unfold reportTrigger offerReport
  exact ite_of (ite_of rfl (sendToCentre_ringOut _ _ _ _ s)) rfl

theorem changeCondition_ringOut (judged : Bool) (c : Fin 64) (v : Bool) (s : State) :
    ringOut (changeCondition judged c v s) = ringOut s := by
  have hj : ∀ u : State, ringOut (judgeEdge c v u) = ringOut u := fun u => by
    unfold judgeEdge
    exact ite_of rfl (ite_of rfl (ite_of (reportTrigger_ringOut _) rfl))
  unfold changeCondition
  refine ite_of rfl ?_
  cases judged
  · rfl
  · exact hj _

theorem foldl_changeCondition_ringOut (judged : Fin 64 × Bool → Bool) (cs : List (Fin 64 × Bool))
    (s : State) :
    ringOut (cs.foldl (fun t c => changeCondition (judged c) c.1 c.2 t) s) = ringOut s := by
  induction cs generalizing s with
  | nil => rfl
  | cons c cs ih => exact (ih _).trans (changeCondition_ringOut _ _ _ s)

theorem relink_ringOut (s : State) : ringOut (relink s) = ringOut s := by
  rw [relink_eq, changeCondition_ringOut, reportTrigger_ringOut]
  exact ringOut_of_out (phoneRelink_changes hand_keeps (setHanded true s) .out (by decide))

theorem handReach_ringOut (s : State) : ringOut (handReach s) = ringOut s := by
  unfold handReach
  exact ite_of rfl (ite_of (relink_ringOut s)
    (ringOut_of_out (detach_changes_quiet s .out (by decide))))

theorem settleCycle_ringOut (s : State) : ringOut (settleCycle s) = ringOut s := by
  refine (foldl_changeCondition_ringOut
    (fun c => !(c.2 && (protectionConditions (handReach (settleProtection s))).period.raised.contains
      c.1)) _ _).trans ?_
  refine (foldl_changeCondition_ringOut (fun _ => true) _ _).trans ?_
  exact (handReach_ringOut _).trans
    (ringOut_of_out (settleProtection_changes s .out (by decide)))

theorem sentAt_ringOut {s t : State} (h : ringOut t = ringOut s) (p : Port) :
    sentAt t p = sentAt s p := by
  cases p
  · exact (congrArg Outputs.txW h : _)
  · exact (congrArg Outputs.txE h : _)

theorem speech_ringOut {s t : State} (h : ringOut t = ringOut s) : t.out.speech = s.out.speech :=
  (congrArg Outputs.speech h : _)

/-! ## The protection state and reachability, settled (R22, R24) -/

theorem relink_prot (s : State) : (relink s).prot = { s.prot with handed := true } := by
  rw [relink_eq]
  have h : (reportTrigger (phoneRelink hand (setHanded true s))).prot =
      (phoneRelink hand (setHanded true s)).prot := reportTrigger_changes _ .prot (by decide)
  exact (changeCondition_changes _ _ _ _ .prot (by decide)).trans
    (h.trans (phoneRelink_changes hand_keeps (setHanded true s) .prot (by decide)))

theorem handReach_prot (s : State) :
    (handReach s).prot = { s.prot with handed := s.prot.linked } := by
  unfold handReach
  split
  · next h => rw [h]
  split
  · next h => rw [relink_prot, h]
  · next h => rw [detach_prot, Bool.eq_false_iff.2 h]

theorem settleCycle_prot (s : State) : (settleCycle s).prot =
    { (settleProtection s).prot with handed := (settleProtection s).prot.linked } :=
  (journalConditions_changes _ .prot (by decide)).trans
    ((protectionConditions_changes _ .prot (by decide)).trans (handReach_prot _))

/-- The state moves at most once, to what the healths give, and is counted (R24). -/
theorem settleProtection_counts (s : State) :
    let settled := protectionOf s.line.w.health s.line.e.health
    (settleProtection s).prot.state = settled ∧
      (settleProtection s).prot.changes =
        (if settled = s.prot.state then s.prot.changes else bump s.prot.changes) ∧
      (settleProtection s).prot.isolations =
        (if settled ≠ s.prot.state ∧ settled = .isolated then bump s.prot.isolations
         else s.prot.isolations) := by
  intro settled
  by_cases hs : settled = s.prot.state
  · have hp : (settleProtection s).prot = s.prot := by
      unfold settleProtection
      rw [if_pos (show protectionOf s.line.w.health s.line.e.health = s.prot.state from hs)]
      exact ite_of (g := State.prot) rfl rfl
    rw [hp, if_pos hs, if_neg fun h => absurd hs h.1]
    exact ⟨hs.symm, rfl, rfl⟩
  · have hm : settleProtection s = moveProtection settled s := if_neg hs
    rw [hm, if_neg hs]
    by_cases hi : settled = .isolated
    · have hn : s.prot.state ≠ .isolated := fun h => hs (hi.trans h.symm)
      have h := moveProtection_isolated hn
      rw [if_pos ⟨hs, hi⟩, hi]
      exact ⟨h.state, h.entry hn⟩
    · rw [if_neg fun h => hi h.2, moveProtection_eq, if_neg hi, moved_prot]
      exact ⟨rfl, rfl, if_neg hi⟩

/-! ## The cycle after it is settled -/

/-- The flags of conditions 49, 50, 56 and 57 (R33, R130). -/
theorem ownerFlag_settled (s : State) :
    ownerFlag s condWrapped.val = (s.prot.state == .wrapEast || s.prot.state == .wrapWest) ∧
      ownerFlag s condIsolated.val = (s.prot.state == .isolated) ∧
      ownerFlag s condJournalNonempty.val = (!s.journal.records.isEmpty) ∧
      ownerFlag s condJournalFull.val = decide (512 ≤ s.journal.records.length) :=
  ⟨rfl, rfl, rfl, rfl⟩

/-- The copy of conditions 49, 50, 56 and 57 as the cycle ends (R33, R130). -/
theorem conditions_settled {w : State} {c : Fin 64}
    (hc : c ∈ [condWrapped, condIsolated, condJournalNonempty, condJournalFull]) :
    (journalConditions (protectionConditions w)).cond.copy.get c =
      ownerFlag (journalConditions (protectionConditions w)) c.val := by
  have h1 := protectionConditions_changes w
  have h2 := journalConditions_changes (protectionConditions w)
  have hp : (journalConditions (protectionConditions w)).prot = w.prot :=
    (h2 .prot (by decide)).trans (h1 .prot (by decide))
  have h3 : (protectionConditions w).journal = w.journal := h1 .journal (by decide)
  have hj : (journalConditions (protectionConditions w)).journal = w.journal := by
    refine Eq.trans ?_ h3
    exact Changes.foldl (fun t c => changeCondition_changes _ c.1 c.2 t)
      (journalLevels (protectionConditions w)) (protectionConditions w) .journal (by decide)
  obtain ⟨hw, hi, hn, hf⟩ := ownerFlag_settled (journalConditions (protectionConditions w))
  rw [journalConditions_copy, protectionConditions_copy, h3]
  simp only [List.mem_cons, List.not_mem_nil, or_false] at hc
  rcases hc with rfl | rfl | rfl | rfl
  · rw [hw, hp]
    split <;> simp [Tab.get_set, condWrapped, condIsolated, condJournalNonempty, condJournalFull]
  · rw [hi, hp]
    split <;> simp [Tab.get_set, condWrapped, condIsolated, condJournalNonempty, condJournalFull]
  · rw [hn, hj]
    simp [Tab.get_set, condJournalNonempty, condJournalFull]
    cases w.journal.records <;> simp
  · rw [hf, hj]
    simp [Tab.get_set]

/-! ## The flags of the cycles already sent (R7, R18) -/

theorem reflagPort_period (p : Port) (s : State) : (reflagPort p s).period = s.period := by
  unfold reflagPort
  split
  · next h =>
    cases p
    · exact (congrArg (fun b => { s.period with fedW := b }) h.symm : _)
    · exact (congrArg (fun b => { s.period with fedE := b }) h.symm : _)
  · rfl

theorem reflag_congr {s t : State} (p : Port) (cycle : Octets) (hl : t.line = s.line)
    (hm : t.isMaster = s.isMaster) (hp : t.pins = s.pins) : reflag p t cycle = reflag p s cycle := by
  unfold reflag flagged
  rw [portAt_congr hl, hm, hp]

theorem sentAt_reflagPort (p q : Port) (s : State) : sentAt (reflagPort p s) q =
    if p = q ∧ isFed s p = true then reflag p s (sentAt s p) else sentAt s q := by
  unfold reflagPort
  by_cases hf : isFed s p = true
  · rw [if_pos hf, sentAt_transmit]
    simp only [hf, and_true]
  · rw [if_neg hf, if_neg fun h => hf h.2]

/-- What a settled state `u` sends and hears as its cycle ends. -/
def cycleEnded (u : State) : State :=
  (quiet (reflagPort .e (reflagPort .w u))).modPeriod fun x => { x with stage := .sending, raised := [] }

theorem quiet_period (s : State) : (quiet s).period = s.period := by
  unfold quiet
  exact ite_of (g := State.period) rfl rfl

section
variable (u : State)

theorem cycleEnded_period :
    (cycleEnded u).period = { u.period with stage := .sending, raised := [] } := by
  show { (quiet (reflagPort .e (reflagPort .w u))).period with stage := Stage.sending, raised := [] } = _
  rw [quiet_period, reflagPort_period, reflagPort_period]

theorem cycleEnded_changes : Changes [.out, .lanes, .period] u (cycleEnded u) := by
  have h1 := ((reflagPort_changes .w u).mono (qs := [.out, .lanes, .period]) (by decide)).trans
    ((reflagPort_changes .e _).mono (by decide))
  exact (h1.trans ((quiet_changes _).mono (by decide))).trans ((modPeriod_changes _ _).mono (by decide))

/-- A cycle already sent takes its flags anew; a port without one stands. -/
theorem cycleEnded_sent (p : Port) : sentAt (cycleEnded u) p =
    if isFed u p = true then reflag p u (sentAt u p) else sentAt u p := by
  have hfe : ∀ q, isFed (reflagPort .w u) q = isFed u q := isFed_congr (reflagPort_period .w u)
  have hr := reflagPort_changes .w u
  have hq : sentAt (cycleEnded u) p = sentAt (reflagPort .e (reflagPort .w u)) p := by
    show sentAt (quiet _) p = _
    unfold quiet
    exact ite_of (g := fun u => sentAt u p) rfl (by cases p <;> rfl)
  rw [hq, sentAt_reflagPort, hfe]
  cases p
  · rw [if_neg fun h => absurd h.1 (by decide), sentAt_reflagPort]
    simp only [true_and]
  · rw [sentAt_reflagPort, if_neg fun h : Port.w = .e ∧ _ => absurd h.1 (by decide),
      reflag_congr .e _ (hr .line (by decide)) (hr .isMaster (by decide)) (hr .pins (by decide))]
    simp only [true_and]

/-- Without a processed cycle the phones and the lanes hear silence (R78, R102). -/
theorem cycleEnded_quiet :
    if u.period.processed = true then
      (cycleEnded u).out.speech = u.out.speech ∧ (cycleEnded u).lanes = u.lanes
    else (cycleEnded u).out.speech = .fill 4 silence ∧
      (cycleEnded u).lanes = { u.lanes with toCentre := .fill 48 silence } := by
  have hr : ∀ (p : Port) (v : State), (reflagPort p v).out.speech = v.out.speech := fun p v => by
    unfold reflagPort
    exact ite_of (g := fun v : State => v.out.speech) (transmit_out p _ v).1 rfl
  have hl : (reflagPort .e (reflagPort .w u)).lanes = u.lanes :=
    (reflagPort_changes .e _ .lanes (by decide)).trans (reflagPort_changes .w _ .lanes (by decide))
  have hper : (reflagPort .e (reflagPort .w u)).period = u.period := by
    rw [reflagPort_period, reflagPort_period]
  have hsp := (hr .e (reflagPort .w u)).trans (hr .w u)
  show if u.period.processed = true then
      (quiet (reflagPort .e (reflagPort .w u))).out.speech = _ ∧
        (quiet (reflagPort .e (reflagPort .w u))).lanes = _
    else (quiet (reflagPort .e (reflagPort .w u))).out.speech = _ ∧
        (quiet (reflagPort .e (reflagPort .w u))).lanes = _
  unfold quiet
  rw [hper]
  split
  · exact ⟨hsp, hl⟩
  · exact ⟨rfl, congrArg (fun l : Lanes => { l with toCentre := .fill 48 silence }) hl⟩

end

theorem settlePeriod_eq (s : State) : settlePeriod s =
    { cycleEnded (settleCycle s) with
      pending := (cycleEnded (settleCycle s)).pending ++ ownCycle (cycleEnded (settleCycle s)) ++
        ownSwitch (cycleEnded (settleCycle s)) } := rfl

/-! ## A cycle that was settled (R33, R130) -/

theorem changeCondition_same {c : Fin 64} {v : Bool} {s : State} (judged : Bool)
    (h : s.cond.copy.get c = v) : changeCondition judged c v s = s := if_pos h

theorem foldl_changeCondition_same {s : State} (judged : Fin 64 × Bool → Bool)
    {cs : List (Fin 64 × Bool)} (h : ∀ c ∈ cs, s.cond.copy.get c.1 = c.2) :
    cs.foldl (fun t c => changeCondition (judged c) c.1 c.2 t) s = s := by
  induction cs with
  | nil => rfl
  | cons c cs ih =>
    rw [List.foldl_cons, changeCondition_same _ (h c List.mem_cons_self),
      ih fun d hd => h d (List.mem_cons_of_mem c hd)]

theorem isolateSwitch_empty (c : Half) {sw : FrameSwitch} (hq : ∀ q, queueFrames sw q = [])
    (hh : sw.holding = []) : isolateSwitch c sw = sw := by
  have hone : ∀ q, discardQueue c sw q = sw := fun q => by
    rw [discardQueue, hq, discardAll_nil, ← hq q, setQueue_self]
  have hall : ∀ qs : List QueueName, qs.foldl (discardQueue c) sw = sw := fun qs => by
    induction qs with
    | nil => rfl
    | cons q qs ih => rw [List.foldl_cons, hone, ih]
  unfold isolateSwitch
  rw [hall]
  show { discardAll c .noPath .holding sw.holding sw with holding := [] } = sw
  rw [hh, discardAll_nil, ← hh]

/-- The conditions of protection and journal that stand with their owners are not handed. -/
theorem conditions_stand {s : State}
    (hc : ∀ c ∈ [condWrapped, condIsolated, condJournalNonempty, condJournalFull],
      s.cond.copy.get c = ownerFlag s c.val) :
    journalConditions (protectionConditions s) = s := by
  obtain ⟨hw, hi, hn, hf⟩ := ownerFlag_settled s
  have h49 : s.cond.copy.get condWrapped = _ := (hc _ (by simp)).trans hw
  have h50 : s.cond.copy.get condIsolated = _ := (hc _ (by simp)).trans hi
  have h56 : s.cond.copy.get condJournalNonempty = _ := (hc _ (by simp)).trans hn
  have h57 : s.cond.copy.get condJournalFull = _ := (hc _ (by simp)).trans hf
  have hprotection : protectionConditions s = s := by
    refine foldl_changeCondition_same (fun _ => true) fun c hmem => ?_
    split at hmem <;> simp only [List.mem_cons, List.not_mem_nil, or_false] at hmem <;>
      rcases hmem with rfl | rfl <;> assumption
  have hjournal : journalConditions s = s := by
    refine foldl_changeCondition_same (fun c => !(c.2 && s.period.raised.contains c.1))
      fun c hmem => ?_
    simp only [journalLevels, List.mem_cons, List.not_mem_nil, or_false] at hmem
    rcases hmem with rfl | rfl
    · rw [h56]
      cases s.journal.records <;> rfl
    · exact h57
  rw [hprotection, hjournal]

/-- A settled cycle is settled: nothing is left to hand. -/
theorem settleCycle_settled {s : State} (h : CycleSettled s)
    (he : protectionOf s.line.w.health s.line.e.health ≠ .isolated ∨
      (∀ q, queueFrames s.sw q = []) ∧ s.sw.holding = []) : settleCycle s = s := by
  obtain ⟨hst, hh, hc⟩ := h
  have hprotection : settleProtection s = s := by
    unfold settleProtection
    dsimp only
    rw [if_pos hst.symm]
    split
    · next hi =>
      obtain ⟨hq, hhold⟩ := he.resolve_left (not_not.2 hi)
      show { s with sw := isolateSwitch s.timer.number s.sw } = s
      rw [isolateSwitch_empty _ hq hhold]
    · rfl
  have hreach : handReach s = s := if_pos hh.symm
  rw [settleCycle, hprotection, hreach, conditions_stand hc]

/-- What CycleSettled speaks of. -/
theorem CycleSettled.congr {s t : State} (h : CycleSettled s) (hp : t.prot = s.prot)
    (hl : t.line = s.line) (hc : t.cond = s.cond) (hj : t.journal = s.journal) :
    CycleSettled t := by
  obtain ⟨h1, h2, h3⟩ := h
  obtain ⟨hw, hi, hn, hf⟩ := ownerFlag_settled s
  obtain ⟨tw, ti, tn, tf⟩ := ownerFlag_settled t
  unfold CycleSettled
  rw [hp, hl, hc]
  refine ⟨h1, h2, fun c hmem => (h3 c hmem).trans ?_⟩
  simp only [List.mem_cons, List.not_mem_nil, or_false] at hmem
  rcases hmem with rfl | rfl | rfl | rfl
  · rw [hw, tw, hp]
  · rw [hi, ti, hp]
  · rw [hn, tn, hj]
  · rw [hf, tf, hj]

theorem reflag_none {p : Port} {s : State} {cycle : Octets} (h : decodeCycleHeader cycle = none) :
    reflag p s cycle = cycle := by
  unfold reflag
  rw [h]

theorem reflag_some {p : Port} {s : State} {cycle : Octets} {h : CycleHeader}
    (hd : decodeCycleHeader cycle = some h) :
    reflag p s cycle = encodeCycleHeader (flagged p s h) ++ cycle.drop 10 := by
  unfold reflag
  rw [hd]

/-! ## What the settled cycle queues (R14, R15, R18, R87) -/

theorem switchDue_eq (s : State) :
    switchDue s = s.phone.pendingAt.any (fun c => !ahead c s.timer.number) := by
  unfold switchDue
  cases s.phone.pendingAt <;> rfl

theorem ownCycle_eq (s : State) : ownCycle s =
    (if s.isMaster = true then (if s.period.originated then [] else [.originateCycle])
     else if s.period.processed = true then []
     else if s.timer.holdover = true then [.holdoverCycle]
     else if 3 ≤ s.timer.missing then [.holdoverEntry] else [.missingCycle]) := by
  unfold ownCycle row
  cases s.period.originated <;> rfl

theorem ownSwitch_eq (s : State) : ownSwitch s =
    (if s.isMaster = false ∧ s.period.processed = false ∧
        s.phone.pendingAt.any (fun c => !ahead c (s.timer.number + 1)) = true
     then [.planSwitch] else []) := by
  unfold ownSwitch
  rw [switchDue_eq]
  exact row_eq _ _ _ (by simp [and_assoc, nextNumber])

/-! ## The settled cycle as a step leaves it -/

theorem settlePeriod_sent (s : State) (p : Port) : sentAt (settlePeriod s) p =
    if isFed s p = true then reflag p s (sentAt s p) else sentAt s p := by
  have hc := settleCycle_changes s
  have hr := settleCycle_ringOut s
  rw [settlePeriod_eq]
  generalize settleCycle s = u at *
  show sentAt (cycleEnded u) p = _
  rw [cycleEnded_sent, sentAt_ringOut hr, isFed_congr (hc .period (by decide)),
    reflag_congr p _ (hc .line (by decide)) (hc .isMaster (by decide)) (hc .pins (by decide))]

theorem settlePeriod_quiet (s : State) :
    if s.period.processed = true then
      (settlePeriod s).out.speech = s.out.speech ∧ (settlePeriod s).lanes = s.lanes
    else (settlePeriod s).out.speech = .fill 4 silence ∧
      (settlePeriod s).lanes = { s.lanes with toCentre := .fill 48 silence } := by
  have hper : (settleCycle s).period = s.period := settleCycle_changes s .period (by decide)
  have hlanes : (settleCycle s).lanes = s.lanes := settleCycle_changes s .lanes (by decide)
  have hsp : (settleCycle s).out.speech = s.out.speech := speech_ringOut (settleCycle_ringOut s)
  have hq := cycleEnded_quiet (settleCycle s)
  rw [settlePeriod_eq]
  generalize settleCycle s = u at *
  rw [hper, hlanes, hsp] at hq
  exact hq

theorem settlePeriod_period (s : State) :
    (settlePeriod s).period = { s.period with stage := .sending, raised := [] } := by
  have hper : (settleCycle s).period = s.period := settleCycle_changes s .period (by decide)
  have hv := cycleEnded_period (settleCycle s)
  rw [hper] at hv
  exact hv

theorem settlePeriod_settled (s : State) : CycleSettled (settlePeriod s) := by
  have hset : CycleSettled (settleCycle s) := by
    have hline : (settleCycle s).line = s.line := settleCycle_changes s .line (by decide)
    refine ⟨?_, ?_, fun c hc => conditions_settled hc⟩
    · rw [settleCycle_prot, hline]
      exact (settleProtection_counts s).1
    · rw [settleCycle_prot]
  have hv := cycleEnded_changes (settleCycle s)
  rw [settlePeriod_eq]
  generalize settleCycle s = u at *
  exact hset.congr (hv .prot (by decide)) (hv .line (by decide)) (hv .cond (by decide))
    (hv .journal (by decide))

theorem settlePeriod_prot (s : State) : (settlePeriod s).prot =
    { (settleProtection s).prot with handed := (settleProtection s).prot.linked } :=
  (settlePeriod_changes_after s .prot (by decide)).trans (settleCycle_prot s)

/-- The rows that the settled cycle queues, told by the state that it leaves. -/
theorem settlePeriod_pending (s : State) : (settlePeriod s).pending = s.pending ++
    ((if s.isMaster = true then (if s.period.originated then [] else [.originateCycle])
      else if s.period.processed = true then []
      else if (settlePeriod s).timer.holdover = true then [.holdoverCycle]
      else if 3 ≤ (settlePeriod s).timer.missing then [.holdoverEntry] else [.missingCycle]) ++
    (if s.isMaster = false ∧ s.period.processed = false ∧ (settlePeriod s).phone.pendingAt.any
        (fun c => !ahead c ((settlePeriod s).timer.number + 1)) = true
     then [.planSwitch] else [])) := by
  have hc := settleCycle_changes s
  rw [settlePeriod_eq]
  generalize settleCycle s = u at *
  have hv := cycleEnded_changes u
  have hm : (cycleEnded u).isMaster = s.isMaster :=
    (hv .isMaster (by decide)).trans (hc .isMaster (by decide))
  have hp : (cycleEnded u).pending = s.pending :=
    (hv .pending (by decide)).trans (hc .pending (by decide))
  have hper : u.period = s.period := hc .period (by decide)
  show (cycleEnded u).pending ++ ownCycle (cycleEnded u) ++ ownSwitch (cycleEnded u) = _
  rw [hp, ownCycle_eq, ownSwitch_eq, cycleEnded_period, hm, hper, List.append_assoc]

theorem settlePeriod_changes (s : State) :
    Changes (settleParts ++ [.lanes, .period, .pending]) s (settlePeriod s) :=
  ((settleCycle_changes s).mono (by decide)).trans ((settlePeriod_changes_after s).mono (by decide))

end Sys2Proof.Machine
end

section
/-! PROOFS. Ring cycles and line ports, part 33: the opening of a period (O60). -/

namespace Sys2Proof.Machine

set_option Elab.async false

/-! ## The node's own cycle on a port that nothing has fed (R2, R17) -/

/-- A port that is fed moves what it has sent and the period alone. -/
theorem feedPort_eq (p : Port) (s : State) :
    feedPort p s = { s with out := (feedPort p s).out, period := (feedPort p s).period } := by
  unfold feedPort unlessFed
  split
  · rfl
  split
  · rfl
  · cases p <;> rfl

theorem feedPort_kept (p : Port) (s : State) :
    (feedPort p s).out.speech = s.out.speech ∧ (feedPort p s).out.tollLine = s.out.tollLine ∧
      (feedPort p s).period.raised = s.period.raised := by
  unfold feedPort unlessFed
  split
  · exact ⟨rfl, rfl, rfl⟩
  split
  · exact ⟨rfl, rfl, rfl⟩
  · cases p <;> exact ⟨rfl, rfl, rfl⟩

/-- The cycle of a slave's port that nothing has fed: its own header, silence, an empty zone. -/
def unfedCycle (p : Port) (s : State) : Octets :=
  encodeCycle { ownHeader s with farEnd := rxFaulted (portAt s p) }
    (silentVoice (ownHeader s).u.toNat) []

theorem feedPort_sent (p q : Port) (s : State) : sentAt (feedPort p s) q =
    if p ≠ q ∨ s.isMaster = true ∨ isFed s p = true then sentAt s q else unfedCycle p s := by
  unfold feedPort unlessFed
  by_cases hm : s.isMaster = true
  · rw [if_pos hm, if_pos (.inr (.inl hm))]
  rw [if_neg hm]
  by_cases hf : isFed s p = true
  · rw [if_pos hf, if_pos (.inr (.inr hf))]
  rw [if_neg hf, sentAt_sendEmpty]
  by_cases hq : p = q
  · subst hq
    rw [if_pos rfl, if_neg (by simp [hm, hf])]
    rfl
  · rw [if_neg hq, if_pos (.inl hq)]

theorem feedPort_fed {p q : Port} (h : p ≠ q) (s : State) : isFed (feedPort p s) q = isFed s q := by
  obtain rfl : q = otherPort p := by cases p <;> cases q <;> trivial
  unfold feedPort unlessFed
  split
  · rfl
  split
  · rfl
  · exact isFed_transmit_other p _ s

/-- Both ports of a node as the next period opens. -/
def fedState (s : State) : State := feedPort .e (feedPort .w s)

theorem unfedCycle_congr (p : Port) {s t : State} (ht : t.timer = s.timer) (hl : t.line = s.line) :
    unfedCycle p t = unfedCycle p s := by
  unfold unfedCycle ownHeader holdoverHeader regeneratedHeader
  rw [portAt_congr hl, ht]

theorem fedState_sent (s : State) (p : Port) : sentAt (fedState s) p =
    if s.isMaster = true ∨ isFed s p = true then sentAt s p else unfedCycle p s := by
  have h := feedPort_eq .w s
  have hm : (feedPort .w s).isMaster = s.isMaster := by rw [h]
  have hu : ∀ q, unfedCycle q (feedPort .w s) = unfedCycle q s := fun q =>
    unfedCycle_congr q (by rw [h]) (by rw [h])
  unfold fedState
  cases p
  · rw [feedPort_sent, if_pos (.inl (by decide)), feedPort_sent]
    simp
  · have hs : sentAt (feedPort .w s) .e = sentAt s .e := by
      rw [feedPort_sent, if_pos (.inl (by decide))]
    rw [feedPort_sent, hm, feedPort_fed (by decide), hs, hu]
    simp

/-- The node with both its ports fed: the same but for its outputs and its period. -/
theorem fedState_eq (s : State) :
    fedState s = { s with out := (fedState s).out, period := (fedState s).period } := by
  unfold fedState
  rw [feedPort_eq .e, feedPort_eq .w s]

theorem fedState_kept (s : State) :
    (fedState s).out.speech = s.out.speech ∧ (fedState s).out.tollLine = s.out.tollLine ∧
      (fedState s).period.raised = s.period.raised := by
  obtain ⟨h1, h2, h3⟩ := feedPort_kept .w s
  obtain ⟨k1, k2, k3⟩ := feedPort_kept .e (feedPort .w s)
  exact ⟨k1.trans h1, k2.trans h2, k3.trans h3⟩

/-! ## The rows of a period, one by one (log 3) -/

theorem mem_indices {n : Nat} (k : Fin n) : k ∈ indices n := List.mem_finRange k

@[simp] theorem mem_lineRows {s : State} {i : Instr} : i ∈ lineRows s ↔ ∃ p : Port,
    alignRowDue (portAt s p) = true ∧ i = .alignFaultCount p ∨
    wtrDue s p = true ∧ i = .wtrExpiry p ∨ bringUpDue s p = true ∧ i = .bringUpComplete p := by
  have hp : ∀ p : Port, p ∈ [Port.w, Port.e] := fun p => by cases p <;> decide
  simp only [lineRows, List.mem_flatMap, List.mem_append, mem_row, hp, true_and, or_assoc]

@[simp] theorem mem_phoneRows {pressed : List (Fin 4)} {s : State} {i : Instr} :
    i ∈ phoneRows pressed s ↔ (switchDue s = true ∧ i = .planSwitch) ∨
      (∃ q, hookDue s q .off = true ∧ i = .offHook q ∨ hookDue s q .on = true ∧ i = .onHook q ∨
        q ∈ pressed ∧ i = .priorityPress q ∨ requestDue (posAt s q) = true ∧ i = .callRequestResend q ∨
        releaseDue s q = true ∧ i = .callReleaseResend q ∨
        ringDue (posAt s q) = true ∧ i = .ringTimeout q) ∨
      1000 ≤ s.phone.statusTimer ∧ i = .statusTimerExpiry := by
  simp only [phoneRows, positionRows, List.mem_append, List.mem_flatMap, mem_row, mem_indices,
    true_and, or_assoc, decide_eq_true_eq]

@[simp] theorem mem_allocRows {s : State} {i : Instr} : i ∈ allocRows s ↔ s.isMaster = true ∧
    ((∃ n, comeRoundDue s n = true ∧ i = .planComeRound n ∨
      unanswered s n = true ∧ i = .planUnanswered n ∨
      quarantineDue s n = true ∧ i = .absentQuarantineExpiry n) ∨
    ∃ e ∈ s.alloc.calls, (isLive e = true ∧ 3000 ≤ e.age) ∧
      i = .callSupervisionExpiry e.node e.position) := by
  unfold allocRows
  split
  · next hm =>
    simp only [nodeRows, List.mem_append, List.mem_flatMap, mem_row, mem_indices, true_and, or_assoc,
      Bool.and_eq_true, decide_eq_true_eq, hm]
  · next hm => simp [hm]

@[simp] theorem mem_tollRows {s : State} {i : Instr} : i ∈ tollRows s ↔
    pendingExpired s ≠ [] ∧ i = .pendingTimeout ∨ s.toll.answers ≠ [] ∧ i = .answerBlockSent ∨
    s.journal.records.any inFlightDue = true ∧ i = .inflightTimeout ∨
    drainRowDue s = true ∧ i = .journalDrain ∨
    1000 ≤ s.journal.subSecond ∧ i = .secondsClock := by
  simp only [tollRows, List.mem_append, mem_row, or_assoc, decide_eq_true_eq, Bool.not_eq_true',
    List.isEmpty_eq_false_iff]

@[simp] theorem mem_wxRows {s : State} {i : Instr} :
    i ∈ wxRows s ↔ ∃ k, pulseDue s k = true ∧ i = .pulseEdge k := by
  simp only [wxRows, List.mem_flatMap, mem_row, mem_indices, true_and]

@[simp] theorem mem_signRows {s : State} {i : Instr} : i ∈ signRows s ↔
    (s.sign.test.any fun t => decide (60000 ≤ t.elapsed)) = true ∧ i = .testTimerExpiry ∨
    s.sign.centre.any lifetimeDue = true ∧ i = .centreLifetimeExpiry ∨
    holdDue s = true ∧ i = .holdExpiry ∨ commandDone s.sign.sender = true ∧ i = .commandSent ∨
    answerDue s = true ∧ i = .answerTimeout ∨ pollDue s.sign.sender = true ∧ i = .pollTimerExpiry := by
  simp only [signRows, List.mem_append, mem_row, or_assoc]

/-- The rows of a period in any order. -/
theorem mem_orderRows {tick : Bool} {choice : Nat} {due : List Instr} {i : Instr} :
    i ∈ (orderRows tick choice due).1 ↔
      tick = true ∧ (i = .sampleTick ∨ ∃ c, i = .channelSample c) ∨ i ∈ due := by
  rw [(orderRows_perm tick choice due).mem_iff, List.mem_append]
  refine or_congr ?_ Iff.rfl
  cases tick
  · simp
  · simp [mem_indices, eq_comm]

/-- The rows that wait as a period has opened. -/
def openedRows (pressed : List (Fin 4)) (choice : Nat) (s : State) : List Instr :=
  row s.isMaster .originateCycle ++ lineRows s ++
    (orderRows (decide (100 ≤ s.wx.clock)) choice (dueRows pressed s)).1

@[simp] theorem mem_openedRows {pressed : List (Fin 4)} {choice : Nat} {s : State} {i : Instr} :
    i ∈ openedRows pressed choice s ↔
      (s.isMaster = true ∧ i = .originateCycle) ∨ i ∈ lineRows s ∨
      (100 ≤ s.wx.clock ∧ (i = .sampleTick ∨ ∃ c, i = .channelSample c)) ∨
      i ∈ phoneRows pressed s ∨ i ∈ allocRows s ∨ i ∈ tollRows s ∨ i ∈ wxRows s ∨ i ∈ signRows s ∨
      (walkDue s = true ∧ i = .walkTimeout) := by
  unfold openedRows dueRows
  simp only [List.mem_append, mem_orderRows, mem_row, decide_eq_true_eq, or_assoc]

/-! ### The conditions of the rows, block by block -/

section
variable (pressed : List (Fin 4)) (choice : Nat) (s : State)

theorem openedRows_originate :
    .originateCycle ∈ openedRows pressed choice s ↔ s.isMaster = true := by
  simp

/-- The rows of a line port (R6, R10, R11). -/
theorem openedRows_line (p : Port) :
    (.alignFaultCount p ∈ openedRows pressed choice s ↔ (portAt s p).rx = .aligning ∧
      (portAt s p).entryFrom = .fromDown ∧ 5 ≤ (portAt s p).alignCycles ∧
      ((portAt s p).faulted = false ∨ (portAt s p).reason ≠ .align)) ∧
    (.wtrExpiry p ∈ openedRows pressed choice s ↔ wtrDue s p = true) ∧
    (.bringUpComplete p ∈ openedRows pressed choice s ↔ bringUpDue s p = true) :=
  ⟨by simp [alignRowDue, alignFaultDue, and_assoc], by simp, by simp⟩

/-- The rows of a phone position (R65, R66, R72, R73, R74). -/
theorem openedRows_position (q : Fin 4) :
    (.offHook q ∈ openedRows pressed choice s ↔ hookDue s q .off = true) ∧
    (.onHook q ∈ openedRows pressed choice s ↔ hookDue s q .on = true) ∧
    (.priorityPress q ∈ openedRows pressed choice s ↔ q ∈ pressed) ∧
    (.callRequestResend q ∈ openedRows pressed choice s ↔ requestDue (posAt s q) = true) ∧
    (.callReleaseResend q ∈ openedRows pressed choice s ↔ releaseDue s q = true) ∧
    (.ringTimeout q ∈ openedRows pressed choice s ↔ ringDue (posAt s q) = true) :=
  ⟨by simp, by simp, by simp, by simp, by simp, by simp⟩

theorem openedRows_phone :
    (.statusTimerExpiry ∈ openedRows pressed choice s ↔ 1000 ≤ s.phone.statusTimer) ∧
    (.planSwitch ∈ openedRows pressed choice s ↔
      ∃ c ∈ s.phone.pendingAt, ahead c s.timer.number = false) :=
  ⟨by simp, by simp [switchDue_eq, Option.any_eq_true]⟩

/-- A plan in flight 64 cycles past its switch cycle (R98). -/
theorem unanswered_iff (n : Fin 240) : unanswered s n = true ↔
    ∃ f ∈ (s.alloc.plans.get n).inFlight, ahead f.plan.switchCycle s.timer.number = false ∧
      64 ≤ (s.timer.number - f.plan.switchCycle).toNat := by
  unfold unanswered cyclesPast
  cases (s.alloc.plans.get n).inFlight with
  | none => simp
  | some f => cases h : ahead f.plan.switchCycle s.timer.number <;> simp [h]

/-- The rows of one node of the plan records, and of its calls (R97 to R100). -/
theorem openedRows_node (n : Fin 240) :
    (.planComeRound n ∈ openedRows pressed choice s ↔ comeRoundDue s n = true) ∧
    (.planUnanswered n ∈ openedRows pressed choice s ↔ s.isMaster = true ∧
      ∃ f ∈ (s.alloc.plans.get n).inFlight, ahead f.plan.switchCycle s.timer.number = false ∧
        64 ≤ (s.timer.number - f.plan.switchCycle).toNat) ∧
    (.absentQuarantineExpiry n ∈ openedRows pressed choice s ↔ quarantineDue s n = true) ∧
    ∀ q, .callSupervisionExpiry n q ∈ openedRows pressed choice s ↔ s.isMaster = true ∧
      ∃ e ∈ s.alloc.calls, e.node = n ∧ e.position = q ∧ isLive e = true ∧ 3000 ≤ e.age := by
  refine ⟨?_, ?_, ?_, fun q => ?_⟩
  · simp [comeRoundDue]
    exact fun hm _ _ => hm
  · rw [← unanswered_iff]
    simp
  · simp [quarantineDue]
  · simp
    tauto

theorem openedRows_toll :
    (.pendingTimeout ∈ openedRows pressed choice s ↔
      ∃ x ∈ s.toll.pendingTable, s.period.inForce.tToll ≤ x.timer) ∧
    (.answerBlockSent ∈ openedRows pressed choice s ↔ s.toll.answers ≠ []) ∧
    (.inflightTimeout ∈ openedRows pressed choice s ↔
      ∃ r ∈ s.journal.records, inFlightDue r = true) ∧
    (.journalDrain ∈ openedRows pressed choice s ↔ reachable s = true ∧
      (drainKeys s.journal ≠ [] ∨
        (∃ x ∈ s.toll.pendingTable, s.period.inForce.tToll ≤ x.timer) ∨
        ∃ r ∈ s.journal.records, inFlightDue r = true)) ∧
    (.secondsClock ∈ openedRows pressed choice s ↔ 1000 ≤ s.journal.subSecond) := by
  have hp : pendingExpired s ≠ [] ↔
      ∃ x ∈ s.toll.pendingTable, s.period.inForce.tToll ≤ x.timer := by
    simp [pendingExpired, pendingDue, List.filter_eq_nil_iff]
  have hd : drainRowDue s = true ↔ reachable s = true ∧ (drainKeys s.journal ≠ [] ∨
      pendingExpired s ≠ [] ∨ ∃ r ∈ s.journal.records, inFlightDue r = true) := by
    simp [drainRowDue, or_assoc]
  refine ⟨?_, by simp, by simp, ?_, by simp⟩
  · rw [← hp]
    simp
  · rw [← hp, ← hd]
    simp

/-- The rows of the sampler (R139, R140). -/
theorem openedRows_weather :
    (.sampleTick ∈ openedRows pressed choice s ↔ 100 ≤ s.wx.clock) ∧
    (∀ c, .channelSample c ∈ openedRows pressed choice s ↔ 100 ≤ s.wx.clock) ∧
    (∀ k, .pulseEdge k ∈ openedRows pressed choice s ↔ pulseDue s k = true) :=
  ⟨by simp, fun c => by simp, fun k => by simp⟩

theorem openedRows_sign :
    (.testTimerExpiry ∈ openedRows pressed choice s ↔ ∃ x ∈ s.sign.test, 60000 ≤ x.elapsed) ∧
    (.centreLifetimeExpiry ∈ openedRows pressed choice s ↔
      ∃ c ∈ s.sign.centre, lifetimeDue c = true) ∧
    (.holdExpiry ∈ openedRows pressed choice s ↔ holdDue s = true) ∧
    (.commandSent ∈ openedRows pressed choice s ↔ commandDone s.sign.sender = true) ∧
    (.answerTimeout ∈ openedRows pressed choice s ↔ answerDue s = true) ∧
    (.pollTimerExpiry ∈ openedRows pressed choice s ↔ pollDue s.sign.sender = true) ∧
    (.walkTimeout ∈ openedRows pressed choice s ↔ walkDue s = true) :=
  ⟨by simp [Option.any_eq_true], by simp [Option.any_eq_true], by simp, by simp, by simp, by simp,
    by simp⟩

end

/-! ## The period as it has opened -/

theorem unfedCycle_eq (p : Port) (s : State) : unfedCycle p s =
    encodeCycle
      { number := s.timer.number, masterAddr := s.timer.record.masterAddr
        origin := if s.timer.holdover then .holdover else s.timer.record.origin
        u := if s.timer.holdover then 0 else s.timer.record.u
        centreUp := !s.timer.holdover && s.timer.record.centreUp
        farEnd := rxFaulted (portAt s p) }
      (silentVoice (if s.timer.holdover then 0 else s.timer.record.u.toNat)) [] := by
  unfold unfedCycle ownHeader
  cases s.timer.holdover <;> rfl

/-- The state in which the rows of a new period are found: every timer a cycle on. -/
def opened (s : State) : State := advance (fedState s)

theorem opened_eq (s : State) : opened s =
    { advance s with
      out := { s.out with
        uplink := [], txW := sentAt (fedState s) .w, txE := sentAt (fedState s) .e } } := by
  obtain ⟨hsp, htl, hra⟩ := fedState_kept s
  have ho : ({ (fedState s).out with uplink := [] } : Outputs) =
      { s.out with uplink := [], txW := sentAt (fedState s) .w, txE := sentAt (fedState s) .e } := by
    dsimp only
    rw [← hsp, ← htl]
    rfl
  calc opened s = advance { s with out := (fedState s).out, period := (fedState s).period } :=
        congrArg advance (fedState_eq s)
    _ = { advance s with
          out := { (fedState s).out with uplink := [] }
          period := { Period.fresh (settingsNow s) with raised := (fedState s).period.raised } } := rfl
    _ = _ := by
        rw [ho, hra]
        rfl

theorem openPeriod_eq (s : State) : ∃ n, openPeriod s =
    { opened s with
      pending := (opened s).pending ++ openedRows (pressing s) (opened s).choices (opened s)
      choices := n } := by
  refine ⟨(orderRows (decide (100 ≤ (opened s).wx.clock)) (opened s).choices
    (dueRows (pressing s) (opened s))).2, ?_⟩
  unfold openPeriod openedRows
  rw [← List.append_assoc, ← List.append_assoc]
  rfl

/-- With nothing waiting the period opens with its own rows. -/
theorem openPeriod_empty (s : State) : ∃ n, openPeriod (s.withPending []) =
    { opened (s.withPending []) with
      pending := openedRows (pressing s) s.choices (opened (s.withPending [])), choices := n } := by
  obtain ⟨n, h⟩ := openPeriod_eq (s.withPending [])
  have hv := opened_eq (s.withPending [])
  have hp : (opened (s.withPending [])).pending = [] := by rw [hv]; rfl
  have hc : (opened (s.withPending [])).choices = s.choices := by rw [hv]; rfl
  rw [hp, hc, List.nil_append] at h
  exact ⟨n, h⟩

theorem tick_sending {s : State} (h : s.period.stage = .sending) :
    step (s.withPending []) = .next (openPeriod (s.withPending [])) := by
  show Host.Outcome.next (tick (s.withPending [])) = _
  unfold tick
  rw [show (s.withPending []).period.stage = .sending from h]

theorem mem_pressing {s : State} {q : Fin 4} : q ∈ pressing s ↔
    s.pins.buttons.get q = true ∧ (posAt s q).holdCount = 3999 := by
  simp [pressing, pressDue, mem_indices]

/-- A line port a cycle later (R6, R10, R11). -/
theorem laterPort_eq (s : State) (p : Port) : laterPort (forcedOn s p) (portAt s p) =
    { portAt s p with
      alignCycles := if (portAt s p).rx = .aligning then min 5 ((portAt s p).alignCycles + 1)
        else (portAt s p).alignCycles
      wtrTimer := (portAt s p).wtrTimer.map (· + 1)
      bringUp := if portClear (portAt s p) = true ∧ (portAt s p).health = .unhealthy ∧
          (portAt s p).everHealthy = false ∧ s.prot.forced ≠ some p
        then min 16 ((portAt s p).bringUp + 1) else (portAt s p).bringUp
      completed := none } := by
  have h : bringingUp (forcedOn s p) (portAt s p) = true ↔ portClear (portAt s p) = true ∧
      (portAt s p).health = .unhealthy ∧ (portAt s p).everHealthy = false ∧
      s.prot.forced ≠ some p := by
    simp [bringingUp, forcedOn, and_assoc]
  unfold laterPort
  simp only [h]
  rfl

/-- A phone position a period later (R65, R66, R72, R74). -/
theorem laterPosition_eq (raw : Hook) (pressed : Bool) (p : Position) : laterPosition raw pressed p =
    { p with
      hookCount := if raw = p.debounced then 0 else min 20 (p.hookCount + 1)
      holdCount := if pressed = false then 0 else if p.holdCount < 3999 then p.holdCount + 1
        else p.holdCount
      resend := p.resend.map (· + 1), ring := p.ring.map (· + 1) } := by
  unfold laterPosition
  cases pressed <;> rfl

theorem laterCall_eq (e : CallEntry) : laterCall e =
    if e.phase = .releasing then e else { e with age := min 3000 (e.age + 1) } := by
  unfold laterCall isLive
  cases e.phase <;> rfl

/-- The Slot Allocator a cycle later (R99, R100). -/
theorem laterAlloc_eq {a b : SlotAllocator} (h : b = laterAlloc a) :
    b = { a with
      plans := b.plans
      calls := a.calls.map fun e =>
        if e.phase = .releasing then e else { e with age := min 3000 (e.age + 1) } } ∧
    ∀ n, b.plans.get n =
      { a.plans.get n with quarantine := (a.plans.get n).quarantine.map (· + 1) } := by
  subst h
  refine ⟨?_, fun n => Tab.get_map _ _ n⟩
  unfold laterAlloc
  rw [List.map_congr_left fun e _ => laterCall_eq e]

theorem exists_mem_of_eq {α : Type} {o o' : Option α} {p : α → Prop} (h : o = o') :
    (∃ x ∈ o, p x) ↔ ∃ x ∈ o', p x := h ▸ Iff.rfl

end Sys2Proof.Machine
end

section
/-! PROOFS. Ring cycles and line ports, part 34: the passing of a period (O60). -/

namespace Sys2Proof.Machine

set_option Elab.async false

/-- Settles O60: the three parts of a period. -/
theorem periodPasses : Obligations.PeriodPasses := by
  refine ⟨fun s hst => ?_, fun s hst => ?_, fun s hst => ?_⟩
  · intro reach brought
    have href := refuseHead_changes (s.withPending [])
    have hc := closePeriod_changes (s.withPending [])
    have hp := closePeriod_prot (s.withPending [])
    have hw : Changes [.pending] s (s.withPending []) := pending_changes s []
    refine ⟨_, (orderRows false s.choices (broughtRows s)).1, tick_inputs hst, ?_, ?_,
      closePeriod_period _, fun h => ?_, fun hm hq => ⟨fun hl ha => ?_, fun hl => ?_⟩, fun h => ?_,
      fun r hr hn => ?_⟩
    · show (refuseHead (s.withPending [])).pending ++ _ = _
      rw [refuseHead_pending]
      exact congrArg (· ++ _) (reachRows_eq (s.withPending []))
    · exact (orderRows_perm false s.choices (broughtRows s)).trans (.of_eq (broughtRows_eq s))
    · rw [hp, countedAge_stands (s := s.withPending []) h]
      rfl
    · rw [hp, countedAge_linked (s := s.withPending []) hm hq hl ha]
      rfl
    · rw [hp, countedAge_detached (s := s.withPending []) hm hq hl]
      rfl
    · rw [refuseHead_readable (s := s.withPending []) h] at hc
      exact (hw.mono (by decide)).trans hc
    · intro code field why u
      have heq := refuseHead_unreadable (s := s.withPending []) hr hn
      have hag : (closePeriod (s.withPending [])).agent = (refuseHead (s.withPending [])).agent :=
        hc .agent (by decide)
      have hsw : (closePeriod (s.withPending [])).sw = (refuseHead (s.withPending [])).sw :=
        hc .sw (by decide)
      have hout : (closePeriod (s.withPending [])).out = (refuseHead (s.withPending [])).out :=
        hc .out (by decide)
      have hu : respond r.head (refusal (unreadableReason (s.withPending []) r.head code))
          (countRequest r.head (s.withPending [])) = u.withPending [] :=
        respond_withPending r.head (refusal why) (countRequest r.head s) []
      rw [hu] at heq
      refine ⟨?_, ?_, ?_, ?_⟩
      · rw [hag, heq]
        rfl
      · rw [hsw, heq]
        rfl
      · rw [hout, heq]
        rfl
      · exact ((hw.mono (by decide)).trans (href.mono (by decide))).trans
          (hc.mono (by decide))
  · intro settled fed empty
    have hw : Changes [.pending] s (s.withPending []) := pending_changes s []
    have hprot := settlePeriod_prot (s.withPending [])
    have hsent := settlePeriod_sent (s.withPending [])
    obtain ⟨hst', hchg, hiso⟩ := settleProtection_counts (s.withPending [])
    have hfed : ∀ p, isFed (s.withPending []) p = fed p := fun p => by cases p <;> rfl
    refine ⟨_, tick_closing hst, settlePeriod_settled _, ?_, ?_, ?_, ?_,
      fun p hp => ?_, fun p h hp hd => ?_, settlePeriod_quiet (s.withPending []),
      settlePeriod_period (s.withPending []),
      (hw.mono (by decide)).trans (settlePeriod_changes _), fun hcs he => ?_⟩
    · rw [settlePeriod_pending]
      exact List.nil_append _
    · rw [hprot]
      exact hst'
    · rw [hprot]
      exact hchg
    · rw [hprot]
      exact hiso
    · rw [hsent, hfed]
      split
      · next hf => exact reflag_none (hp.resolve_left (by rw [hf]; decide))
      · rfl
    · rw [hsent, hfed, if_pos hp]
      exact reflag_some hd
    · have hsame : settleCycle (s.withPending []) = s.withPending [] := settleCycle_settled hcs he
      have hafter := settlePeriod_changes_after (s.withPending [])
      rw [hsame] at hafter
      exact (hw.mono (by decide)).trans hafter
  · intro fed next
    obtain ⟨n, hop⟩ := openPeriod_empty s
    have hfed : ∀ p, isFed (s.withPending []) p = fed p := fun p => by cases p <;> rfl
    have hsent := fedState_sent (s.withPending [])
    refine ⟨_, tick_sending hst, ?_⟩
    rw [hop, opened_eq]
    generalize hw : sentAt (fedState (s.withPending [])) .w = w at *
    generalize he : sentAt (fedState (s.withPending [])) .e = e at *
    refine ⟨fun p => ?_, rfl, fun p => ?_, rfl, rfl, rfl, fun q => ?_, rfl, fun hm => ?_,
      fun hm => ?_, rfl, rfl, rfl, fun k => ?_, rfl, rfl, rfl, rfl, rfl, rfl, rfl, rfl, ?_, fun hm => ?_, fun p => ?_,
      fun q => ?_, ?_, ?_, fun n => ?_, ?_⟩
    · have hp := hsent p
      rw [hfed] at hp
      refine Eq.trans ?_ (hp.trans (if_congr Iff.rfl rfl (unfedCycle_eq p _)))
      cases p
      · exact hw.symm
      · exact he.symm
    · refine Eq.trans ?_ (laterPort_eq s p)
      cases p <;> rfl
    · exact (laterPhone_get s.pins s.phone q).trans (laterPosition_eq _ _ _)
    · exact if_neg (by rw [show (s.withPending []).isMaster = false from hm]; decide)
    · exact laterAlloc_eq (if_pos hm)
    · exact laterPulses_get s.pins s.wx k
    · exact List.prefix_append _ _
    · rw [openedRows_originate]
      exact fun h => Bool.false_ne_true (hm.symm.trans h)
    · exact openedRows_line _ _ _ p
    · obtain ⟨hoff, hon, hpress, hreq, hrel, hring⟩ := openedRows_position (pressing s) s.choices
        (opened (s.withPending [])) q
      rw [opened_eq, hw, he] at hoff hon hpress hreq hrel hring
      exact ⟨hoff, hon, hpress.trans mem_pressing, hreq, hrel, hring⟩
    · exact (openedRows_phone _ _ _).1
    · exact (openedRows_phone _ _ _).2
    · obtain ⟨hcome, hun, hq, hsup⟩ := openedRows_node (pressing s) s.choices
        (opened (s.withPending [])) n
      rw [opened_eq, hw, he] at hcome hun hq
      refine ⟨hcome, hun.trans (and_congr_right fun hm => ?_), hq, ?_⟩
      · have hal : (if s.isMaster then laterAlloc s.alloc else s.alloc) = laterAlloc s.alloc :=
          if_pos hm
        have hin : ((if s.isMaster then laterAlloc s.alloc else s.alloc).plans.get n).inFlight =
            (s.alloc.plans.get n).inFlight := by rw [(laterAlloc_eq hal).2 n]
        exact exists_mem_of_eq hin
      · rw [opened_eq, hw, he] at hsup
        exact hsup
    · have htoll := openedRows_toll (pressing s) s.choices (opened (s.withPending []))
      have hwx := openedRows_weather (pressing s) s.choices (opened (s.withPending []))
      have hsign := openedRows_sign (pressing s) s.choices (opened (s.withPending []))
      rw [opened_eq, hw, he] at htoll hwx hsign
      obtain ⟨hpend, hans, hinfl, hdrain, hsec⟩ := htoll
      obtain ⟨htick, hsample, hpulse⟩ := hwx
      exact ⟨hpend, hans, hinfl, hdrain, hsec, htick, hsample, hpulse, hsign⟩

end Sys2Proof.Machine
end

section
/-! PROOFS. Ring cycles and line ports, part 35: what a detach brings to the positions, the pending
transactions and the journal (O10). -/

namespace Sys2Proof.Machine

set_option Elab.async false

/-! ## Changes of one position -/

theorem modPos_congr {q : Fin 4} {f g : Position → Position} {s : State}
    (h : f (posAt s q) = g (posAt s q)) : modPos q f s = modPos q g s := by
  have ht : s.phone.positions.modify q f = s.phone.positions.modify q g := Tab.ext_get fun k => by
    rw [Tab.get_modify, Tab.get_modify]
    split
    · next hk =>
      subst hk
      exact h
    · rfl
  unfold modPos
  show { s with phone := { s.phone with positions := s.phone.positions.modify q f } } =
    { s with phone := { s.phone with positions := s.phone.positions.modify q g } }
  rw [ht]

theorem modPos_self {q : Fin 4} {f : Position → Position} {s : State}
    (h : f (posAt s q) = posAt s q) : modPos q f s = s := by
  refine (modPos_congr (g := id) h).trans ?_
  unfold modPos
  show { s with phone := { s.phone with positions := s.phone.positions.modify q id } } = s
  rw [tab_modify_id]

theorem modPos_modPos (q : Fin 4) (f g : Position → Position) (s : State) :
    modPos q g (modPos q f s) = modPos q (g ∘ f) s := by
  unfold modPos
  show { s with phone := { s.phone with positions := (s.phone.positions.modify q f).modify q g } } = _
  rw [tab_modify_modify]
  rfl

/-- One change of each position of a list. -/
theorem foldl_modPos (f : Position → Position) {qs : List (Fin 4)} (hnd : qs.Nodup) (s : State) :
    ∃ ps, qs.foldl (fun s q => modPos q f s) s = s.modPhone (fun p => { p with positions := ps }) ∧
      ∀ k, ps.get k = if k ∈ qs then f (posAt s k) else posAt s k := by
  induction qs generalizing s with
  | nil => exact ⟨s.phone.positions, rfl, fun k => by simp [posAt]⟩
  | cons q qs ih =>
    obtain ⟨hq, hnd⟩ := List.nodup_cons.1 hnd
    obtain ⟨ps, hps, hget⟩ := ih hnd (modPos q f s)
    refine ⟨ps, hps, fun k => ?_⟩
    rw [hget, posAt_modPos]
    by_cases hk : q = k
    · subst hk
      rw [if_neg hq, if_pos rfl, if_pos List.mem_cons_self]
    · rw [if_neg hk]
      simp only [List.mem_cons, Ne.symm hk, false_or]

/-! ## The positions in a detach (R80) -/

/-- A position as a detach leaves it. -/
def detachedPosition (p : Position) : Position :=
  match p.call with
  | .requesting => heldPosition p
  | .waiting => heldPosition p
  | .talking => heldPosition p
  | .clearing => if p.debounced = .off then heldPosition (idlePosition p) else idlePosition p
  | _ => p

theorem detachPosition_eq {s : State} (h : reachable s = false) (q : Fin 4) :
    detachPosition hand q s = modPos q detachedPosition s := by
  unfold detachPosition
  split
  · next hc => exact modPos_congr (by rw [detachedPosition, hc])
  · next hc => exact modPos_congr (by rw [detachedPosition, hc])
  · next hc => exact modPos_congr (by rw [detachedPosition, hc])
  · next hc =>
    unfold endClearing offHookIdle
    dsimp only
    rw [show reachable (modPos q idlePosition s) = false from h, if_neg Bool.false_ne_true,
      posAt_modPos, if_pos rfl, show (idlePosition (posAt s q)).debounced = (posAt s q).debounced from rfl]
    split
    · next hd =>
      rw [modPos_modPos]
      exact modPos_congr (by rw [detachedPosition, hc]; exact (if_pos hd).symm)
    · next hd => exact modPos_congr (by rw [detachedPosition, hc]; exact (if_neg hd).symm)
  · next h1 h2 h3 h4 =>
    refine (modPos_self ?_).symm
    unfold detachedPosition
    split
    · next hc => exact absurd hc h1
    · next hc => exact absurd hc h2
    · next hc => exact absurd hc h3
    · next hc => exact absurd hc h4
    · rfl

/-- The Phone Interface after a detach: the banks cleared, each position as a detach leaves it (R80,
R88). -/
theorem phoneDetach_eq {s : State} (h : reachable s = false) :
    ∃ ps, phoneDetach hand s = s.modPhone (fun p => { p with
        active := { p.active with entries := .fill 4 none }, standby := Bank.empty
        pendingAt := none, cleared := true, positions := ps }) ∧
      ∀ q, ps.get q = detachedPosition (posAt s q) := by
  have hfold : ∀ (qs : List (Fin 4)) (u : State), reachable u = false →
      qs.foldl (fun s q => detachPosition hand q s) u =
        qs.foldl (fun s q => modPos q detachedPosition s) u := fun qs => by
    induction qs with
    | nil => exact fun u _ => rfl
    | cons q qs ih =>
      intro u hu
      rw [List.foldl_cons, List.foldl_cons, detachPosition_eq hu]
      exact ih (modPos q detachedPosition u) hu
  obtain ⟨ps, hps, hget⟩ := foldl_modPos detachedPosition (List.nodup_finRange 4) (clearBanks s)
  refine ⟨ps, (hfold (indices 4) (clearBanks s) h).trans hps, fun q => ?_⟩
  rw [hget, if_pos (List.mem_finRange q)]
  rfl

theorem detachedPosition_call (p : Position) : (detachedPosition p).call =
    match p.call with
    | .requesting => .held
    | .waiting => .held
    | .talking => .held
    | .clearing => if p.debounced = .off then .held else .idle
    | c => c := by
  unfold detachedPosition
  cases hc : p.call
  case clearing => exact apply_ite Position.call _ _ _
  all_goals simp only [hc]
  all_goals rfl

/-! ## The pending transactions in a detach (R107, R122, R128, R136) -/

theorem take_append_of_take {α : Type} (k : Nat) (xs ys : List α) :
    (xs.take k ++ ys).take k = (xs ++ ys).take k := by
  rcases Nat.le_total xs.length k with h | h
  · rw [List.take_of_length_le h]
  · rw [List.take_append_of_le_length (by simpa using h), List.take_take, Nat.min_self,
      List.take_append_of_le_length h]

/-- A list that holds at most `n`, and one more while it has room. -/
def joined {α : Type} (n : Nat) (xs : List α) (a : α) : List α :=
  if n ≤ xs.length then xs else xs ++ [a]

theorem joined_eq {α : Type} {n : Nat} {xs : List α} (h : xs.length ≤ n) (a : α) :
    joined n xs a = (xs ++ [a]).take n := by
  unfold joined
  split
  · next hn => rw [List.take_append_of_le_length hn, List.take_of_length_le h]
  · exact (List.take_of_length_le (by simp; omega)).symm

theorem joined_length {α : Type} {n : Nat} {xs : List α} (h : xs.length ≤ n) (a : α) :
    (joined n xs a).length ≤ n := by
  rw [joined_eq h]
  exact List.length_take_le _ _

/-- Several more: those that find room, and the count of those that do not. -/
theorem foldl_joined {α : Type} {n : Nat} (as : List α) {xs : List α} (h : xs.length ≤ n) :
    as.foldl (joined n) xs = (xs ++ as).take n := by
  induction as generalizing xs with
  | nil => rw [List.append_nil, List.take_of_length_le h]; rfl
  | cons a as ih =>
    rw [List.foldl_cons, ih (joined_length h a), joined_eq h, take_append_of_take,
      List.append_assoc]
    rfl

/-- The count of those lost, one at a time. -/
theorem lost_joined {α : Type} {n k : Nat} {xs : List α} (h : xs.length ≤ n) (a : α) (c : Nat) :
    bumps ((joined n xs a).length + k - n) (if n ≤ xs.length then bump c else c) =
      bumps (xs.length + (k + 1) - n) c := by
  unfold joined
  split
  · next hn => rw [show xs.length + (k + 1) - n = xs.length + k - n + 1 by omega, bumps_succ]
  · rw [List.length_append, List.length_singleton, show xs.length + 1 + k = xs.length + (k + 1) by
      omega]

/-- The answer of a pending transaction that a detach ends, and its record. -/
def detachAnswer (t : TollRelay) (p : PendingToll) : TollAnswer :=
  localAnswer p.key (localVerdict t p.block)

def detachRecord (t : TollRelay) (j : TollJournal) (p : PendingToll) : JournalRecord :=
  { key := p.key, block := p.block, verdict := localVerdict t p.block, journalledAt := j.seconds
    offers := 0, inFlight := none }

/-- One pending transaction ended by a detach. -/
def detachToll (s : State) (p : PendingToll) : State :=
  (endPending p s).modToll fun t => { t with detachAnswers := bump t.detachAnswers }

theorem detachToll_toll (s : State) (p : PendingToll) : (detachToll s p).toll =
    { s.toll with
      pendingTable := s.toll.pendingTable.filter fun x => x.key != p.key
      answers := joined 32 s.toll.answers (detachAnswer s.toll p)
      answersDropped := if 32 ≤ s.toll.answers.length then bump s.toll.answersDropped
        else s.toll.answersDropped
      localAnswers := bump s.toll.localAnswers
      detachAnswers := bump s.toll.detachAnswers } := by
  unfold detachToll endPending answerLocally answerGantry joined
  by_cases h : 32 ≤ s.toll.answers.length
  · have hd : 32 ≤ (dropPending p.key s).toll.answers.length := h
    simp only [State.modToll, journalTake, State.modJournal, if_pos h, if_pos hd]
    rfl
  · have hd : ¬ 32 ≤ (dropPending p.key s).toll.answers.length := h
    simp only [State.modToll, journalTake, State.modJournal, if_neg h, if_neg hd]
    rfl

theorem detachToll_journal (s : State) (p : PendingToll) : (detachToll s p).journal =
    { s.journal with
      records := joined 512 s.journal.records (detachRecord s.toll s.journal p)
      journalLost := if 512 ≤ s.journal.records.length then bump s.journal.journalLost
        else s.journal.journalLost } := by
  unfold detachToll endPending answerLocally journalTake joined
  show (if 512 ≤ s.journal.records.length then _ else _ : TollJournal) = _
  split <;> rfl

/-- What a run of pending transactions, ended by a detach, leaves. -/
structure TollsEnded (ps : List PendingToll) (s t : State) : Prop where
  table    : ∀ x ∈ t.toll.pendingTable, x ∈ s.toll.pendingTable ∧ ∀ p ∈ ps, x.key ≠ p.key
  counts   : t.toll.detachAnswers = bumps ps.length s.toll.detachAnswers ∧
    t.toll.localAnswers = bumps ps.length s.toll.localAnswers
  tables   : t.toll.deny = s.toll.deny ∧ t.toll.classes = s.toll.classes
  answers  : s.toll.answers.length ≤ 32 →
    t.toll.answers = (s.toll.answers ++ ps.map (detachAnswer s.toll)).take 32 ∧
    t.toll.answersDropped = bumps (s.toll.answers.length + ps.length - 32) s.toll.answersDropped
  records  : s.journal.records.length ≤ 512 →
    t.journal.records =
      (s.journal.records ++ ps.map (detachRecord s.toll s.journal)).take 512 ∧
    t.journal.journalLost = bumps (s.journal.records.length + ps.length - 512) s.journal.journalLost
  seconds  : t.journal.seconds = s.journal.seconds

theorem localVerdict_congr {t t' : TollRelay} (hd : t'.deny = t.deny) (hc : t'.classes = t.classes)
    (block : Octets) : localVerdict t' block = localVerdict t block := by
  unfold localVerdict
  rw [hd, hc]

theorem detachTolls_ended (ps : List PendingToll) (s : State) :
    TollsEnded ps s (ps.foldl detachToll s) := by
  induction ps generalizing s with
  | nil =>
    refine ⟨fun x hx => ⟨hx, fun p hp => by cases hp⟩, ⟨rfl, rfl⟩, ⟨rfl, rfl⟩, fun h => ⟨?_, ?_⟩,
      fun h => ⟨?_, ?_⟩, rfl⟩
    · rw [List.map_nil, List.append_nil, List.take_of_length_le h]
      rfl
    · rw [show s.toll.answers.length + ([] : List PendingToll).length - 32 = 0 by
        rw [List.length_nil]; omega]
      rfl
    · rw [List.map_nil, List.append_nil, List.take_of_length_le h]
      rfl
    · rw [show s.journal.records.length + ([] : List PendingToll).length - 512 = 0 by
        rw [List.length_nil]; omega]
      rfl
  | cons p ps ih =>
    have h := ih (detachToll s p)
    have ht := detachToll_toll s p
    have hj := detachToll_journal s p
    rw [List.foldl_cons]
    generalize detachToll s p = u at *
    have hdeny : u.toll.deny = s.toll.deny := by rw [ht]
    have hclass : u.toll.classes = s.toll.classes := by rw [ht]
    have hsec : u.journal.seconds = s.journal.seconds := by rw [hj]
    have hans : ps.map (detachAnswer u.toll) = ps.map (detachAnswer s.toll) :=
      List.map_congr_left fun x _ => by
        rw [detachAnswer, detachAnswer, localVerdict_congr hdeny hclass]
    have hrec : ps.map (detachRecord u.toll u.journal) = ps.map (detachRecord s.toll s.journal) :=
      List.map_congr_left fun x _ => by
        rw [detachRecord, detachRecord, localVerdict_congr hdeny hclass, hsec]
    refine ⟨fun x hx => ?_, ?_, ⟨h.tables.1.trans hdeny, h.tables.2.trans hclass⟩, fun h32 => ?_,
      fun h512 => ?_, h.seconds.trans hsec⟩
    · obtain ⟨hxu, hne⟩ := h.table x hx
      rw [ht] at hxu
      obtain ⟨hxs, hk⟩ := List.mem_filter.1 hxu
      refine ⟨hxs, fun y hy => ?_⟩
      rcases List.mem_cons.1 hy with rfl | hy
      · simpa using hk
      · exact hne y hy
    · rw [h.counts.1, h.counts.2, ht]
      exact ⟨rfl, rfl⟩
    · have hu : u.toll.answers = joined 32 s.toll.answers (detachAnswer s.toll p) := by rw [ht]
      have hdrop : u.toll.answersDropped = if 32 ≤ s.toll.answers.length then
          bump s.toll.answersDropped else s.toll.answersDropped := by rw [ht]
      obtain ⟨ha, hl⟩ := h.answers (by rw [hu]; exact joined_length h32 _)
      rw [ha, hl, hans, hu, hdrop, lost_joined h32, joined_eq h32, take_append_of_take,
        List.append_assoc]
      exact ⟨rfl, rfl⟩
    · have hu : u.journal.records = joined 512 s.journal.records (detachRecord s.toll s.journal p) := by
        rw [hj]
      have hdrop : u.journal.journalLost = if 512 ≤ s.journal.records.length then
          bump s.journal.journalLost else s.journal.journalLost := by rw [hj]
      obtain ⟨ha, hl⟩ := h.records (by rw [hu]; exact joined_length h512 _)
      rw [ha, hl, hrec, hu, hdrop, lost_joined h512, joined_eq h512, take_append_of_take,
        List.append_assoc]
      exact ⟨rfl, rfl⟩

/-- All the pending transactions are ended. -/
theorem tollDetach_ended (s : State) : TollsEnded s.toll.pendingTable s (tollDetach s) ∧
    (tollDetach s).toll.pendingTable = [] := by
  have h : TollsEnded s.toll.pendingTable s (tollDetach s) := detachTolls_ended _ s
  refine ⟨h, List.eq_nil_iff_forall_not_mem.2 fun x hx => ?_⟩
  obtain ⟨hm, hne⟩ := h.table x hx
  exact hne x hm rfl

end Sys2Proof.Machine
end

section
/-! PROOFS. Ring cycles and line ports, part 36: the centre lost (O10): the rows that bring it about and
the end of a cycle that hands a detach. -/

namespace Sys2Proof.Machine

set_option Elab.async false

/-! ## The rows (R16, R20) -/

theorem updateReach_aged {s : State} (hm : s.isMaster = false) :
    (updateReach (setAge 16 s)).prot = { s.prot with age := 16, linked := false } := by
  simp [updateReach, setAge, shouldBeLinked, State.modProt, hm]

theorem recirculation_detaches {s : State} (hm : s.isMaster = false) (hr : 256 ≤ s.timer.repeatRun)
    (hn : s.timer.recirculating = false) :
    ∃ t, exec .recirculation s = .next t ∧ t.prot = { s.prot with age := 16, linked := false } ∧
      t.timer = { s.timer with
        recirculating := true, recirculations := bump s.timer.recirculations } ∧
      Changes [.timer, .prot] s t := by
  have hdue : recirculationDue s = true := by simp [recirculationDue, hm, hr, hn]
  refine ⟨_, whenever_pos hdue, updateReach_aged (s := s.modTimer fun t =>
    { t with recirculating := true, recirculations := bump t.recirculations }) hm, rfl, ?_⟩
  exact ((modTimer_changes _ s).mono (by decide)).trans
    (((modProt_changes _ _).mono (by decide)).trans ((updateReach_changes _).mono (by decide)))

theorem centreHeaderAge_detaches {s : State} (hm : s.isMaster = false) (hl : s.prot.linked = true)
    (ha : 15 ≤ s.prot.age) :
    ∃ t, exec .centreHeaderAgeExpiry s = .next t ∧
      t.prot = { s.prot with age := 16, linked := false } ∧ Changes [.prot] s t := by
  refine ⟨updateReach (setAge 16 s), ?_, updateReach_aged hm,
    (modProt_changes _ _).trans (updateReach_changes _)⟩
  show execCentreHeaderAgeExpiry s = _
  unfold execCentreHeaderAgeExpiry
  exact whenever_pos (by simp [hm, hl, ha])

/-! ## A cycle whose protection state stands -/

/-- The discards of a node that stays in ISOLATED, and nothing else (R32). -/
theorem settleProtection_stands {s : State}
    (h : s.prot.state = protectionOf s.line.w.health s.line.e.health) :
    Changes [.sw] s (settleProtection s) ∧ (isIsolated s = false → settleProtection s = s) := by
  unfold settleProtection
  dsimp only
  rw [if_pos h.symm]
  refine ⟨.ite (modSw_changes _ s) (.refl _ s), fun hi => if_neg fun hn => ?_⟩
  rw [isIsolated, h, hn] at hi
  cases hi

theorem settlePeriod_uplink (s : State) :
    (settlePeriod s).out.uplink = (settleCycle s).out.uplink := by
  have hr : ∀ (p : Port) (v : State), (reflagPort p v).out.uplink = v.out.uplink := fun p v => by
    unfold reflagPort
    exact ite_of (g := fun v : State => v.out.uplink) (transmit_out p _ v).2.1 rfl
  have hq : ∀ v : State, (quiet v).out.uplink = v.out.uplink := fun v => by
    unfold quiet
    exact ite_of (g := fun v : State => v.out.uplink) rfl rfl
  rw [settlePeriod_eq]
  generalize settleCycle s = u
  exact (hq _).trans ((hr .e _).trans (hr .w u))

/-! ## The detach, handed (R22, R80, R88, R107, R122, R128, R136) -/

/-- What a detach leaves. -/
structure Detached (s t : State) : Prop where
  tolls    : ∃ u, TollsEnded s.toll.pendingTable s u ∧ u.toll.pendingTable = [] ∧
    t.toll = u.toll ∧
    t.journal = { u.journal with records := u.journal.records.map backToWaiting }
  phone    : ∃ ps, t.phone = { s.phone with
      active := { s.phone.active with entries := .fill 4 none }, standby := Bank.empty
      pendingAt := none, cleared := true, positions := ps } ∧
    ∀ q, ps.get q = detachedPosition (posAt s q)
  flag     : t.cond.copy.get condDetached = true
  prot     : t.prot = { s.prot with handed := false }

theorem TollsEnded.congr {ps : List PendingToll} {s s' t : State} (h : TollsEnded ps s t)
    (ht : s'.toll = s.toll) (hj : s'.journal = s.journal) : TollsEnded ps s' t := by
  obtain ⟨h1, h2, h3, h4, h5, h6⟩ := h
  exact ⟨by rw [ht]; exact h1, by rw [ht]; exact h2, by rw [ht]; exact h3, by rw [ht]; exact h4,
    by rw [ht, hj]; exact h5, by rw [hj]; exact h6⟩

theorem Detached.of_eq {s t u : State} (h : Detached s t) (ht : u.toll = t.toll)
    (hj : u.journal = t.journal) (hp : u.phone = t.phone) (hq : u.prot = t.prot)
    (hf : u.cond.copy.get condDetached = true) : Detached s u := by
  obtain ⟨⟨v, hv, hnone, htoll, hjournal⟩, hphone, -, hprot⟩ := h
  exact ⟨⟨v, hv, hnone, ht.trans htoll, hj.trans hjournal⟩, hp ▸ hphone, hf, hq.trans hprot⟩

theorem Detached.congr {s s' t : State} (h : Detached s t) (ht : s'.toll = s.toll)
    (hj : s'.journal = s.journal) (hp : s'.phone = s.phone) (hq : s'.prot = s.prot) :
    Detached s' t := by
  obtain ⟨⟨v, hv, hnone, htoll, hjournal⟩, ⟨ps, hphone, hps⟩, hflag, hprot⟩ := h
  refine ⟨⟨v, ht ▸ hv.congr ht hj, hnone, htoll, hjournal⟩, ⟨ps,
    by rw [hp]; exact hphone, fun q => ?_⟩,
    hflag, by rw [hq]; exact hprot⟩
  rw [hps, posAt, posAt, hp]

theorem detach_detached (s : State) : Detached s (detach s) := by
  have hr : reachable (setHanded false s) = false := Bool.and_false _
  have hprot := detach_prot s
  have hflag : (detach s).cond.copy.get condDetached = true := by
    rw [detach_eq, changeCondition_copy, Tab.get_set, if_pos rfl]
  rw [detach_eq] at hprot hflag ⊢
  obtain ⟨ps, hphone, hps⟩ := phoneDetach_eq hr
  have hp := phoneDetach_changes_unreachable hr
  generalize phoneDetach hand (setHanded false s) = u at *
  obtain ⟨hended, hnone⟩ := tollDetach_ended u
  have hu := tollDetach_changes_quiet u
  generalize tollDetach u = w at *
  have hutoll : u.toll = s.toll := hp .toll (by decide)
  have hwaits : Changes [.journal] w (journalAllWaiting w) := modJournal_changes _ w
  have hc := changeCondition_changes true condDetached true (journalAllWaiting w)
  refine ⟨⟨w, ?_, hnone, (hc .toll (by decide)).trans (hwaits .toll (by decide)),
      hc .journal (by decide)⟩, ⟨ps, ?_, hps⟩, hflag, hprot⟩
  · rw [← hutoll]
    exact hended.congr hutoll.symm (hp .journal (by decide)).symm
  · rw [show (changeCondition true condDetached true (journalAllWaiting w)).phone = u.phone from
      (hc .phone (by decide)).trans ((hwaits .phone (by decide)).trans (hu .phone (by decide))), hphone]
    rfl

/-- The conditions of protection and journal leave condition 48 as it is. -/
theorem conditions_flag {c : Fin 64}
    (hc : c ∉ [condWrapped, condIsolated, condJournalNonempty, condJournalFull]) (s : State) :
    (journalConditions (protectionConditions s)).cond.copy.get c = s.cond.copy.get c := by
  simp only [List.mem_cons, List.not_mem_nil, or_false, not_or] at hc
  obtain ⟨hw, hi, hn, hf⟩ := hc
  rw [journalConditions_copy, Tab.get_set, if_neg (Ne.symm hf), Tab.get_set, if_neg (Ne.symm hn),
    protectionConditions_copy]
  split <;> simp only [Tab.get_set, if_neg (Ne.symm hw), if_neg (Ne.symm hi)]

/-- The end of a cycle that hands a detach. -/
theorem settleCycle_detached {s : State}
    (hsettled : s.prot.state = protectionOf s.line.w.health s.line.e.health)
    (hh : s.prot.handed = true) (hl : s.prot.linked = false) :
    Detached s (settleCycle s) ∧ (isIsolated s = false → (settleCycle s).sw = s.sw) ∧
      Changes [.prot, .sw, .phone, .toll, .journal, .cond, .sign] s (settleCycle s) := by
  obtain ⟨hchanges, hstands⟩ := settleProtection_stands hsettled
  unfold settleCycle
  generalize settleProtection s = v at *
  have hvp : v.prot = s.prot := hchanges .prot (by decide)
  have hand : handReach v = detach v := by
    unfold handReach
    rw [hvp, hh, hl, if_neg Bool.false_ne_true, if_neg Bool.false_ne_true]
  have hd := detach_detached v
  have hquiet := detach_changes_quiet v
  rw [hand]
  generalize detach v = w at *
  have hw : reachable w = false := by
    rw [reachable, hd.prot]
    exact Bool.and_false _
  have hcond : Changes [.cond, .sign] w (journalConditions (protectionConditions w)) := by
    have hp : Changes [.cond, .sign] w (protectionConditions w) :=
      foldl_changeCondition_unreachable hw (fun _ => true) _
    refine hp.trans (foldl_changeCondition_unreachable ?_
      (fun c => !(c.2 && (protectionConditions w).period.raised.contains c.1)) _)
    exact (reachable_congr (hp .prot (by decide))).trans hw
  have hflag := conditions_flag (c := condDetached) (by decide) w
  generalize journalConditions (protectionConditions w) = t at *
  refine ⟨(hd.of_eq (hcond .toll (by decide)) (hcond .journal (by decide))
      (hcond .phone (by decide)) (hcond .prot (by decide)) (hflag.trans hd.flag)).congr
      (hchanges .toll (by decide)).symm (hchanges .journal (by decide)).symm
      (hchanges .phone (by decide)).symm hvp.symm, fun hi => ?_,
    (hchanges.mono (by decide)).trans ((hquiet.mono (by decide)).trans (hcond.mono (by decide)))⟩
  exact (hcond .sw (by decide)).trans ((hquiet .sw (by decide)).trans (by rw [hstands hi]))

theorem detachAnswers_eq (t : TollRelay) (ps : List PendingToll) : ps.map (detachAnswer t) =
    ps.map fun p => TollAnswer.mk p.key (localVerdict t p.block) false 0 := rfl

/-- The records after a detach: none is in flight. -/
theorem detachRecords_eq (t : TollRelay) (j : TollJournal) (ps : List PendingToll) :
    ((j.records ++ ps.map (detachRecord t j)).take 512).map backToWaiting =
      ((j.records.map fun (r : JournalRecord) => { r with inFlight := none }) ++
        ps.map fun (p : PendingToll) =>
          JournalRecord.mk p.key p.block (localVerdict t p.block) j.seconds 0 none).take 512 := by
  rw [List.map_take, List.map_append, List.map_map]
  rfl

theorem detach_handed {s : State} (hstage : s.period.stage = .closing)
    (hsettled : s.prot.state = protectionOf s.line.w.health s.line.e.health)
    (hh : s.prot.handed = true) (hl : s.prot.linked = false) :
    ∃ t, step (s.withPending []) = .next t ∧ Detached s t ∧
      (isIsolated s = false → t.sw = s.sw) ∧ t.out.uplink = s.out.uplink ∧
      Changes [.prot, .sw, .phone, .toll, .journal, .cond, .sign, .lanes, .out, .period, .pending]
        s t := by
  have hpending : Changes [.pending] s (s.withPending []) := pending_changes s []
  have h := settleCycle_detached (s := s.withPending []) hsettled hh hl
  have hafter := settlePeriod_changes_after (s.withPending [])
  have huplink := settlePeriod_uplink (s.withPending [])
  refine ⟨settlePeriod (s.withPending []), tick_closing hstage, ?_⟩
  generalize settlePeriod (s.withPending []) = t at *
  generalize settleCycle (s.withPending []) = u at *
  obtain ⟨hd, hsw, hchanges⟩ := h
  refine ⟨?_, fun hi => (hafter .sw (by decide)).trans (hsw hi), ?_, ?_⟩
  · have hcond : t.cond = u.cond := hafter .cond (by decide)
    exact (hd.of_eq (hafter .toll (by decide)) (hafter .journal (by decide))
      (hafter .phone (by decide)) (hafter .prot (by decide)) (by rw [hcond]; exact hd.flag)).congr
        rfl rfl rfl rfl
  · rw [huplink, show u.out = s.out from hchanges .out (by decide)]
  · exact (hpending.mono (by decide)).trans ((hchanges.mono (by decide)).trans (hafter.mono (by decide)))

end Sys2Proof.Machine
end

section
/-! PROOFS. Ring cycles and line ports, part 37: the alarm reports that a relink brings (O10). -/

namespace Sys2Proof.Machine

set_option Elab.async false

/-! ## Reports offered (R168, R169) -/

/-- A node whose frames for the centre can be offered: it has its address, and a slave is outside
ISOLATED. -/
def CanReport (s : State) : Prop :=
  s.agent.address.isSome = true ∧ (s.isMaster = true ∨ isIsolated s = false)

theorem canReport_congr {s t : State} {qs : List Part} (h : Changes qs s t)
    (hq : ∀ p ∈ [Part.agent, .isMaster, .prot, .line], p ∉ qs) (hs : CanReport s) : CanReport t := by
  obtain ⟨ha, hm⟩ := hs
  refine ⟨by rw [show t.agent = s.agent from h .agent (hq _ (by decide))]; exact ha, hm.imp ?_ ?_⟩
  · exact fun hm => (show t.isMaster = s.isMaster from h .isMaster (hq _ (by decide))).trans hm
  · intro hi
    rw [isIsolated, show t.prot = s.prot from h .prot (hq _ (by decide)),
      show t.line = s.line from h .line (hq _ (by decide))]
    exact hi

/-- The channel and the payload of the report of some events. -/
def reportOf (es : List PendingEvent) : Octet × Octets :=
  (octet (es.length - 62), (es.take 62).flatMap encodeEvent)

/-- A run of reports has been offered and counted, and nothing else of the switch or the uplink
moved. -/
structure Reported (rs : List (List PendingEvent)) (s t : State) : Prop where
  count   : t.cond.alarmReports = bumps rs.length s.cond.alarmReports
  frames  : s.isMaster = true ∨ s.sw.alarm.length + rs.length ≤ 4 → ∃ fs : List Frame,
    (if s.isMaster then t.out.uplink = s.out.uplink ++ fs.map encodeFrame
     else t.sw.alarm = s.sw.alarm ++ fs ∧ t.out.uplink = s.out.uplink) ∧
    (∀ f ∈ fs, OwnFrame s 0 svcAlarm f.channel f.payload f) ∧
    fs.map (fun f => (f.channel, f.payload)) = rs.map reportOf
  master  : s.isMaster = true → t.sw = s.sw
  vsig    : t.sw.vsig = s.sw.vsig
  changes : Changes condParts s t

theorem Reported.refl (s : State) : Reported [] s s := by
  refine ⟨rfl, fun _ => ⟨[], ?_, nofun, rfl⟩, fun _ => rfl, rfl, .refl _ s⟩
  split
  · exact (List.append_nil _).symm
  · exact ⟨(List.append_nil _).symm, rfl⟩

theorem Reported.trans {rs rs' : List (List PendingEvent)} {s t u : State} (h : Reported rs s t)
    (h' : Reported rs' t u) : Reported (rs ++ rs') s u := by
  have hm : t.isMaster = s.isMaster := h.changes .isMaster (by decide)
  have ha : t.agent = s.agent := h.changes .agent (by decide)
  refine ⟨?_, fun hroom => ?_, fun hs => (h'.master (hm.trans hs)).trans (h.master hs),
    h'.vsig.trans h.vsig, h.changes.trans h'.changes⟩
  · rw [h'.count, h.count, List.length_append, bumps_add]
  · rw [List.length_append] at hroom
    obtain ⟨fs, hfs, hown, hmap⟩ := h.frames (hroom.imp id fun _ => by omega)
    have hlen : fs.length = rs.length := by simpa using congrArg List.length hmap
    have hroom' : t.isMaster = true ∨ t.sw.alarm.length + rs'.length ≤ 4 := by
      by_cases hs : s.isMaster = true
      · exact .inl (hm.trans hs)
      · rw [if_neg hs] at hfs
        rw [hfs.1, List.length_append]
        exact .inr (by have := hroom.resolve_left hs; omega)
    obtain ⟨fs', hfs', hown', hmap'⟩ := h'.frames hroom'
    refine ⟨fs ++ fs', ?_, fun f hf => ?_, by rw [List.map_append, List.map_append, hmap, hmap']⟩
    · rw [hm] at hfs'
      split at hfs'
      · next hs =>
        rw [if_pos hs] at hfs ⊢
        rw [hfs', hfs, List.map_append, List.append_assoc]
      · next hs =>
        rw [if_neg hs] at hfs ⊢
        rw [hfs'.1, hfs'.2, hfs.1, hfs.2, List.append_assoc]
        exact ⟨rfl, rfl⟩
    · rcases List.mem_append.1 hf with hf | hf
      · exact hown f hf
      · have hf := hown' f hf
        unfold OwnFrame at hf ⊢
        rwa [ha] at hf

/-- The events, the copy and the Sign Controller may move before the reports and after them. -/
theorem Reported.congr {rs : List (List PendingEvent)} {s s' t t' : State} (h : Reported rs s' t)
    (hs : Changes [.cond] s s') (hc : s'.cond.alarmReports = s.cond.alarmReports)
    (ht : Changes [.cond, .sign] t t') (hc' : t'.cond.alarmReports = t.cond.alarmReports) :
    Reported rs s t' := by
  have hsw : t'.sw = t.sw := ht .sw (by decide)
  have hout : t'.out = t.out := ht .out (by decide)
  have hsw' : s'.sw = s.sw := hs .sw (by decide)
  have hout' : s'.out = s.out := hs .out (by decide)
  have hm' : s'.isMaster = s.isMaster := hs .isMaster (by decide)
  have ha' : s'.agent = s.agent := hs .agent (by decide)
  obtain ⟨hcount, hframes, hmaster, hvsig, hchanges⟩ := h
  unfold OwnFrame at hframes
  rw [hsw', hout', hm', ha'] at hframes
  rw [hm', hsw'] at hmaster
  refine ⟨by rw [hc', hcount, hc], fun hroom => ?_, fun hm => hsw.trans (hmaster hm),
    by rw [hsw, hvsig, hsw'], (hs.mono (by decide)).trans (hchanges.trans (ht.mono (by decide)))⟩
  rw [hsw, hout]
  exact hframes hroom

/-- A frame of the node for the centre: the frame that leaves. -/
theorem completeFrame_own {s : State} (ha : s.agent.address.isSome = true) (dest service channel : Octet)
    (tag : Half) (payload : Octets) : OwnFrame s dest service channel payload
      (completeFrame s dest service channel (frameFlags false false) tag payload) := by
  refine ⟨rfl, ?_, rfl, rfl, rfl, rfl, rfl, rfl⟩
  obtain ⟨a, ha⟩ := Option.isSome_iff_exists.1 ha
  rw [completeFrame, ownSource, ha]
  rfl

theorem queueFrames_offerFrame_ne {q r : QueueName} (hne : q ≠ r) (assigned isolated ofCentre : Bool)
    (c : Half) (f : Frame) (sw : FrameSwitch) :
    queueFrames (offerFrame assigned isolated ofCentre c q f sw).1 r = queueFrames sw r := by
  have hfull : queueFrames (offerFull c q f sw).1 r = queueFrames sw r := by
    unfold offerFull
    cases q <;>
      simp only [queueFrames_setQueue, queueFrames_discardAll, queueFrames_discardFrame, if_neg hne]
  unfold offerFrame
  split
  · exact queueFrames_discardFrame ..
  split
  · exact queueFrames_discardFrame ..
  split
  · exact queueFrames_discardFrame ..
  split
  · split
    · exact queueFrames_discardFrame ..
    · exact hfull
  · exact (queueFrames_setQueue ..).trans (if_neg hne)

theorem sendToCentre_reported {s : State} (hs : CanReport s) (es : List PendingEvent) :
    Reported [es] s ((sendToCentre .alarm svcAlarm (reportOf es).1 (reportOf es).2 s).1.modCond
      fun u => { u with alarmReports := bump u.alarmReports }) := by
  obtain ⟨ha, hi⟩ := hs
  have hsend := sendToCentre_changes .alarm svcAlarm (reportOf es).1 (reportOf es).2 s
  have hchanges : Changes condParts s _ := (hsend.mono (by decide)).trans
    ((modCond_changes (fun u => { u with alarmReports := bump u.alarmReports }) _).mono (by decide))
  have hown := completeFrame_own ha 0 svcAlarm (reportOf es).1 (openTag s) (reportOf es).2
  have hcount : ((sendToCentre .alarm svcAlarm (reportOf es).1 (reportOf es).2 s).1.modCond
      fun u => { u with alarmReports := bump u.alarmReports }).cond.alarmReports =
      bump s.cond.alarmReports := by
    show bump (sendToCentre .alarm svcAlarm (reportOf es).1 (reportOf es).2 s).1.cond.alarmReports = _
    rw [show (sendToCentre .alarm svcAlarm (reportOf es).1 (reportOf es).2 s).1.cond = s.cond from
      hsend .cond (by decide)]
  by_cases hm : s.isMaster = true
  · have hsent : (sendToCentre .alarm svcAlarm (reportOf es).1 (reportOf es).2 s).1 =
        sendUplink (completeFrame s 0 svcAlarm (reportOf es).1 (frameFlags false false) (openTag s)
          (reportOf es).2) s.spendOpen := by
      unfold sendToCentre
      dsimp only
      rw [if_pos (show s.spendOpen.isMaster = true from hm)]
    rw [hsent] at hcount hchanges ⊢
    refine ⟨hcount, fun _ => ⟨[completeFrame s 0 svcAlarm (reportOf es).1 (frameFlags false false)
      (openTag s) (reportOf es).2], ?_, fun f hf => ?_, rfl⟩, fun _ => rfl, rfl, hchanges⟩
    · rw [if_pos hm]
      rfl
    · rw [List.mem_singleton.1 hf]
      exact hown
  · have hsent : (sendToCentre .alarm svcAlarm (reportOf es).1 (reportOf es).2 s).1 =
        (offerOwn .alarm (completeFrame s 0 svcAlarm (reportOf es).1 (frameFlags false false) (openTag s)
          (reportOf es).2) s.spendOpen).1 := by
      unfold sendToCentre
      dsimp only
      rw [if_neg (show ¬ s.spendOpen.isMaster = true from hm)]
    rw [hsent] at hcount hchanges ⊢
    refine ⟨hcount, fun hroom => ⟨[completeFrame s 0 svcAlarm (reportOf es).1
      (frameFlags false false) (openTag s) (reportOf es).2], ?_, fun f hf => ?_, rfl⟩,
      fun h => absurd h hm, ?_, hchanges⟩
    · rw [if_neg hm, offerOwn_queued (q := .alarm) (s := s.spendOpen) ha (hi.resolve_left hm) nofun
        (show s.sw.alarm.length < 4 by have := hroom.resolve_left hm; simpa using this)]
      exact ⟨rfl, rfl⟩
    · rw [List.mem_singleton.1 hf]
      exact hown
    · exact queueFrames_offerFrame_ne (by decide : QueueName.alarm ≠ .vsig) _ _ _ _ _ _

/-! ## The relink report and the fall of condition 48 (R171) -/

/-- The reports of a trigger. -/
def triggered (mask : Nat) (es : List PendingEvent) : List (List PendingEvent) :=
  if es.filter (reportable mask) = [] then [] else [es.filter (reportable mask)]

theorem reportTrigger_reported {s : State} (hs : CanReport s) (hr : reachable s = true) :
    Reported (triggered s.cond.mask s.cond.events) s (reportTrigger s) ∧
      ∃ n, (reportTrigger s).cond = { s.cond with alarmReports := n } := by
  unfold reportTrigger triggered offerReport
  rw [if_pos hr]
  dsimp only
  change Reported (if reportableEvents s = [] then [] else [reportableEvents s]) s _ ∧ _
  split
  · exact ⟨.refl s, s.cond.alarmReports, rfl⟩
  · refine ⟨sendToCentre_reported hs _, bump s.cond.alarmReports, ?_⟩
    have hc : (sendToCentre .alarm svcAlarm (octet ((reportableEvents s).length - 62))
        (((reportableEvents s).take 62).flatMap encodeEvent) s).1.cond = s.cond :=
      sendToCentre_changes _ _ _ _ s .cond (by decide)
    unfold State.modCond
    rw [hc]

/-- The event of a falling edge. -/
def fallenEvent (s : State) (c : Fin 64) : PendingEvent :=
  { condition := c, rise := false, level := (s.cond.table.get c).level, stamp := s.journal.seconds
    repeats := 1 }

/-- The pending events after a falling edge that is an event. -/
def fallEvents (s : State) (c : Fin 64) : List PendingEvent :=
  if s.cond.events.any (isPair c false) then s.cond.events.map (repeatEvent c false)
  else s.cond.events ++ [fallenEvent s c]

/-- The reports of a falling edge. -/
def fallReports (s : State) (c : Fin 64) : List (List PendingEvent) :=
  if s.cond.events.any (isPair c false) = false ∧ reportable s.cond.mask (fallenEvent s c) = true then
    [(s.cond.events ++ [fallenEvent s c]).filter (reportable s.cond.mask)]
  else []

/-- The state with the event of a falling edge. -/
def withFallen (c : Fin 64) (s : State) : State := s.modCond fun u =>
  { u with events := u.events ++ [fallenEvent s c], eventsMade := bump u.eventsMade }

theorem judgeEdge_made {s : State} {c : Fin 64} (he : isEvent (s.cond.table.get c) false = true)
    (hk : ¬ s.cond.events.any (isPair c false) = true) : judgeEdge c false s =
      if reportable s.cond.mask (fallenEvent s c) then reportTrigger (withFallen c s)
      else withFallen c s := by
  unfold judgeEdge
  dsimp only
  rw [he, if_neg (show ¬ (!true) = true by decide), if_neg hk]
  rfl

theorem judgeEdge_repeats {s : State} {c : Fin 64} (he : isEvent (s.cond.table.get c) false = true)
    (hk : s.cond.events.any (isPair c false) = true) : judgeEdge c false s = s.modCond fun u =>
      { u with events := u.events.map (repeatEvent c false), eventRepeats := bump u.eventRepeats } := by
  unfold judgeEdge
  dsimp only
  rw [he, if_neg (show ¬ (!true) = true by decide), if_pos hk]

theorem judgeEdge_fall {s : State} {c : Fin 64} (hs : CanReport s) (hr : reachable s = true)
    (he : isEvent (s.cond.table.get c) false = true) :
    Reported (fallReports s c) s (judgeEdge c false s) ∧
      (judgeEdge c false s).cond.events = fallEvents s c := by
  unfold fallReports fallEvents
  by_cases hk : s.cond.events.any (isPair c false) = true
  · rw [judgeEdge_repeats he hk, if_pos hk, if_neg fun h => Bool.noConfusion (hk.symm.trans h.1)]
    exact ⟨(Reported.refl s).congr (.refl _ s) rfl ((modCond_changes _ s).mono (by decide)) rfl, rfl⟩
  rw [judgeEdge_made he hk, if_neg hk, Bool.eq_false_iff.2 hk]
  have hmade : Changes [.cond] s (withFallen c s) := modCond_changes _ s
  by_cases hp : reportable s.cond.mask (fallenEvent s c) = true
  · have hlisted : (s.cond.events ++ [fallenEvent s c]).filter (reportable s.cond.mask) ≠ [] :=
      List.ne_nil_of_mem (List.mem_filter.2 ⟨List.mem_append_right _ List.mem_cons_self, hp⟩)
    obtain ⟨hreported, n, hcond⟩ := reportTrigger_reported (canReport_congr hmade (by decide) hs)
      ((reachable_congr (hmade .prot (by decide))).trans hr)
    rw [if_pos hp, if_pos ⟨rfl, hp⟩]
    rw [show triggered (withFallen c s).cond.mask (withFallen c s).cond.events =
      [(s.cond.events ++ [fallenEvent s c]).filter (reportable s.cond.mask)] from if_neg hlisted]
      at hreported
    exact ⟨hreported.congr hmade rfl (.refl _ _) rfl, by rw [hcond]; rfl⟩
  · rw [if_neg hp, if_neg fun h => hp h.2]
    exact ⟨(Reported.refl s).congr (.refl _ s) rfl (hmade.mono (by decide)) rfl, rfl⟩

/-- A flag falls: the reports and the events of its falling edge, if that is an event. -/
theorem changeCondition_fall {s : State} {c : Fin 64} (hs : CanReport s) (hr : reachable s = true)
    (hc : s.cond.copy.get c = true) (he : isEvent (s.cond.table.get c) false = true) :
    Reported (fallReports s c) s (changeCondition true c false s) ∧
      (changeCondition true c false s).cond.events = fallEvents s c := by
  have hcopy : Changes [.cond] s (s.modCond fun u => { u with copy := u.copy.set c false }) :=
    modCond_changes _ s
  have h := judgeEdge_fall (s := s.modCond fun u => { u with copy := u.copy.set c false }) (c := c)
    (canReport_congr hcopy (by decide) hs) ((reachable_congr (hcopy .prot (by decide))).trans hr) he
  unfold changeCondition
  rw [if_neg (by rw [hc]; decide)]
  exact ⟨h.1.congr hcopy rfl ((modSign_changes _ _).mono (by decide)) rfl, h.2⟩

/-- A flag that does not fall, or whose fall is no event: no report. -/
theorem changeCondition_quiet {s : State} {c : Fin 64}
    (h : ¬ (s.cond.copy.get c = true ∧ isEvent (s.cond.table.get c) false = true)) :
    Reported [] s (changeCondition true c false s) ∧
      (changeCondition true c false s).cond.events = s.cond.events := by
  unfold changeCondition
  split
  · exact ⟨.refl s, rfl⟩
  · next hc =>
    have he : isEvent (s.cond.table.get c) false = false :=
      Bool.eq_false_iff.2 fun he => h ⟨Bool.eq_true_of_not_eq_false hc, he⟩
    have hj : judgeEdge c false (s.modCond fun u => { u with copy := u.copy.set c false }) =
        s.modCond fun u => { u with copy := u.copy.set c false } := by
      unfold judgeEdge
      exact if_pos (show (!isEvent (s.cond.table.get c) false) = true by rw [he]; rfl)
    dsimp only
    rw [if_pos rfl, hj]
    exact ⟨(Reported.refl s).congr (.refl _ s) rfl (((modCond_changes _ s).mono (by decide)).trans
      ((modSign_changes _ _).mono (by decide))) rfl, rfl⟩

end Sys2Proof.Machine
end

section
/-! PROOFS. Ring cycles and line ports, part 38: what a relink brings to the positions of a slave
(O10). -/

namespace Sys2Proof.Machine

set_option Elab.async false

/-! ## One HELD position asks again (R72, R81) -/

/-- A position on entering REQUESTING by a relink. -/
def resumedPosition (p : Position) : Position :=
  { p with call := .requesting, resume := true, resend := some 0 }

/-- The Phone Interface as the request of a HELD position is made. -/
def asking (q : Fin 4) (s : State) : State :=
  (modPos q resumedPosition s).modPhone fun p => { p with requestsSent := bump p.requestsSent }

/-- The request of a HELD position. -/
def resumeRequest (s : State) (q : Fin 4) : VsigMsg :=
  .callRequest (ownRef s q) (posAt s q).priority true (posAt s q).answer

theorem posAt_asking (q k : Fin 4) (s : State) :
    posAt (asking q s) k = if q = k then resumedPosition (posAt s k) else posAt s k :=
  posAt_modPos q k resumedPosition s

theorem asking_changes (q : Fin 4) (s : State) : Changes [.phone] s (asking q s) :=
  (modPhone_changes _ s).trans (modPhone_changes _ _)

theorem relinkPosition_held {q : Fin 4} {s : State} (h : (posAt s q).call = .held) :
    relinkPosition hand q s =
      talkIfHeld q (sendVsig hand .alloc 1 (resumeRequest s q) (asking q s)) := by
  unfold relinkPosition enterRequesting offerRequest
  rw [if_pos h]
  dsimp only
  rw [modPos_modPos, modPos_modPos]
  show talkIfHeld q (sendVsig hand .alloc 1 (.callRequest (ownRef s q) (posAt (asking q s) q).priority
    (posAt (asking q s) q).resume (posAt (asking q s) q).answer) (asking q s)) = _
  rw [posAt_asking, if_pos rfl]
  rfl

theorem relinkPosition_other {q : Fin 4} {s : State} (h : (posAt s q).call ≠ .held) :
    relinkPosition hand q s = s := if_neg h

/-! ## On a slave: the request travels the ring (R52) -/

/-- A position after a relink, by whether the active bank holds its slots (R70, R81). -/
def relinkedPosition (talks : Bool) (p : Position) : Position :=
  if p.call ≠ .held then p
  else if talks then
    { p with call := .talking, resend := none, resume := false, answer := false, place := none }
  else resumedPosition p

/-- The HELD positions of a list. -/
def heldOf (s : State) (qs : List (Fin 4)) : List (Fin 4) := qs.filter fun q => (posAt s q).call == .held

/-- What the positions of a list have made of a relink on a slave. -/
structure Resumed (qs : List (Fin 4)) (s t : State) : Prop where
  positions : ∀ k, posAt t k = if k ∈ qs then relinkedPosition (holdsSlots s k) (posAt s k) else posAt s k
  count     : t.phone.requestsSent = bumps (heldOf s qs).length s.phone.requestsSent
  bank      : t.phone.active = s.phone.active
  alarm     : t.sw.alarm = s.sw.alarm
  frames    : s.sw.vsig.length + (heldOf s qs).length ≤ 16 → ∃ fs : List Frame,
    t.sw.vsig = s.sw.vsig ++ fs ∧ (∀ f ∈ fs, OwnFrame s 1 svcVsig 0 f.payload f) ∧
    fs.map (·.payload) = (heldOf s qs).map fun q => encodeVsig (resumeRequest s q)
  changes   : Changes [.phone, .sw, .openIndex] s t

theorem sendVsig_offered {s : State} (h : s.agent.address ≠ some 1) (target : Target) (m : VsigMsg) :
    sendVsig hand target 1 m s = (offerOwn .vsig
      (completeFrame s 1 svcVsig 0 (frameFlags false false) (openTag s) (encodeVsig m))
      s.spendOpen).1 := if_neg h

theorem talkIfHeld_asking {q : Fin 4} {s t : State} (hp : t.phone = (asking q s).phone) :
    (talkIfHeld q t).phone.requestsSent = bump s.phone.requestsSent ∧
    (talkIfHeld q t).phone.active = s.phone.active ∧ Changes [.phone] t (talkIfHeld q t) ∧
    ∀ k, posAt (talkIfHeld q t) k = if k = q then
      (if holdsSlots s q then talkingPosition (resumedPosition (posAt s q))
       else resumedPosition (posAt s q)) else posAt s k := by
  have hpos : ∀ k, posAt t k = if q = k then resumedPosition (posAt s k) else posAt s k := fun k => by
    rw [posAt, hp]
    exact posAt_asking q k s
  have hbank : holdsSlots t q = holdsSlots s q := by
    rw [holdsSlots, bankEntry, hp]
    rfl
  have hcall : (posAt t q).call = .requesting := by
    rw [hpos, if_pos rfl]
    rfl
  unfold talkIfHeld
  dsimp only
  rw [hcall, hbank]
  by_cases hh : holdsSlots s q = true
  · rw [if_pos ⟨.inl rfl, hh⟩, if_pos hh]
    refine ⟨?_, ?_, modPhone_changes _ t, fun k => ?_⟩
    · show t.phone.requestsSent = _
      rw [hp]
      rfl
    · show t.phone.active = _
      rw [hp]
      rfl
    · rw [posAt_modPos, hpos]
      by_cases hk : q = k
      · subst hk
        simp only [if_true]
      · simp only [if_neg hk, if_neg (Ne.symm hk)]
  · rw [if_neg fun h => hh h.2, if_neg hh]
    refine ⟨by rw [hp]; rfl, by rw [hp]; rfl, .refl _ t, fun k => ?_⟩
    rw [hpos]
    by_cases hk : q = k
    · subst hk
      simp only [if_true]
    · simp only [if_neg hk, if_neg (Ne.symm hk)]

theorem relinkPosition_resumed {s : State} (ha : s.agent.address.isSome = true)
    (h1 : s.agent.address ≠ some 1) (hi : isIsolated s = false) (q : Fin 4) :
    Resumed [q] s (relinkPosition hand q s) := by
  by_cases hh : (posAt s q).call = .held
  · have hheld : heldOf s [q] = [q] := by
      unfold heldOf
      rw [List.filter_cons_of_pos (by rw [hh]; rfl)]
      rfl
    have hsent := sendVsig_offered (s := asking q s) h1 .alloc (resumeRequest s q)
    rw [relinkPosition_held hh, hsent]
    have hoffer := offerOwn_changes .vsig (completeFrame (asking q s) 1 svcVsig 0
      (frameFlags false false) (openTag (asking q s)) (encodeVsig (resumeRequest s q)))
      (asking q s).spendOpen
    have hsw : ∀ r, QueueName.vsig ≠ r → queueFrames (offerOwn .vsig (completeFrame (asking q s) 1
      svcVsig 0 (frameFlags false false) (openTag (asking q s)) (encodeVsig (resumeRequest s q)))
      (asking q s).spendOpen).1.sw r = queueFrames s.sw r := fun r hr =>
        queueFrames_offerFrame_ne hr _ _ _ _ _ _
    have hroom : s.sw.vsig.length + 1 ≤ 16 → (offerOwn .vsig (completeFrame (asking q s) 1 svcVsig 0
      (frameFlags false false) (openTag (asking q s)) (encodeVsig (resumeRequest s q)))
      (asking q s).spendOpen).1.sw.vsig = s.sw.vsig ++ [completeFrame (asking q s) 1 svcVsig 0
      (frameFlags false false) (openTag (asking q s)) (encodeVsig (resumeRequest s q))] := fun h => by
        rw [offerOwn_queued (q := .vsig) (s := (asking q s).spendOpen) ha hi nofun h]
        rfl
    generalize (offerOwn .vsig _ (asking q s).spendOpen).1 = t at *
    have hphone : t.phone = (asking q s).phone := hoffer .phone (by decide)
    obtain ⟨hcount, hbank, htalk, hpos⟩ := talkIfHeld_asking hphone
    have htsw : (talkIfHeld q t).sw = t.sw := htalk .sw (by decide)
    refine ⟨fun k => ?_, by rw [hheld, hcount]; rfl, hbank, by rw [htsw]; exact hsw .alarm (by decide),
      fun h => ?_, ?_⟩
    · rw [hpos]
      by_cases hk : k = q
      · subst hk
        rw [if_pos rfl, if_pos List.mem_cons_self, relinkedPosition, if_neg (not_not_intro hh)]
        rfl
      · rw [if_neg hk, if_neg (by simpa using hk)]
    · rw [hheld] at h ⊢
      refine ⟨[_], by rw [htsw]; exact hroom h, fun f hf => ?_, rfl⟩
      rw [List.mem_singleton.1 hf]
      exact completeFrame_own (s := asking q s) ha 1 svcVsig 0 _ _
    · exact ((asking_changes q s).mono (by decide)).trans (((spendOpen_changes _).mono (by decide)).trans
        ((hoffer.mono (by decide)).trans (htalk.mono (by decide))))
  · have hheld : heldOf s [q] = [] := by
      unfold heldOf
      rw [List.filter_cons_of_neg (by simpa using hh)]
      rfl
    rw [relinkPosition_other hh]
    refine ⟨fun k => ?_, by rw [hheld]; rfl, rfl, rfl, fun _ => ⟨[], (List.append_nil _).symm, nofun,
      by rw [hheld]; rfl⟩, .refl _ s⟩
    split
    · next hk =>
      rw [List.mem_singleton.1 hk, relinkedPosition, if_pos hh]
    · rfl

theorem heldOf_congr {s t : State} {qs : List (Fin 4)} (h : ∀ q ∈ qs, posAt t q = posAt s q) :
    heldOf t qs = heldOf s qs :=
  List.filter_congr fun q hq => by rw [h q hq]

theorem resumeRequest_congr {s t : State} {q : Fin 4} (ha : t.agent = s.agent)
    (hs : s.agent.address.isSome = true) (hq : posAt t q = posAt s q) :
    resumeRequest t q = resumeRequest s q := by
  obtain ⟨a, hs⟩ := Option.isSome_iff_exists.1 hs
  unfold resumeRequest ownRef ownSource
  rw [hq, ha, hs]
  rfl

theorem Resumed.cons {q : Fin 4} {qs : List (Fin 4)} {s t u : State} (hq : q ∉ qs)
    (hs : s.agent.address.isSome = true)
    (h : Resumed [q] s t) (h' : Resumed qs t u) : Resumed (q :: qs) s u := by
  have hrest : ∀ k ∈ qs, posAt t k = posAt s k := fun k hk => by
    rw [h.positions, if_neg (by rintro hm; exact hq (List.mem_singleton.1 hm ▸ hk))]
  have hheld := heldOf_congr hrest
  have hsplit : heldOf s (q :: qs) = heldOf s [q] ++ heldOf s qs := List.filter_append [q] qs
  have ha : t.agent = s.agent := h.changes .agent (by decide)
  refine ⟨fun k => ?_, ?_, h'.bank.trans h.bank, h'.alarm.trans h.alarm, fun hroom => ?_,
    h.changes.trans h'.changes⟩
  · have hbank : holdsSlots t k = holdsSlots s k := by
      rw [holdsSlots, bankEntry, h.bank]
      rfl
    rw [h'.positions, hbank]
    by_cases hk : k ∈ qs
    · rw [if_pos hk, if_pos (List.mem_cons_of_mem q hk), hrest k hk]
    · rw [if_neg hk, h.positions]
      simp only [hk, or_false, List.mem_cons, List.not_mem_nil]
  · rw [h'.count, h.count, hheld, hsplit, List.length_append, bumps_add]
  · rw [hsplit, List.length_append] at hroom
    obtain ⟨fs, hfs, hown, hmap⟩ := h.frames (by omega)
    have hlen : fs.length = (heldOf s [q]).length := by simpa using congrArg List.length hmap
    obtain ⟨fs', hfs', hown', hmap'⟩ := h'.frames (by rw [hfs, List.length_append, hheld]; omega)
    refine ⟨fs ++ fs', by rw [hfs', hfs, List.append_assoc], fun f hf => ?_, ?_⟩
    · rcases List.mem_append.1 hf with hf | hf
      · exact hown f hf
      · have hf := hown' f hf
        unfold OwnFrame at hf ⊢
        rwa [ha] at hf
    · rw [List.map_append, hmap, hmap', hheld, hsplit, List.map_append]
      congr 1
      exact List.map_congr_left fun k hk => by
        rw [resumeRequest_congr ha hs (hrest k (List.mem_of_mem_filter hk))]

/-- The positions of a slave after a relink, and their requests in order (R72, R81). -/
theorem foldl_relinkPosition_resumed {qs : List (Fin 4)} (hnd : qs.Nodup) {s : State}
    (ha : s.agent.address.isSome = true) (h1 : s.agent.address ≠ some 1)
    (hi : isIsolated s = false) :
    Resumed qs s (qs.foldl (fun s q => relinkPosition hand q s) s) := by
  induction qs generalizing s with
  | nil => exact ⟨fun k => rfl, rfl, rfl, rfl, fun _ => ⟨[], (List.append_nil _).symm, nofun, rfl⟩,
      .refl _ s⟩
  | cons q qs ih =>
    obtain ⟨hq, hnd⟩ := List.nodup_cons.1 hnd
    have h := relinkPosition_resumed ha h1 hi q
    rw [List.foldl_cons]
    generalize relinkPosition hand q s = t at *
    have hagent : t.agent = s.agent := h.changes .agent (by decide)
    have hiso : isIsolated t = isIsolated s := by
      rw [isIsolated, show t.prot = s.prot from h.changes .prot (by decide),
        show t.line = s.line from h.changes .line (by decide)]
      rfl
    exact h.cons hq ha (ih hnd (hagent ▸ ha) (hagent ▸ h1) (hiso.trans hi))

theorem phoneRelink_resumed {s : State} (ha : s.agent.address.isSome = true)
    (h1 : s.agent.address ≠ some 1) (hi : isIsolated s = false) :
    Resumed (indices 4) s (phoneRelink hand s) :=
  foldl_relinkPosition_resumed (List.nodup_finRange 4) ha h1 hi

end Sys2Proof.Machine
end

section
/-! PROOFS. Ring cycles and line ports, part 39: what a relink brings to the positions of a master
whose requests wait (O10). -/

namespace Sys2Proof.Machine

set_option Elab.async false

/-! ## The request, handed to the node's own Slot Allocator (R52, R92) -/

theorem markPresent_one (s : State) :
    markPresent 1 s = modPlan 0 (fun r => { r with absent := false }) s := rfl

/-- The state in which the Slot Allocator of the master takes the request of a HELD position. -/
def asked (q : Fin 4) (s : State) : State := markPresent 1 (countTaken (asking q s))

theorem positionOf_octet (q : Fin 4) : positionOf (octet q.val).toNat = some q := by
  fin_cases q <;> rfl

theorem ownPosition_ownRef {s : State} (ha : s.agent.address = some 1) (q : Fin 4) :
    ownPosition 1 (ownRef s q) = some q := by
  rw [ownPosition, ownRef, ownSource, ha]
  exact (if_pos rfl).trans (positionOf_octet q)

theorem handDeep_request {s : State} (ha : s.agent.address = some 1) (k : Nat) (q : Fin 4) (u : State) :
    handDeep (k + 1) .alloc (resumeRequest s q) u =
      takeCallRequest (handDeep k) 0 q (posAt s q).priority (markPresent 1 u) := by
  show allocMessage (handDeep k) 1 0 (resumeRequest s q) (markPresent 1 u) = _
  unfold allocMessage resumeRequest
  dsimp only
  rw [ownPosition_ownRef ha]

theorem sendVsig_self {s : State} (ha : s.agent.address = some 1) (h : Hand) (target : Target)
    (m : VsigMsg) : sendVsig h target 1 m s = h target m (countTaken s) := if_pos ha

theorem relinkPosition_master {s : State} {q : Fin 4} (ha : s.agent.address = some 1)
    (hh : (posAt s q).call = .held) : relinkPosition hand q s =
      talkIfHeld q (takeCallRequest (handDeep 63) 0 q (posAt s q).priority (asked q s)) := by
  rw [relinkPosition_held hh, sendVsig_self (s := asking q s) ha]
  exact congrArg (talkIfHeld q) (handDeep_request ha 63 q (countTaken (asking q s)))

theorem talkIfHeld_stands {q : Fin 4} {s : State} (h : holdsSlots s q = false) :
    talkIfHeld q s = s := if_neg fun ⟨_, hh⟩ => Bool.noConfusion (h.symm.trans hh)

/-! ## A request that waits (R93) -/

theorem mem_insertWaiting {x y : WaitingEntry} {ws : List WaitingEntry} :
    y ∈ insertWaiting x ws ↔ y = x ∨ y ∈ ws := by
  induction ws with
  | nil => exact List.mem_cons
  | cons w ws ih =>
    unfold insertWaiting
    split
    · exact List.mem_cons
    · rw [List.mem_cons, ih, List.mem_cons]
      tauto

/-- The request of a position of the master as it joins the queue. -/
def waitingRequest (s : State) (q : Fin 4) (arrival : Nat) : WaitingEntry :=
  { node := 0, position := q, priority := (posAt s q).priority, arrival }

/-- The queue with the requests of some positions joined in turn (R90). -/
def joinedQueue (s : State) (qs : List (Fin 4)) : List WaitingEntry :=
  qs.zipIdx.foldl (fun ws x => insertWaiting (waitingRequest s x.1 (s.alloc.nextArrival + x.2)) ws)
    s.alloc.waiting

theorem joinedQueue_append (s : State) (qs : List (Fin 4)) (q : Fin 4) : joinedQueue s (qs ++ [q]) =
    insertWaiting (waitingRequest s q (s.alloc.nextArrival + qs.length)) (joinedQueue s qs) := by
  rw [joinedQueue, List.zipIdx_append, List.foldl_append, Nat.zero_add]
  rfl

theorem joinedQueue_length (s : State) (qs : List (Fin 4)) :
    (joinedQueue s qs).length = s.alloc.waiting.length + qs.length := by
  induction qs using List.reverseRecOn with
  | nil => rfl
  | append_singleton qs q ih =>
    rw [joinedQueue_append, length_insertWaiting, ih, List.length_append]
    rfl

theorem joinedQueue_any {s : State} {qs : List (Fin 4)} {q : Fin 4} (hq : q ∉ qs)
    (h : s.alloc.waiting.any (isRequest 0 q) = false) :
    (joinedQueue s qs).any (isRequest 0 q) = false := by
  induction qs using List.reverseRecOn with
  | nil => exact h
  | append_singleton qs p ih =>
    rw [List.mem_append, List.mem_singleton, not_or] at hq
    rw [joinedQueue_append]
    refine List.any_eq_false.2 fun w hw => ?_
    rcases mem_insertWaiting.1 hw with rfl | hw
    · intro hr
      rw [isRequest, Bool.and_eq_true] at hr
      exact hq.2 (beq_iff_eq.1 hr.2).symm
    · exact List.any_eq_false.1 (ih hq.1) w hw

/-- A position whose request waits. -/
def waitingPosition (place : Nat) (p : Position) : Position :=
  { p with call := .waiting, resume := true, resend := some 0, place := some place }

/-- CALL_QUEUED of the master to one of its own positions (R71, R93). -/
theorem sendQueued_self {s : State} (ha : s.agent.address = some 1) {q : Fin 4} {place : Nat}
    (hc : (posAt s q).call = .requesting) (hp : 1 ≤ place ∧ place ≤ 32) (k : Nat) :
    sendQueued (handDeep (k + 1)) 0 q place s = modPos q (fun p =>
      { p with call := .waiting, place := some place, resend := some 0 }) (countTaken s) := by
  have hsend : sendQueued (handDeep (k + 1)) 0 q place s = takeCallQueued (handDeep k)
      { node := nodeAddr 0, position := octet q.val } place (countTaken s) := sendVsig_self ha _ _ _
  rw [hsend]
  unfold takeCallQueued
  dsimp only
  rw [positionOf_octet]
  dsimp only
  rw [if_pos ⟨ha, hp.2⟩]
  unfold queuedAt
  rw [show (posAt (countTaken s) q).call = .requesting from hc, decide_eq_false (by omega)]

/-- The Slot Allocator with one request more in its queue. -/
def withWaiting (q : Fin 4) (priority : Bool) (s : State) : State := s.modAlloc fun a =>
  { a with
    waiting := insertWaiting { node := 0, position := q, priority, arrival := a.nextArrival } a.waiting
    nextArrival := a.nextArrival + 1 }

theorem takeCallRequest_waits {s : State} {q : Fin 4} (ha : s.agent.address = some 1)
    (hc : (posAt s q).call = .requesting) (hcall : callOf s.alloc 0 q = none)
    (hnew : s.alloc.waiting.any (isRequest 0 q) = false) (hgrant : canGrant s.alloc = false)
    (hroom : s.alloc.waiting.length < 32) (priority : Bool) (k : Nat) :
    takeCallRequest (handDeep (k + 1)) 0 q priority s = modPos q (fun p =>
      { p with call := .waiting, resend := some 0
               place := some (placeOf (withWaiting q priority s).alloc.waiting 0 q) })
        (countTaken (withWaiting q priority s)) := by
  have hplace : placeOf (withWaiting q priority s).alloc.waiting 0 q ≤ 32 := by
    have hmem : ∃ w ∈ (withWaiting q priority s).alloc.waiting, isRequest 0 q w = true :=
      ⟨_, mem_insertWaiting.2 (.inl rfl), by simp [isRequest]⟩
    have hlt := List.findIdx_lt_length_of_exists hmem
    have hlen : (withWaiting q priority s).alloc.waiting.length = s.alloc.waiting.length + 1 :=
      length_insertWaiting _ _
    rw [placeOf]
    omega
  unfold takeCallRequest
  rw [hcall, hnew, hgrant, if_neg (by decide), if_neg (by decide), if_neg (by decide), if_pos hroom]
  exact sendQueued_self (s := withWaiting q priority s) ha hc ⟨Nat.succ_pos _, hplace⟩ k

/-! ## The requests of all positions wait (R81, R93) -/

/-- What a relink brings on a master that can grant none of the requests of the positions `hs`. -/
structure Queued (hs : List (Fin 4)) (s t : State) : Prop where
  waiting   : t.alloc.waiting = joinedQueue s hs
  arrival   : t.alloc.nextArrival = s.alloc.nextArrival + hs.length
  calls     : t.alloc.calls = s.alloc.calls
  slots     : t.alloc.slots = s.alloc.slots
  capacity  : t.alloc.capacity = s.alloc.capacity
  count     : t.phone.requestsSent = bumps hs.length s.phone.requestsSent
  bank      : t.phone.active = s.phone.active
  positions : ∀ k, posAt t k = if k ∈ hs then
    waitingPosition (placeOf (joinedQueue s (hs.filter (· ≤ k))) 0 k) (posAt s k) else posAt s k
  changes   : Changes callParts s t

theorem Queued.refl (s : State) : Queued [] s s :=
  ⟨rfl, rfl, rfl, rfl, rfl, rfl, rfl, fun _ => rfl, .refl _ s⟩

/-- One position more. -/
theorem Queued.snoc {hs : List (Fin 4)} {q : Fin 4} {s t : State} (h : Queued hs s t)
    (hlt : ∀ p ∈ hs, p < q) (ha : s.agent.address = some 1) (hgrant : canGrant s.alloc = false)
    (hroom : s.alloc.waiting.length + hs.length < 32) (hh : (posAt s q).call = .held)
    (hbank : holdsSlots s q = false) (hcall : callOf s.alloc 0 q = none)
    (hnew : s.alloc.waiting.any (isRequest 0 q) = false) :
    Queued (hs ++ [q]) s (relinkPosition hand q t) := by
  have hq : q ∉ hs := fun hm => lt_irrefl q (hlt q hm)
  have hpos : posAt t q = posAt s q := (h.positions q).trans (if_neg hq)
  have hat : t.agent.address = some 1 := by
    rw [show t.agent = s.agent from h.changes .agent (by decide), ha]
  have hasked : ∀ k, posAt (asked q t) k = if q = k then resumedPosition (posAt t k) else posAt t k :=
    fun k => posAt_asking q k t
  have hwaits := takeCallRequest_waits (s := asked q t) (q := q) hat
    (by rw [hasked, if_pos rfl]; rfl)
    (by rw [callOf]; show t.alloc.calls.find? _ = none; rw [h.calls]; exact hcall)
    (by show t.alloc.waiting.any _ = false; rw [h.waiting]; exact joinedQueue_any hq hnew)
    (by
      unfold canGrant freeSlots
      show (_ && decide (t.alloc.calls.length < 24)) = false
      rw [h.calls]
      show (decide (2 ≤ ((indices 48).filter fun k =>
        decide (k.val < t.alloc.capacity) && !isHeld (t.alloc.slots.get k)).length) && _) = false
      rw [h.capacity, h.slots]
      exact hgrant)
    (by show t.alloc.waiting.length < 32; rw [h.waiting, joinedQueue_length]; exact hroom)
    (posAt t q).priority 62
  rw [relinkPosition_master hat (hpos ▸ hh), hwaits]
  have hqueue : (withWaiting q (posAt t q).priority (asked q t)).alloc.waiting =
      joinedQueue s (hs ++ [q]) := by
    show insertWaiting { node := 0, position := q, priority := (posAt t q).priority
                         arrival := t.alloc.nextArrival } t.alloc.waiting = _
    rw [joinedQueue_append, hpos, h.arrival, h.waiting]
    rfl
  rw [hqueue]
  have hwchanges : Changes callParts t (countTaken (withWaiting q (posAt t q).priority (asked q t))) :=
    ((asking_changes q t).mono (by decide)).trans (((countTaken_changes _).mono (by decide)).trans
      ((markPresent_changes 1 _).trans (((modAlloc_changes _ _).mono (by decide)).trans
        ((countTaken_changes _).mono (by decide)))))
  have hw1 : (countTaken (withWaiting q (posAt t q).priority (asked q t))).alloc.waiting = _ := hqueue
  have hw2 : (countTaken (withWaiting q (posAt t q).priority (asked q t))).alloc.nextArrival =
    t.alloc.nextArrival + 1 := rfl
  have hw3 : (countTaken (withWaiting q (posAt t q).priority (asked q t))).alloc.calls =
    t.alloc.calls := rfl
  have hw4 : (countTaken (withWaiting q (posAt t q).priority (asked q t))).alloc.slots =
    t.alloc.slots := rfl
  have hw5 : (countTaken (withWaiting q (posAt t q).priority (asked q t))).alloc.capacity =
    t.alloc.capacity := rfl
  have hw6 : (countTaken (withWaiting q (posAt t q).priority (asked q t))).phone =
    (asking q t).phone := rfl
  generalize countTaken (withWaiting q (posAt t q).priority (asked q t)) = w at *
  have hactive : w.phone.active = s.phone.active := by
    rw [hw6]
    exact h.bank
  rw [talkIfHeld_stands (by
    show (w.phone.active.entries.get q).isSome = false
    rw [hactive]
    exact hbank)]
  refine ⟨hw1, ?_, hw3.trans h.calls, hw4.trans h.slots, hw5.trans h.capacity, ?_, hactive,
    fun k => ?_, h.changes.trans (hwchanges.trans (modPos_changes q _ w))⟩
  · show w.alloc.nextArrival = _
    rw [hw2, h.arrival, List.length_append]
    rfl
  · show w.phone.requestsSent = _
    rw [hw6, List.length_append, bumps_add, ← h.count]
    rfl
  · have hwk : posAt w k = if q = k then resumedPosition (posAt t k) else posAt t k := by
      rw [posAt, hw6]
      exact posAt_asking q k t
    rw [posAt_modPos, hwk]
    by_cases hk : q = k
    · subst hk
      have hall : (hs ++ [q]).filter (· ≤ q) = hs ++ [q] := List.filter_eq_self.2 fun p hp => by
        rcases List.mem_append.1 hp with hp | hp
        · exact decide_eq_true (hlt p hp).le
        · exact decide_eq_true (List.mem_singleton.1 hp).le
      rw [if_pos rfl, if_pos rfl, if_pos (List.mem_append_right _ List.mem_cons_self), hall, hpos]
      rfl
    · have hmem : k ∈ hs ++ [q] ↔ k ∈ hs := by
        rw [List.mem_append, List.mem_singleton, or_iff_left (Ne.symm hk)]
      rw [if_neg hk, if_neg hk, h.positions]
      by_cases hkh : k ∈ hs
      · have hone : [q].filter (· ≤ k) = [] :=
          List.filter_cons_of_neg (by simpa using hlt k hkh)
        rw [if_pos hkh, if_pos (hmem.2 hkh), List.filter_append, hone, List.append_nil]
      · rw [if_neg hkh, if_neg fun hm => hkh (hmem.1 hm)]

theorem foldl_relinkPosition_queued {s : State} (ha : s.agent.address = some 1)
    (hgrant : canGrant s.alloc = false) {qs : List (Fin 4)} (hsorted : qs.Pairwise (· < ·))
    (hroom : s.alloc.waiting.length + (heldOf s qs).length ≤ 32)
    (hfree : ∀ q ∈ heldOf s qs, holdsSlots s q = false ∧ callOf s.alloc 0 q = none ∧
      s.alloc.waiting.any (isRequest 0 q) = false) :
    Queued (heldOf s qs) s (qs.foldl (fun s q => relinkPosition hand q s) s) := by
  induction qs using List.reverseRecOn with
  | nil => exact .refl s
  | append_singleton qs q ih =>
    obtain ⟨hqs, -, hlt⟩ := List.pairwise_append.1 hsorted
    have hlast : ∀ p ∈ heldOf s qs, p < q := fun p hp =>
      hlt p (List.mem_of_mem_filter hp) q List.mem_cons_self
    have hsplit : heldOf s (qs ++ [q]) = heldOf s qs ++ heldOf s [q] := List.filter_append qs [q]
    have h := ih hqs (by rw [hsplit, List.length_append] at hroom; omega)
      fun k hk => hfree k (hsplit ▸ List.mem_append_left _ hk)
    rw [List.foldl_append, List.foldl_cons, List.foldl_nil]
    generalize qs.foldl (fun s q => relinkPosition hand q s) s = t at *
    by_cases hh : (posAt s q).call = .held
    · have hone : heldOf s [q] = [q] := List.filter_cons_of_pos (by rw [hh]; rfl)
      rw [hsplit, hone] at hroom hfree ⊢
      obtain ⟨hbank, hcall, hnew⟩ := hfree q (List.mem_append_right _ List.mem_cons_self)
      rw [List.length_append, List.length_singleton] at hroom
      exact h.snoc hlast ha hgrant (by omega) hh hbank hcall hnew
    · have hone : heldOf s [q] = [] := List.filter_cons_of_neg (by simpa using hh)
      have hpos : posAt t q = posAt s q :=
        (h.positions q).trans (if_neg fun hm => lt_irrefl q (hlast q hm))
      rw [hsplit, hone, List.append_nil, relinkPosition_other (by rw [hpos]; exact hh)]
      exact h

end Sys2Proof.Machine
end

section
/-! PROOFS. Ring cycles and line ports, part 40: what a relink brings to a position of a master whose
call stands or is granted (O10). -/

namespace Sys2Proof.Machine

set_option Elab.async false

/-! ## Calls and slots (R89, R94) -/

theorem find?_insertCall {p : CallEntry → Bool} {e : CallEntry} {cs : List CallEntry}
    (h : p e = true → cs.find? p = none) :
    (insertCall e cs).find? p = if p e then some e else cs.find? p := by
  induction cs with
  | nil =>
    rw [insertCall, List.find?_cons]
    cases p e <;> rfl
  | cons c cs ih =>
    unfold insertCall
    split
    · rw [List.find?_cons]
      cases p e <;> rfl
    · rw [List.find?_cons, List.find?_cons]
      cases hc : p c with
      | true =>
        cases he : p e with
        | true =>
          have := h he
          rw [List.find?_cons, hc] at this
          cases this
        | false => rfl
      | false =>
        dsimp only
        refine ih fun he => ?_
        have := h he
        rwa [List.find?_cons, hc] at this

theorem callSlots_length (a : SlotAllocator) : (callSlots a).length = 2 * a.calls.length := by
  unfold callSlots
  induction a.calls with
  | nil => rfl
  | cons e cs ih =>
    rw [List.flatMap_cons, List.length_append, ih, List.length_cons (a := e), Nat.mul_succ,
      Nat.add_comm]
    rfl

/-- A full call table leaves no slot FREE, so that only missing slots can keep a grant back (R94). -/
theorem freeSlots_short {s : State} (hs : CallsHoldSlots s) (hg : canGrant s.alloc = false) :
    (freeSlots s.alloc).length < 2 := by
  obtain ⟨hholds, hnodup⟩ := hs
  by_contra hfree
  have hcalls : 24 ≤ s.alloc.calls.length := by
    by_contra hlt
    have : canGrant s.alloc = true := by
      simp only [canGrant, Bool.and_eq_true, decide_eq_true_eq]
      omega
    exact Bool.noConfusion (this.symm.trans hg)
  have hall : ∀ k, k ∈ callSlots s.alloc := by
    have hcard : (callSlots s.alloc).toFinset.card = (callSlots s.alloc).length :=
      List.toFinset_card_of_nodup hnodup
    have huniv : (callSlots s.alloc).toFinset = Finset.univ := by
      refine Finset.eq_univ_of_card _ (le_antisymm (Finset.card_le_univ _) ?_)
      rw [hcard, callSlots_length, Fintype.card_fin]
      omega
    exact fun k => List.mem_toFinset.1 (huniv ▸ Finset.mem_univ k)
  obtain ⟨k, hk⟩ : ∃ k, k ∈ freeSlots s.alloc :=
    List.exists_mem_of_length_pos (by omega)
  obtain ⟨e, he, hke⟩ := List.mem_flatMap.1 (hall k)
  have hheld : isHeld (s.alloc.slots.get k) = true := by
    obtain ⟨hup, hdown⟩ := hholds e he
    rcases List.mem_cons.1 hke with rfl | hke
    · rw [hup]; rfl
    · rw [List.mem_singleton.1 hke, hdown]; rfl
  have := (List.mem_filter.1 hk).2
  rw [hheld] at this
  simp at this

theorem freeSlots_congr {a b : SlotAllocator} (hs : a.slots = b.slots) (hc : a.capacity = b.capacity) :
    freeSlots a = freeSlots b := by
  unfold freeSlots
  rw [hs, hc]

theorem currentEntries_congr {a b : SlotAllocator} (h : a.calls = b.calls) (n : Fin 240) :
    currentEntries a n = currentEntries b n := by
  unfold currentEntries planEntry callOf
  simp only [h]

/-- The entries of a node whose position has been granted a call (R91, R94). -/
theorem currentEntries_insertCall {a b : SlotAllocator} {n : Fin 240} {q : Fin 4} {slots : SlotPair}
    {priority : Bool} {age : Nat} (hnone : callOf a n q = none)
    (h : b.calls = insertCall { node := n, position := q, slots, priority, phase := .planning, age }
      a.calls) : currentEntries b n = (currentEntries a n).set q (some slots) := by
  refine Tab.ext_get fun k => ?_
  rw [Tab.get_set, currentEntries, Tab.get_mk, currentEntries, Tab.get_mk, planEntry, callOf, h,
    find?_insertCall]
  · by_cases hk : q = k
    · subst hk
      simp [isCall, isLive]
    · simp [isCall, hk, planEntry, callOf]
  · intro he
    rw [isCall, Bool.and_eq_true] at he
    rw [← beq_iff_eq.1 he.2]
    exact hnone

/-! ## The plan of the master, handed to itself and accepted (R86, R91, R96) -/

/-- The plan that the master issues for itself. -/
def masterPlan (s : State) : Plan :=
  { version := nextVersion (s.alloc.plans.get 0).lastIssued, switchCycle := s.timer.number + 32
    entries := currentEntries s.alloc 0 }

theorem ahead_add (n : Half) : ahead (n + 32) n = true := by
  rw [ahead, show n + 32 - n = 32 by bv_omega]
  rfl

theorem roundDone_ahead (p : Plan) (n : Half) (h : p.switchCycle = n + 32) :
    roundDone n p false = false := by
  rw [roundDone, cyclesPast, h, ahead_add]
  rfl

theorem grantAfter_stands {h : Hand} {s t : State}
    (hw : t.alloc.waiting = [] ∨ (freeSlots t.alloc).length < 2) : grantAfter h s t = t := by
  unfold grantAfter
  split
  · rfl
  unfold grantFromQueue
  cases hq : t.alloc.waiting with
  | nil => rfl
  | cons w ws =>
    have hfew := hw.resolve_left (by rw [hq]; exact nofun)
    have hg : canGrant t.alloc = false := by
      rw [canGrant, decide_eq_false (by omega)]
      rfl
    rw [List.length_cons, grantQueue, hq]
    exact if_neg (by rw [hg]; decide)

theorem modPlan_get (f : PlanRecord → PlanRecord) (s : State) :
    (modPlan 0 f s).alloc.plans.get 0 = f (s.alloc.plans.get 0) :=
  (Tab.get_modify s.alloc.plans 0 0 f).trans (if_pos rfl)

/-- The state with the plan in flight to the master accepted. -/
def withAccepted (f : InFlight) (s : State) : State :=
  (modPlan 0 (fun r => { r with accepted := f.plan, acceptedSeen := f.seen, comeRound := false
                                inFlight := none }) s).modAlloc fun a =>
    { a with calls := (a.calls.map (settleCall 0 f.plan.entries)).filter fun e =>
        !callEnded 0 f.plan.entries e }

/-- The acceptance of the plan in flight to the master, when nothing is granted by it. -/
theorem takePlanAccept_stands {h : Hand} {s : State} {v : Octet} {f : InFlight}
    (hf : (s.alloc.plans.get 0).inFlight = some f) (hv : f.plan.version = v) (hseen : f.seen = false)
    (hc : f.plan.switchCycle = s.timer.number + 32)
    (hw : s.alloc.waiting = [] ∨ (freeSlots s.alloc).length < 2) :
    takePlanAccept h 0 v s = withAccepted f s := by
  have hfilter : ((s.alloc.plans.get 0).inFlight.filter fun f => f.plan.version == v) = some f := by
    rw [hf]
    simp [hv]
  unfold takePlanAccept
  dsimp only
  rw [hfilter]
  dsimp only
  unfold acceptPlan
  dsimp only
  rw [show roundDone s.timer.number f.plan f.seen = false by rw [hseen]; exact roundDone_ahead _ _ hc,
    if_neg Bool.false_ne_true]
  exact grantAfter_stands (t := withAccepted f s) hw

theorem withAccepted_plan (f : InFlight) (s : State) :
    ((withAccepted f s).alloc.plans.get 0).inFlight = none ∧
    ((withAccepted f s).alloc.plans.get 0).accepted = f.plan := by
  have h : (withAccepted f s).alloc.plans.get 0 = _ := modPlan_get _ s
  rw [h]
  exact ⟨rfl, rfl⟩

/-- The Phone Interface with a plan loaded (R86). -/
def loadedPhone (p : PhoneInterface) (v : Octet) (c : Half) (es : PlanEntries) : PhoneInterface :=
  { p with standby := { version := v, entries := es }, pendingAt := some c, cleared := false
           plansAccepted := bump p.plansAccepted }

theorem takePlanUpdate_loads {h : Hand} {s : State} {v : Octet} {c : Half} {slots : Octets}
    {es : PlanEntries} (hr : reachable s = true) (hes : wellFormedEntries slots = some es)
    (hk : knownVersion s.phone v = false) (hl : loadable s.phone v = true)
    (hc : ahead c s.timer.number = true) :
    takePlanUpdate h .taken 1 v c slots s =
      answerPlan h false v (s.modPhone fun p => loadedPhone p v c es) := by
  unfold takePlanUpdate
  rw [if_neg (by simp), hr, if_neg (by decide), hes]
  dsimp only
  rw [hk, if_neg Bool.false_ne_true, hl, if_pos rfl, hc, if_pos rfl]
  rfl

/-- The state in which the Slot Allocator of the master hears from its own node. -/
def presentMaster (s : State) : State := modPlan 0 (fun r => { r with absent := false }) s

/-- The plan of the master as it is issued. -/
def masterFlight (s : State) : InFlight := { plan := masterPlan s, sends := 1, seen := false }

/-- The state with the plan of the master issued (R91). -/
def withIssued (s : State) : State :=
  (modPlan 0 (fun r => { r with lastIssued := (masterPlan s).version
                                inFlight := some (masterFlight s) }) s).modAlloc fun a =>
    { a with plansIssued := bump a.plansIssued }

theorem planCalls_self {s : State} (ha : s.agent.address = some 1) (k : Nat) :
    planCalls (handDeep (k + 1)) 0 s = takePlanUpdate (handDeep k) .taken 1 (masterPlan s).version
      (masterPlan s).switchCycle (encodeEntries (currentEntries s.alloc 0))
      (countTaken (withIssued s)) := by
  show sendVsig (handDeep (k + 1)) .phone 1 (.planUpdate (masterPlan s).version
    (masterPlan s).switchCycle (encodeEntries (currentEntries s.alloc 0))) (withIssued s) = _
  rw [sendVsig_self (s := withIssued s) ha]
  rfl

theorem answerPlan_self {s : State} (ha : s.agent.address = some 1) (v : Octet) (k : Nat) :
    answerPlan (handDeep (k + 1)) false v s =
      takePlanAccept (handDeep k) 0 v (presentMaster (countTaken s)) := by
  show sendVsig (handDeep (k + 1)) .alloc 1 (.planAccept (ownSource s) v) s = _
  rw [sendVsig_self ha]
  rfl

/-- The state in which the master takes its own answer to a plan. -/
def selfAnswered (p : PhoneInterface) (s : State) : State :=
  presentMaster (countTaken ((countTaken s).modPhone fun _ => p))

theorem selfAnswered_flight {p : PhoneInterface} {s : State} {f : InFlight}
    (h : (s.alloc.plans.get 0).inFlight = some f) :
    ((selfAnswered p s).alloc.plans.get 0).inFlight = some f := by
  rw [selfAnswered, presentMaster, modPlan_get]
  exact h

theorem withIssued_flight (s : State) :
    ((withIssued s).alloc.plans.get 0).inFlight = some (masterFlight s) := by
  have h : (withIssued s).alloc.plans.get 0 = _ := modPlan_get (fun r => { r with
    lastIssued := (masterPlan s).version, inFlight := some (masterFlight s) }) s
  rw [h]

theorem takePlanUpdate_answered {s : State} {v : Octet} {c : Half} {slots : Octets}
    {es : PlanEntries} (ha : s.agent.address = some 1) (hr : reachable s = true)
    (hes : wellFormedEntries slots = some es) (hk : knownVersion s.phone v = false)
    (hl : loadable s.phone v = true) (hc : ahead c s.timer.number = true) (k : Nat) :
    takePlanUpdate (handDeep (k + 1)) .taken 1 v c slots (countTaken s) =
      takePlanAccept (handDeep k) 0 v (selfAnswered (loadedPhone s.phone v c es) s) := by
  rw [takePlanUpdate_loads (s := countTaken s) hr hes hk hl hc,
    answerPlan_self (s := (countTaken s).modPhone _) ha]
  rfl

/-- The plan issued to the master itself: loaded by its Phone Interface and accepted at once. -/
theorem planCalls_master {s : State} {es : PlanEntries} (ha : s.agent.address = some 1)
    (hr : reachable s = true)
    (hes : wellFormedEntries (encodeEntries (currentEntries s.alloc 0)) = some es)
    (hk : knownVersion s.phone (masterPlan s).version = false)
    (hl : loadable s.phone (masterPlan s).version = true)
    (hw : s.alloc.waiting = [] ∨ (freeSlots s.alloc).length < 2) (k : Nat) :
    (planCalls (handDeep (k + 2)) 0 s).phone =
      loadedPhone s.phone (masterPlan s).version (masterPlan s).switchCycle es ∧
    (planCalls (handDeep (k + 2)) 0 s).alloc.waiting = s.alloc.waiting ∧
    ((planCalls (handDeep (k + 2)) 0 s).alloc.plans.get 0).inFlight = none ∧
    ((planCalls (handDeep (k + 2)) 0 s).alloc.plans.get 0).accepted = masterPlan s := by
  have hahead : ahead (masterPlan s).switchCycle (withIssued s).timer.number = true :=
    ahead_add s.timer.number
  have hphone : (withIssued s).phone = s.phone := rfl
  have htimer : (withIssued s).timer = s.timer := rfl
  have hwait : (withIssued s).alloc.waiting = s.alloc.waiting := rfl
  have hfree : freeSlots (withIssued s).alloc = freeSlots s.alloc := freeSlots_congr rfl rfl
  have haddr : (withIssued s).agent.address = some 1 := ha
  have hreach : reachable (withIssued s) = true := hr
  have hflight := withIssued_flight s
  rw [planCalls_self ha]
  rw [← hphone] at hk hl ⊢
  rw [← hwait, ← hfree] at hw
  rw [← hwait]
  have hcycle : (masterPlan s).switchCycle = (withIssued s).timer.number + 32 := by
    rw [htimer]
    rfl
  have hplan : (masterFlight s).plan = masterPlan s := rfl
  have hseen : (masterFlight s).seen = false := rfl
  generalize withIssued s = x at *
  generalize masterPlan s = p at *
  generalize masterFlight s = f at *
  rw [takePlanUpdate_answered haddr hreach hes hk hl hahead]
  have hanswered := selfAnswered_flight (p := loadedPhone x.phone p.version p.switchCycle es) hflight
  rw [takePlanAccept_stands hanswered (hplan ▸ rfl) hseen (hplan ▸ hcycle) hw]
  obtain ⟨hnone, haccepted⟩ := withAccepted_plan f
    (selfAnswered (loadedPhone x.phone p.version p.switchCycle es) x)
  exact ⟨rfl, rfl, hnone, haccepted.trans hplan⟩

/-! ## The request of the only HELD position (R81, R93, R94) -/

/-- The state with a call granted to a position of the master. -/
def withGrant (q : Fin 4) (priority : Bool) (up down : Fin 48) (s : State) : State :=
  s.modAlloc fun a => { a with
    slots := (a.slots.set up (.held 0 false)).set down (.held 0 false)
    calls := insertCall { node := 0, position := q, slots := { up, down }, priority
                          phase := .planning, age := 0 } a.calls
    grants := bump a.grants }

theorem takeCallRequest_renews {h : Hand} {s : State} {q : Fin 4} (priority : Bool)
    (hc : (callOf s.alloc 0 q).isSome = true) :
    takeCallRequest h 0 q priority s = planCalls h 0 (modCall 0 q (renewCall priority) s) := if_pos hc

theorem takeCallRequest_grants {h : Hand} {s : State} {q : Fin 4} {up down : Fin 48}
    {rest : List (Fin 48)} (priority : Bool) (hc : callOf s.alloc 0 q = none)
    (hw : s.alloc.waiting = []) (hg : canGrant s.alloc = true)
    (hfree : freeSlots s.alloc = up :: down :: rest) :
    takeCallRequest h 0 q priority s = planCalls h 0 (withGrant q priority up down s) := by
  unfold takeCallRequest
  rw [hc, hw, if_neg (by decide), List.any_nil, if_neg Bool.false_ne_true, if_pos hg]
  unfold grant
  rw [hfree]
  rfl

/-- What a relink brings when it hands the master the plan `p`, whose entries read as `es`. -/
structure Planned (q : Fin 4) (p : Plan) (es : PlanEntries) (s t : State) : Prop where
  phone    : t.phone = loadedPhone (asking q s).phone p.version p.switchCycle es
  waiting  : t.alloc.waiting = s.alloc.waiting
  flight   : (t.alloc.plans.get 0).inFlight = none
  accepted : (t.alloc.plans.get 0).accepted = p

/-- The state `x` of the Slot Allocator in which the plan is issued differs from the state `s` before
the relink in its calls and slots. -/
theorem planCalls_planned {q : Fin 4} {s x : State} {es : PlanEntries}
    (ha : s.agent.address = some 1) (hr : reachable s = true) (hbank : holdsSlots s q = false)
    (hchanges : Changes callParts s x) (hphone : x.phone = (asking q s).phone)
    (hwait : x.alloc.waiting = s.alloc.waiting)
    (hissued : (x.alloc.plans.get 0).lastIssued = (s.alloc.plans.get 0).lastIssued)
    (hw : x.alloc.waiting = [] ∨ (freeSlots x.alloc).length < 2)
    (hk : knownVersion s.phone (nextVersion (s.alloc.plans.get 0).lastIssued) = false)
    (hl : loadable s.phone (nextVersion (s.alloc.plans.get 0).lastIssued) = true)
    (hes : wellFormedEntries (encodeEntries (currentEntries x.alloc 0)) = some es) :
    Planned q { version := nextVersion (s.alloc.plans.get 0).lastIssued
                switchCycle := s.timer.number + 32, entries := currentEntries x.alloc 0 } es s
      (talkIfHeld q (planCalls (handDeep 63) 0 x)) := by
  have hplan : masterPlan x = { version := nextVersion (s.alloc.plans.get 0).lastIssued
                                switchCycle := s.timer.number + 32
                                entries := currentEntries x.alloc 0 } := by
    rw [masterPlan, hissued, show x.timer = s.timer from hchanges .timer (by decide)]
  have hv : (masterPlan x).version = nextVersion (s.alloc.plans.get 0).lastIssued := by rw [hplan]
  obtain ⟨h1, h2, h3, h4⟩ := planCalls_master (s := x) (es := es)
    (by rw [show x.agent = s.agent from hchanges .agent (by decide)]; exact ha)
    ((reachable_congr (hchanges .prot (by decide))).trans hr) hes
    (by rw [hv, hphone]; exact hk) (by rw [hv, hphone]; exact hl) hw 61
  rw [hplan] at h1 h4
  generalize planCalls (handDeep 63) 0 x = t at *
  rw [talkIfHeld_stands (by rw [holdsSlots, bankEntry, h1, hphone]; exact hbank)]
  exact ⟨h1.trans (by rw [hphone]), h2.trans hwait, h3, h4⟩

/-- The entries of the plan that answers the request of a position of the master. -/
def resumedEntries (s : State) (q : Fin 4) : PlanEntries :=
  match callOf s.alloc 0 q, freeSlots s.alloc with
  | none, up :: down :: _ => (currentEntries s.alloc 0).set q (some { up, down })
  | _, _ => currentEntries (modCall 0 q (renewCall (posAt s q).priority) s).alloc 0

theorem asked_eq (q : Fin 4) (s : State) : asked q s = presentMaster (countTaken (asking q s)) := rfl

theorem asked_changes (q : Fin 4) (s : State) : Changes callParts s (asked q s) :=
  ((asking_changes q s).mono (by decide)).trans (((countTaken_changes _).mono (by decide)).trans
    (markPresent_changes 1 _))

/-- The Slot Allocator as the request reaches it: one plan record apart, it stands. -/
theorem asked_alloc (q : Fin 4) (s : State) :
    (asked q s).alloc.calls = s.alloc.calls ∧ (asked q s).alloc.slots = s.alloc.slots ∧
    (asked q s).alloc.capacity = s.alloc.capacity ∧ (asked q s).alloc.waiting = s.alloc.waiting ∧
    ((asked q s).alloc.plans.get 0).lastIssued = (s.alloc.plans.get 0).lastIssued ∧
    (asked q s).phone = (asking q s).phone := by
  have hplan : ((asked q s).alloc.plans.get 0).lastIssued = (s.alloc.plans.get 0).lastIssued := by
    rw [asked_eq, presentMaster, modPlan_get]
    rfl
  rw [asked_eq] at *
  exact ⟨rfl, rfl, rfl, rfl, hplan, rfl⟩

/-- The one HELD position of a master asks, and its call stands or is granted (R93, R94). -/
theorem relinkPosition_planned {s : State} {q : Fin 4} {es : PlanEntries}
    (ha : s.agent.address = some 1) (hr : reachable s = true) (hh : (posAt s q).call = .held)
    (hbank : holdsSlots s q = false) (hcalls : CallsHoldSlots s)
    (hcase : (callOf s.alloc 0 q).isSome = true ∧
        (s.alloc.waiting = [] ∨ canGrant s.alloc = false) ∨
      callOf s.alloc 0 q = none ∧ s.alloc.waiting = [] ∧ canGrant s.alloc = true)
    (hk : knownVersion s.phone (nextVersion (s.alloc.plans.get 0).lastIssued) = false)
    (hl : loadable s.phone (nextVersion (s.alloc.plans.get 0).lastIssued) = true)
    (hes : wellFormedEntries (encodeEntries (resumedEntries s q)) = some es) :
    Planned q { version := nextVersion (s.alloc.plans.get 0).lastIssued
                switchCycle := s.timer.number + 32, entries := resumedEntries s q } es s
      (relinkPosition hand q s) := by
  rw [relinkPosition_master ha hh]
  have hchanges := asked_changes q s
  obtain ⟨hacalls, haslots, hacap, hawait, hissued, hphone⟩ := asked_alloc q s
  generalize asked q s = u at *
  have hcall : callOf u.alloc 0 q = callOf s.alloc 0 q := by rw [callOf, callOf, hacalls]
  have hfree : freeSlots u.alloc = freeSlots s.alloc := freeSlots_congr haslots hacap
  rcases hcase with ⟨hsome, hw⟩ | ⟨hnone, hw, hg⟩
  · have hentries : currentEntries (modCall 0 q (renewCall (posAt s q).priority) u).alloc 0 =
        resumedEntries s q := by
      have hold : resumedEntries s q =
          currentEntries (modCall 0 q (renewCall (posAt s q).priority) s).alloc 0 := by
        unfold resumedEntries
        obtain ⟨e, he⟩ := Option.isSome_iff_exists.1 hsome
        rw [he]
      rw [hold]
      refine currentEntries_congr ?_ 0
      show u.alloc.calls.map _ = s.alloc.calls.map _
      rw [hacalls]
    rw [takeCallRequest_renews _ (hcall ▸ hsome), ← hentries]
    rw [← hentries] at hes
    refine planCalls_planned ha hr hbank (hchanges.trans (modCall_changes _ _ _ u)) hphone hawait hissued
      ?_ hk hl hes
    refine hw.imp (fun h => hawait.trans h) fun h => ?_
    rw [show freeSlots (modCall 0 q (renewCall (posAt s q).priority) u).alloc = freeSlots u.alloc from
      freeSlots_congr rfl rfl, hfree]
    exact freeSlots_short hcalls h
  · obtain ⟨up, down, rest, hslots⟩ : ∃ up down rest, freeSlots s.alloc = up :: down :: rest := by
      have hlen : 2 ≤ (freeSlots s.alloc).length := by
        simp only [canGrant, Bool.and_eq_true, decide_eq_true_eq] at hg
        exact hg.1
      match hf : freeSlots s.alloc, hlen with
      | up :: down :: rest, _ => exact ⟨up, down, rest, rfl⟩
    have hentries : currentEntries (withGrant q (posAt s q).priority up down u).alloc 0 =
        resumedEntries s q := by
      have hold : resumedEntries s q = (currentEntries s.alloc 0).set q (some { up, down }) := by
        unfold resumedEntries
        rw [hnone, hslots]
      rw [hold, ← currentEntries_congr hacalls 0]
      exact currentEntries_insertCall (hcall.trans hnone) rfl
    have hgrant : canGrant u.alloc = true := by
      rw [canGrant, hfree, hacalls]
      exact hg
    rw [takeCallRequest_grants _ (hcall.trans hnone) (hawait.trans hw) hgrant (hfree.trans hslots),
      ← hentries]
    rw [← hentries] at hes
    exact planCalls_planned ha hr hbank (hchanges.trans ((modAlloc_changes _ u).mono (by decide))) hphone
      hawait hissued (.inl (hawait.trans hw)) hk hl hes

theorem Planned.position {q : Fin 4} {p : Plan} {es : PlanEntries} {s t : State} (h : Planned q p es s t)
    (k : Fin 4) : posAt t k = if q = k then resumedPosition (posAt s k) else posAt s k := by
  rw [posAt, h.phone]
  exact posAt_asking q k s

/-- Positions that are not HELD take nothing of a relink (R81). -/
theorem foldl_relinkPosition_other {qs : List (Fin 4)} {s : State}
    (h : ∀ q ∈ qs, (posAt s q).call ≠ .held) :
    qs.foldl (fun s q => relinkPosition hand q s) s = s := by
  induction qs with
  | nil => rfl
  | cons q qs ih =>
    rw [List.foldl_cons, relinkPosition_other (h q List.mem_cons_self)]
    exact ih fun k hk => h k (List.mem_cons_of_mem q hk)

/-- With no HELD position a relink brings nothing to the positions. -/
theorem phoneRelink_none {s : State} (h : heldOf s (indices 4) = []) : phoneRelink hand s = s :=
  foldl_relinkPosition_other fun q hq hc =>
    List.filter_eq_nil_iff.1 h q hq (by rw [hc]; rfl)

/-- With one HELD position a relink is that position's. -/
theorem phoneRelink_one {s : State} {q : Fin 4} (h : heldOf s (indices 4) = [q])
    (hrest : ∀ k, k ≠ q → posAt (relinkPosition hand q s) k = posAt s k) :
    phoneRelink hand s = relinkPosition hand q s := by
  have hheld : ∀ k, (posAt s k).call = .held ↔ k = q := fun k => by
    rw [← List.mem_singleton (a := k) (b := q), ← h, heldOf, List.mem_filter, beq_iff_eq]
    exact (and_iff_right (List.mem_finRange k)).symm
  obtain ⟨l, r, hsplit⟩ := List.append_of_mem (List.mem_finRange q)
  have hnd := hsplit ▸ List.nodup_finRange 4
  have hl : q ∉ l ∧ q ∉ r := by
    rw [List.nodup_append] at hnd
    obtain ⟨-, hr, hdisj⟩ := hnd
    exact ⟨fun hm => hdisj q hm q List.mem_cons_self rfl, (List.nodup_cons.1 hr).1⟩
  unfold phoneRelink
  rw [show indices 4 = l ++ q :: r from hsplit, List.foldl_append, List.foldl_cons,
    foldl_relinkPosition_other fun k hk hc => hl.1 ((hheld k).1 hc ▸ hk)]
  refine foldl_relinkPosition_other fun k hk hc => ?_
  have hkq : k ≠ q := fun e => hl.2 (e ▸ hk)
  rw [hrest k hkq] at hc
  exact hkq ((hheld k).1 hc)

end Sys2Proof.Machine
end

section
/-! PROOFS. Ring cycles and line ports, part 41: the end of a cycle that hands a relink (O10). -/

namespace Sys2Proof.Machine

set_option Elab.async false

/-! ## The reports and the events of a relink (R171) -/

/-- Condition 48 falls, and its falling edge is an event. -/
def DetachedFalls (s : State) : Prop :=
  s.cond.copy.get condDetached = true ∧ isEvent (s.cond.table.get condDetached) false = true

/-- The reports of the fall of condition 48, and the events after it. -/
def FallTold (s : State) (rs : List (List PendingEvent)) (es : List PendingEvent) : Prop :=
  DetachedFalls s ∧ rs = fallReports s condDetached ∧ es = fallEvents s condDetached ∨
  ¬ DetachedFalls s ∧ rs = [] ∧ es = s.cond.events

theorem FallTold.congr {s t : State} {rs : List (List PendingEvent)} {es : List PendingEvent}
    (h : FallTold t rs es) (hc : ∃ n, t.cond = { s.cond with alarmReports := n })
    (hj : t.journal = s.journal) : FallTold s rs es := by
  obtain ⟨n, hc⟩ := hc
  unfold FallTold DetachedFalls fallReports fallEvents fallenEvent at h ⊢
  rw [hc, hj] at h
  exact h

/-- What a relink makes of the reports, the copy and the events. -/
theorem relink_told {r : State} (hr : CanReport r) (hl : reachable r = true) :
    ∃ rs, FallTold r rs (changeCondition true condDetached false (reportTrigger r)).cond.events ∧
      Reported (triggered r.cond.mask r.cond.events ++ rs) r
        (changeCondition true condDetached false (reportTrigger r)) ∧
      (changeCondition true condDetached false (reportTrigger r)).cond.copy =
        r.cond.copy.set condDetached false := by
  obtain ⟨hreported, hcond⟩ := reportTrigger_reported hr hl
  have hchanges := reportTrigger_changes r
  generalize reportTrigger r = w at *
  have hw : CanReport w := canReport_congr hchanges (by decide) hr
  have hlw : reachable w = true := (reachable_congr (hchanges .prot (by decide))).trans hl
  have hj : w.journal = r.journal := hchanges .journal (by decide)
  have hcopy : (changeCondition true condDetached false w).cond.copy =
      r.cond.copy.set condDetached false := by
    obtain ⟨n, hc⟩ := hcond
    rw [changeCondition_copy, hc]
  by_cases hf : DetachedFalls w
  · obtain ⟨hrs, hes⟩ := changeCondition_fall hw hlw hf.1 hf.2
    exact ⟨_, FallTold.congr (.inl ⟨hf, rfl, hes⟩) hcond hj, hreported.trans hrs, hcopy⟩
  · obtain ⟨hrs, hes⟩ := changeCondition_quiet hf
    exact ⟨_, FallTold.congr (.inr ⟨hf, rfl, hes⟩) hcond hj, hreported.trans hrs, hcopy⟩

/-! ## The end of the cycle (R22, R81) -/

/-- The end of a cycle that hands a relink: the positions take it in the state `v`, the reports follow
and leave `x`, and the end of the cycle makes `t` of it. -/
structure RelinkHanded (s v x t : State) : Prop where
  step    : step (s.withPending []) = .next t
  before  : Changes [.sw, .prot, .pending] s v
  prot    : v.prot = { s.prot with handed := true }
  switch  : isIsolated s = false → v.sw = s.sw
  reports : ∃ rs, FallTold s rs x.cond.events ∧
    Reported (triggered s.cond.mask s.cond.events ++ rs) (phoneRelink hand v) x
  copy    : x.cond.copy = s.cond.copy.set condDetached false
  after   : Changes [.out, .lanes, .period, .pending] x t
  uplink  : t.out.uplink = x.out.uplink

theorem relink_handed {s : State} (hstage : s.period.stage = .closing)
    (hsettled : s.prot.state = protectionOf s.line.w.health s.line.e.health)
    (hh : s.prot.handed = false) (hl : s.prot.linked = true) (hreport : CanReport s)
    (hcopy : ∀ c ∈ [condWrapped, condIsolated, condJournalNonempty, condJournalFull],
      s.cond.copy.get c = ownerFlag s c.val) : ∃ v x t, RelinkHanded s v x t := by
  obtain ⟨hsw, hstands⟩ := settleProtection_stands (s := s.withPending []) hsettled
  have hv : Changes [.sw, .prot, .pending] s
      (setHanded true (settleProtection (s.withPending []))) :=
    ((pending_changes s []).mono (by decide)).trans ((hsw.mono (by decide)).trans
      ((modProt_changes _ _).mono (by decide)))
  have hprot : (setHanded true (settleProtection (s.withPending []))).prot =
      { s.prot with handed := true } := by
    show { (settleProtection (s.withPending [])).prot with handed := true } = _
    rw [show (settleProtection (s.withPending [])).prot = s.prot from hsw .prot (by decide)]
  have hswitch : isIsolated s = false →
      (setHanded true (settleProtection (s.withPending []))).sw = s.sw := fun hi => by
    show (settleProtection (s.withPending [])).sw = s.sw
    rw [hstands hi]
    rfl
  have htell : handReach (settleProtection (s.withPending [])) =
      changeCondition true condDetached false (reportTrigger
        (phoneRelink hand (setHanded true (settleProtection (s.withPending []))))) := by
    rw [← relink_eq]
    unfold handReach
    rw [show (settleProtection (s.withPending [])).prot = s.prot from hsw .prot (by decide), hl, hh,
      if_neg (by decide), if_pos rfl]
  have hcycle : settleCycle (s.withPending []) = journalConditions (protectionConditions
      (handReach (settleProtection (s.withPending [])))) := rfl
  have hafter := settlePeriod_changes_after (s.withPending [])
  have huplink := settlePeriod_uplink (s.withPending [])
  rw [htell] at hcycle
  rw [hcycle] at hafter huplink
  have hstep := tick_closing hstage
  generalize settlePeriod (s.withPending []) = t at *
  generalize setHanded true (settleProtection (s.withPending [])) = v at *
  have hphone := phoneRelink_changes hand_keeps v
  obtain ⟨rs, htold, hreported, hxcopy⟩ := relink_told (r := phoneRelink hand v) (by
      have hv2 : CanReport v := by
        obtain ⟨ha, hm⟩ := hreport
        refine ⟨by rw [show v.agent = s.agent from hv .agent (by decide)]; exact ha, hm.imp ?_ ?_⟩
        · exact fun hm => (show v.isMaster = s.isMaster from hv .isMaster (by decide)).trans hm
        · intro hi
          rw [isIsolated, hprot, show v.line = s.line from hv .line (by decide)]
          exact hi
      exact canReport_congr hphone (by decide) hv2)
    (by
      rw [reachable_congr (hphone .prot (by decide)), reachable, hprot]
      exact (Bool.and_true _).trans hl)
  have hxchanges := hreported.changes
  generalize changeCondition true condDetached false (reportTrigger (phoneRelink hand v)) = x at *
  have hcond : (phoneRelink hand v).cond = s.cond := (hphone .cond (by decide)).trans (hv .cond (by decide))
  have hjournal : (phoneRelink hand v).journal = s.journal :=
    (hphone .journal (by decide)).trans (hv .journal (by decide))
  rw [hcond] at hxcopy hreported
  have hx : journalConditions (protectionConditions x) = x := by
    refine conditions_stand fun c hc => ?_
    have hxprot : x.prot = { s.prot with handed := true } :=
      (hxchanges .prot (by decide)).trans ((hphone .prot (by decide)).trans hprot)
    have hxjournal : x.journal = s.journal := (hxchanges .journal (by decide)).trans hjournal
    obtain ⟨sw, si, sn, sf⟩ := ownerFlag_settled s
    obtain ⟨xw, xi, xn, xf⟩ := ownerFlag_settled x
    have hne : condDetached ≠ c := by
      rintro rfl
      revert hc
      decide
    rw [hxcopy, Tab.get_set, if_neg hne, hcopy c hc]
    simp only [List.mem_cons, List.not_mem_nil, or_false] at hc
    rcases hc with rfl | rfl | rfl | rfl
    · rw [sw, xw, hxprot]
    · rw [si, xi, hxprot]
    · rw [sn, xn, hxjournal]
    · rw [sf, xf, hxjournal]
  rw [hx] at hcycle hafter huplink
  exact ⟨v, x, t, hstep, hv, hprot, hswitch, ⟨rs, htold.congr ⟨s.cond.alarmReports, hcond⟩ hjournal,
    hreported⟩, hxcopy, hafter, huplink⟩

end Sys2Proof.Machine
end

section
/-! PROOFS. Ring cycles and line ports, part 42: what the end of a cycle shows of a relink (O10). -/

namespace Sys2Proof.Machine

set_option Elab.async false

/-! ## The reports and events, as the rules list them (R164, R167, R171) -/

theorem detachedFalls_iff {s : State} : DetachedFalls s ↔ s.cond.copy.get condDetached = true ∧
    1 ≤ (s.cond.table.get condDetached).level ∧ (s.cond.table.get condDetached).fall = true := by
  rw [DetachedFalls, isEvent, Bool.and_eq_true, decide_eq_true_eq, Bool.false_or]

theorem isPair_fall (c : Fin 64) :
    isPair c false = fun (x : PendingEvent) => x.condition == c && !x.rise := by
  funext x
  rw [isPair]
  cases x.rise <;> rfl

theorem repeatEvent_fall (c : Fin 64) : repeatEvent c false = fun (x : PendingEvent) =>
    if x.condition = c ∧ x.rise = false then { x with repeats := min 255 (x.repeats + 1) } else x := by
  funext x
  rw [repeatEvent]
  by_cases h : x.condition = c ∧ x.rise = false
  · rw [if_pos h, if_pos (isPair_iff.2 h)]
  · rw [if_neg h, if_neg fun hp => h (isPair_iff.1 hp)]

theorem FallTold.events {s : State} {rs : List (List PendingEvent)} {es : List PendingEvent}
    (h : FallTold s rs es) : es =
      if ¬ (s.cond.copy.get condDetached = true ∧ 1 ≤ (s.cond.table.get condDetached).level ∧
          (s.cond.table.get condDetached).fall = true) then s.cond.events
      else if (s.cond.events.any fun x => x.condition == condDetached && !x.rise) then
        s.cond.events.map fun x =>
          if x.condition = condDetached ∧ x.rise = false then
            { x with repeats := min 255 (x.repeats + 1) }
          else x
      else s.cond.events ++ [fallenEvent s condDetached] := by
  rcases h with ⟨hf, -, rfl⟩ | ⟨hf, -, rfl⟩
  · rw [if_neg (not_not_intro (detachedFalls_iff.1 hf)), fallEvents, isPair_fall, repeatEvent_fall]
  · rw [if_pos fun h => hf (detachedFalls_iff.2 h)]

theorem FallTold.reports {s : State} {rs : List (List PendingEvent)} {es : List PendingEvent}
    (h : FallTold s rs es) : rs =
      if (s.cond.copy.get condDetached = true ∧ 1 ≤ (s.cond.table.get condDetached).level ∧
          (s.cond.table.get condDetached).fall = true) ∧
        (s.cond.events.any fun x => x.condition == condDetached && !x.rise) = false ∧
        [fallenEvent s condDetached].filter (reportable s.cond.mask) ≠ [] then
        [(s.cond.events ++ [fallenEvent s condDetached]).filter (reportable s.cond.mask)]
      else [] := by
  have hone : [fallenEvent s condDetached].filter (reportable s.cond.mask) ≠ [] ↔
      reportable s.cond.mask (fallenEvent s condDetached) = true := by
    rw [List.filter_cons, List.filter_nil]
    split <;> simp_all
  rcases h with ⟨hf, rfl, -⟩ | ⟨hf, rfl, -⟩
  · rw [fallReports, isPair_fall]
    by_cases hk : (s.cond.events.any fun x => x.condition == condDetached && !x.rise) = false ∧
        reportable s.cond.mask (fallenEvent s condDetached) = true
    · rw [if_pos hk, if_pos ⟨detachedFalls_iff.1 hf, hk.1, hone.2 hk.2⟩]
    · rw [if_neg hk, if_neg fun h => hk ⟨h.2.1, hone.1 h.2.2⟩]
  · rw [if_neg fun h => hf (detachedFalls_iff.2 h.1)]

/-! ## What the end of the cycle shows of the relink -/

theorem RelinkHanded.frames {s v x t : State} (h : RelinkHanded s v x t)
    {rs : List (List PendingEvent)} (hr : Reported rs (phoneRelink hand v) x)
    (halarm : s.isMaster = false → (phoneRelink hand v).sw.alarm = s.sw.alarm)
    (hroom : s.isMaster = true ∨ s.sw.alarm.length + rs.length ≤ 4) : ∃ fs : List Frame,
      (if s.isMaster then t.out.uplink = s.out.uplink ++ fs.map encodeFrame
       else t.sw.alarm = s.sw.alarm ++ fs ∧ t.out.uplink = s.out.uplink) ∧
      (∀ f ∈ fs, OwnFrame s 0 svcAlarm f.channel f.payload f) ∧
      fs.map (fun f => (f.channel, f.payload)) = rs.map reportOf := by
  have hphone := phoneRelink_changes hand_keeps v
  have hm : (phoneRelink hand v).isMaster = s.isMaster :=
    (hphone .isMaster (by decide)).trans (h.before .isMaster (by decide))
  have ha : (phoneRelink hand v).agent = s.agent :=
    (hphone .agent (by decide)).trans (h.before .agent (by decide))
  have ho : (phoneRelink hand v).out = s.out :=
    (hphone .out (by decide)).trans (h.before .out (by decide))
  have hsw : t.sw = x.sw := h.after .sw (by decide)
  have hf := hr.frames
  have huplink := h.uplink
  generalize phoneRelink hand v = u at *
  rw [hm, ho] at hf
  unfold OwnFrame at hf
  rw [ha] at hf
  rw [hsw, huplink]
  by_cases hs : s.isMaster = true
  · obtain ⟨fs, hfs, hown, hmap⟩ := hf (.inl hs)
    rw [if_pos hs] at hfs
    exact ⟨fs, by rw [if_pos hs]; exact hfs, hown, hmap⟩
  · rw [halarm (Bool.eq_false_iff.2 hs)] at hf
    exact hf hroom

theorem RelinkHanded.changes {s v x t : State} (h : RelinkHanded s v x t) :
    Changes [.prot, .phone, .alloc, .sw, .openIndex, .cond, .sign, .lanes, .out, .period, .pending]
      s t := by
  obtain ⟨rs, -, hr⟩ := h.reports
  exact (h.before.mono (by decide)).trans (((phoneRelink_changes hand_keeps v).mono (by decide)).trans
    ((hr.changes.mono (by decide)).trans (h.after.mono (by decide))))

theorem RelinkHanded.parts {s v x t : State} (h : RelinkHanded s v x t) :
    t.prot = { s.prot with handed := true } ∧ t.cond = x.cond ∧
      t.phone = (phoneRelink hand v).phone ∧ t.alloc = (phoneRelink hand v).alloc ∧
      v.phone = s.phone ∧ v.alloc = s.alloc ∧ v.agent = s.agent := by
  obtain ⟨rs, -, hr⟩ := h.reports
  refine ⟨?_, h.after .cond (by decide),
    (h.after .phone (by decide)).trans (hr.changes .phone (by decide)),
    (h.after .alloc (by decide)).trans (hr.changes .alloc (by decide)), h.before .phone (by decide),
    h.before .alloc (by decide), h.before .agent (by decide)⟩
  exact (h.after .prot (by decide)).trans ((hr.changes .prot (by decide)).trans
    ((phoneRelink_changes hand_keeps v .prot (by decide)).trans h.prot))

/-! ## The positions of a slave -/

theorem RelinkHanded.slave {s v x t : State} (h : RelinkHanded s v x t) (hs : RingSlave s)
    (hi : isIsolated s = false) :
    (phoneRelink hand v).sw.alarm = s.sw.alarm ∧
    (∀ q, posAt t q =
      if (posAt s q).call ≠ .held then posAt s q
      else if holdsSlots s q then
        { posAt s q with
          call := .talking, resend := none, resume := false, answer := false, place := none }
      else { posAt s q with call := .requesting, resume := true, resend := some 0 }) ∧
    t.phone.requestsSent = bumps (heldOf s (indices 4)).length s.phone.requestsSent ∧
    t.alloc = s.alloc ∧
    (s.sw.vsig.length + (heldOf s (indices 4)).length ≤ 16 →
      ∃ fs : List Frame, t.sw.vsig = s.sw.vsig ++ fs ∧
        (∀ f ∈ fs, OwnFrame s 1 svcVsig 0 f.payload f) ∧
        fs.map (·.payload) = (heldOf s (indices 4)).map fun q => encodeVsig (resumeRequest s q)) := by
  obtain ⟨-, ha, h1⟩ := hs
  obtain ⟨-, -, htphone, htalloc, hvphone, hvalloc, hvagent⟩ := h.parts
  have hvi : isIsolated v = false := by
    rw [isIsolated, h.prot, show v.line = s.line from h.before .line (by decide)]
    exact hi
  have hp : ∀ k, posAt v k = posAt s k := fun k => by rw [posAt, posAt, hvphone]
  have hr := phoneRelink_resumed (s := v) (by rw [hvagent]; exact ha) (by rw [hvagent]; exact h1) hvi
  have hheld : heldOf v (indices 4) = heldOf s (indices 4) := heldOf_congr fun k _ => hp k
  obtain ⟨rs, -, hreported⟩ := h.reports
  have hvsig : t.sw.vsig = (phoneRelink hand v).sw.vsig := by
    rw [show t.sw = x.sw from h.after .sw (by decide), hreported.vsig]
  obtain ⟨hpos, hcount, -, halarm, hframes, hchanges⟩ := hr
  generalize phoneRelink hand v = u at *
  rw [hheld, h.switch hi] at hframes
  refine ⟨by rw [halarm, h.switch hi], fun q => ?_, ?_, ?_, fun hroom => ?_⟩
  · have hbank : holdsSlots v q = holdsSlots s q := by
      rw [holdsSlots, bankEntry, hvphone]
      rfl
    rw [posAt, htphone]
    show posAt u q = _
    rw [hpos, if_pos (show q ∈ indices 4 from List.mem_finRange q), hp, hbank]
    rfl
  · rw [htphone, hcount, hheld, hvphone]
  · rw [htalloc, hchanges .alloc (by decide)]
    exact hvalloc
  · obtain ⟨fs, hfs, hown, hmap⟩ := hframes hroom
    unfold OwnFrame at hown
    rw [hvagent] at hown
    refine ⟨fs, hvsig.trans hfs, hown, hmap.trans ?_⟩
    exact List.map_congr_left fun q _ => by rw [resumeRequest_congr hvagent ha (hp q)]

/-! ## The positions of the master -/

theorem RelinkHanded.master_none {s v x t : State} (h : RelinkHanded s v x t) (hm : s.isMaster = true)
    (hnone : heldOf s (indices 4) = []) :
    t.phone = s.phone ∧ t.alloc = s.alloc ∧ (isIsolated s = false → t.sw = s.sw) := by
  obtain ⟨-, -, htphone, htalloc, hvphone, hvalloc, -⟩ := h.parts
  obtain ⟨rs, -, hreported⟩ := h.reports
  have hheld : heldOf v (indices 4) = [] :=
    (heldOf_congr fun k _ => by rw [posAt, posAt, hvphone]).trans hnone
  rw [phoneRelink_none hheld] at htphone htalloc hreported
  refine ⟨htphone.trans hvphone, htalloc.trans hvalloc, fun hi => ?_⟩
  have hxsw : x.sw = v.sw := hreported.master ((h.before .isMaster (by decide)).trans hm)
  exact (h.after .sw (by decide)).trans (hxsw.trans (h.switch hi))

theorem joinedQueue_congr {s v : State} (ha : v.alloc = s.alloc) (hp : v.phone = s.phone)
    (qs : List (Fin 4)) : joinedQueue v qs = joinedQueue s qs := by
  unfold joinedQueue waitingRequest posAt
  rw [ha, hp]

theorem RelinkHanded.master_queued {s v x t : State} (h : RelinkHanded s v x t)
    (ha : s.agent.address = some 1) (hg : canGrant s.alloc = false)
    (hroom : s.alloc.waiting.length + (heldOf s (indices 4)).length ≤ 32)
    (hfree : ∀ q ∈ heldOf s (indices 4), holdsSlots s q = false ∧ callOf s.alloc 0 q = none ∧
      s.alloc.waiting.any (isRequest 0 q) = false) :
    t.alloc.waiting = joinedQueue s (heldOf s (indices 4)) ∧ t.alloc.calls = s.alloc.calls ∧
    t.alloc.slots = s.alloc.slots ∧
    t.phone.requestsSent = bumps (heldOf s (indices 4)).length s.phone.requestsSent ∧
    ∀ q, posAt t q = if q ∈ heldOf s (indices 4) then
      waitingPosition (placeOf (joinedQueue s ((heldOf s (indices 4)).filter (· ≤ q))) 0 q) (posAt s q)
      else posAt s q := by
  obtain ⟨-, -, htphone, htalloc, hvphone, hvalloc, hvagent⟩ := h.parts
  have hp : ∀ k, posAt v k = posAt s k := fun k => by rw [posAt, posAt, hvphone]
  have hheld : heldOf v (indices 4) = heldOf s (indices 4) := heldOf_congr fun k _ => hp k
  have hq : Queued (heldOf v (indices 4)) v (phoneRelink hand v) :=
    foldl_relinkPosition_queued (by rw [hvagent]; exact ha) (by rw [hvalloc]; exact hg)
      (List.pairwise_lt_finRange 4) (by rw [hvalloc, hheld]; exact hroom) (by
        unfold holdsSlots bankEntry
        rw [hvalloc, hvphone, hheld]
        exact hfree)
  rw [hheld] at hq
  obtain ⟨hwait, -, hcalls, hslots, -, hcount, -, hpos, -⟩ := hq
  generalize phoneRelink hand v = u at *
  refine ⟨by rw [htalloc, hwait, joinedQueue_congr hvalloc hvphone], by rw [htalloc, hcalls, hvalloc],
    by rw [htalloc, hslots, hvalloc], by rw [htphone, hcount, hvphone], fun q => ?_⟩
  rw [posAt, htphone]
  show posAt u q = _
  rw [hpos, hp, joinedQueue_congr hvalloc hvphone]

theorem resumedEntries_congr {s v : State} {q : Fin 4} (ha : v.alloc = s.alloc)
    (hp : posAt v q = posAt s q) : resumedEntries v q = resumedEntries s q := by
  have hm : (modCall 0 q (renewCall (posAt v q).priority) v).alloc =
      (modCall 0 q (renewCall (posAt s q).priority) s).alloc := by
    unfold modCall State.modAlloc
    rw [ha, hp]
  unfold resumedEntries
  rw [hm, ha]

theorem RelinkHanded.master_planned {s v x t : State} (h : RelinkHanded s v x t) {q : Fin 4}
    {es : PlanEntries} (hl : s.prot.linked = true) (ha : s.agent.address = some 1)
    (hone : heldOf s (indices 4) = [q])
    (hbank : holdsSlots s q = false) (hcalls : CallsHoldSlots s)
    (hcase : (callOf s.alloc 0 q).isSome = true ∧
        (s.alloc.waiting = [] ∨ canGrant s.alloc = false) ∨
      callOf s.alloc 0 q = none ∧ s.alloc.waiting = [] ∧ canGrant s.alloc = true)
    (hk : knownVersion s.phone (nextVersion (s.alloc.plans.get 0).lastIssued) = false)
    (hload : loadable s.phone (nextVersion (s.alloc.plans.get 0).lastIssued) = true)
    (hes : wellFormedEntries (encodeEntries (resumedEntries s q)) = some es) :
    posAt t q = resumedPosition (posAt s q) ∧
    Planned q { version := nextVersion (s.alloc.plans.get 0).lastIssued
                switchCycle := s.timer.number + 32, entries := resumedEntries s q } es s t := by
  obtain ⟨-, -, htphone, htalloc, hvphone, hvalloc, hvagent⟩ := h.parts
  have hp : ∀ k, posAt v k = posAt s k := fun k => by rw [posAt, posAt, hvphone]
  have hheld : heldOf v (indices 4) = [q] := (heldOf_congr fun k _ => hp k).trans hone
  have hentries := resumedEntries_congr hvalloc (hp q)
  have hheldq : (posAt v q).call = .held := by
    have hm : q ∈ heldOf v (indices 4) := by rw [hheld]; exact List.mem_cons_self
    exact beq_iff_eq.1 (List.mem_filter.1 hm).2
  have hplanned := relinkPosition_planned (s := v) (q := q) (es := es) (by rw [hvagent]; exact ha)
    (by rw [reachable, h.prot]; exact (Bool.and_true _).trans hl) hheldq
    (by rw [holdsSlots, bankEntry, hvphone]; exact hbank)
    (by unfold CallsHoldSlots; rw [hvalloc]; exact hcalls) (by rw [hvalloc]; exact hcase)
    (by rw [hvalloc, hvphone]; exact hk) (by rw [hvalloc, hvphone]; exact hload)
    (by rw [hentries]; exact hes)
  have hrelink := phoneRelink_one hheld fun k hk => by rw [hplanned.position, if_neg (Ne.symm hk)]
  rw [← hrelink, hentries, hvalloc, show v.timer = s.timer from h.before .timer (by decide)] at hplanned
  generalize phoneRelink hand v = u at *
  have hasking : (asking q v).phone = (asking q s).phone := by
    simp only [asking, modPos, State.modPhone, hvphone]
  have ht : Planned q { version := nextVersion (s.alloc.plans.get 0).lastIssued
                        switchCycle := s.timer.number + 32, entries := resumedEntries s q } es s t := by
    obtain ⟨h1, h2, h3, h4⟩ := hplanned
    rw [← htphone, hasking] at h1
    rw [← htalloc, hvalloc] at h2
    rw [← htalloc] at h3 h4
    exact ⟨h1, h2, h3, h4⟩
  exact ⟨by rw [ht.position, if_pos rfl], ht⟩

end Sys2Proof.Machine
end

section
/-! PROOFS. Ring cycles and line ports, part 43: the centre lost and found again, as O10 states it. -/

namespace Sys2Proof.Machine

set_option Elab.async false

/-- Settles O10: the rows that lose the centre, then the end of a cycle that hands the detach or the
relink. -/
theorem centreLost : Obligations.CentreLost := by
  unfold Obligations.CentreLost
  refine ⟨fun s hm hl => ⟨fun hr hn => recirculation_detaches hm hr hn,
    fun ha => centreHeaderAge_detaches hm hl ha⟩, fun s hstage hsettled => ⟨fun hh hl => ?_,
    fun hh hl hnode hcopy => ?_⟩⟩
  · obtain ⟨t, hstep, ⟨⟨u, hended, hnone, htoll, hjournal⟩, ⟨ps, hphone, hps⟩, hflag,
      hprot⟩, hsw, huplink, hchanges⟩ := detach_handed hstage hsettled hh hl
    refine ⟨t, hstep, hprot, htoll ▸ hnone, htoll ▸ hended.counts.1, htoll ▸ hended.counts.2,
      fun h => ?_, fun h => ?_, fun r hr => ?_, fun q => ?_, by rw [hphone], by rw [hphone],
      by rw [hphone], fun q => ?_, hflag, hsw, huplink, hchanges⟩
    · rw [htoll, ← detachAnswers_eq]
      exact hended.answers h
    · obtain ⟨hrecords, hlost⟩ := hended.records h
      rw [hjournal, ← detachRecords_eq]
      exact ⟨congrArg (List.map backToWaiting) hrecords, hlost⟩
    · rw [hjournal] at hr
      obtain ⟨r, -, rfl⟩ := List.mem_map.1 hr
      rfl
    · rw [hphone]
      exact Tab.get_fill none q
    · have hposition : posAt t q = detachedPosition (posAt s q) := by rw [posAt, hphone, ← hps]
      exact (congrArg Position.call hposition).trans ((detachedPosition_call _).trans
        (by cases (posAt s q).call <;> rfl))
  · intro held listed e falls known made reports me joined
    have hreport : CanReport s := by
      rcases hnode with ⟨⟨-, ha, -⟩, hi⟩ | ⟨hm, ha, -⟩
      · exact ⟨ha, .inr hi⟩
      · exact ⟨by rw [ha]; rfl, .inl hm⟩
    have hslave : s.isMaster = false → RingSlave s ∧ isIsolated s = false := fun hm =>
      hnode.resolve_right fun h => Bool.noConfusion (h.1.symm.trans hm)
    have hmaster : s.isMaster = true → s.agent.address = some 1 := fun hm =>
      (hnode.resolve_left fun h => Bool.noConfusion (h.1.1.symm.trans hm)).2.1
    obtain ⟨v, x, t, h⟩ := relink_handed hstage hsettled hh hl hreport hcopy
    obtain ⟨hprot, hcond, -⟩ := h.parts
    obtain ⟨rs, htold, hreported⟩ := h.reports
    have hreports : reports = triggered s.cond.mask s.cond.events ++ rs := by
      rw [htold.reports]
      rfl
    have hcount := hreported.count
    rw [← hreports] at hreported hcount
    have hrelinkCond : (phoneRelink hand v).cond = s.cond :=
      (phoneRelink_changes hand_keeps v .cond (by decide)).trans (h.before .cond (by decide))
    refine ⟨t, h.step, hprot, by rw [hcond, h.copy], by rw [hcond]; exact htold.events,
      by rw [hcond, hcount, hrelinkCond], fun hroom => ?_, fun hm => ?_, fun hm => ?_, h.changes⟩
    · exact h.frames hreported (fun hm => (h.slave (hslave hm).1 (hslave hm).2).1) hroom
    · exact (h.slave (hslave hm).1 (hslave hm).2).2
    · refine ⟨fun hnone => h.master_none hm hnone,
        fun hg hroom hfree => h.master_queued (hmaster hm) hg hroom hfree,
        fun q hone hbank hcalls hcase => ?_⟩
      intro version hk hload entries es hes
      have hentries : entries = resumedEntries s q := rfl
      rw [hentries] at hes ⊢
      obtain ⟨hpos, hplanned⟩ := h.master_planned hl (hmaster hm) hone hbank hcalls hcase hk hload hes
      refine ⟨hpos, ?_, ?_, ?_, ?_, hplanned.flight, hplanned.accepted, hplanned.waiting⟩ <;>
        rw [hplanned.phone] <;> rfl

end Sys2Proof.Machine
end

section
/-! PROOFS. Frames offered and discarded, part 1: what a discard writes, the rows of R52 one by one,
and a full queue by its owner (R50 to R53). -/

namespace Sys2Proof.Machine

set_option Elab.async false

/-! ## What a discard writes (R50, R51) -/

theorem recordDiscard_discarded (cycle : Half) (reason : DiscardReason) (place : Place)
    (fields : Option FrameFields) (sw : FrameSwitch) :
    Discarded cycle reason place fields sw
      (recordDiscard { reason, place, cycle, fields, flushed := none } sw) := by
  refine ⟨rfl, ?_, fun r hr => ?_⟩
  · exact (Tab.get_modify ..).trans (if_pos rfl)
  · exact (Tab.get_modify ..).trans (if_neg fun e => hr (reasonIndex_inj.1 e).symm)

/-! ## The rows of R52, in order -/

section Rows
variable {assigned isolated ofCentre : Bool} {c : Half} {q : QueueName} {f : Frame} {sw : FrameSwitch}

theorem offerFrame_unassigned :
    offerFrame false isolated false c q f sw = (discardFrame c .noPath (.queue q) f sw, .discarded) :=
  rfl

theorem offerFrame_isolated :
    offerFrame assigned true ofCentre c q f sw =
      (discardFrame c .noPath (.queue q) f sw, .discarded) := by
  unfold offerFrame
  exact (if_congr Iff.rfl rfl (if_pos rfl)).trans (ite_self _)

/-- Past the first rows, B and the room in the queue decide (R52). -/
theorem offerFrame_open (ha : assigned = true ∨ ofCentre = true) :
    offerFrame assigned false ofCentre c q f sw =
      if budgeted q = true ∧ sw.budget < extent f then
        (discardFrame c .noRoom (.queue q) f sw, .discarded)
      else if capacityOf q ≤ (queueFrames sw q).length then
        if ofCentre then (discardFrame c .queueFull (.queue q) f sw, .discarded)
        else offerFull c q f sw
      else (setQueue q (queueFrames sw q ++ [f]) sw, .queued) := by
  have hn : ¬ (!assigned && !ofCentre) = true := by
    rcases ha with rfl | rfl <;> simp
  unfold offerFrame
  rw [if_neg hn, if_neg (by decide)]
  simp only [Bool.and_eq_true, decide_eq_true_eq]

theorem offerFrame_noRoom (ha : assigned = true ∨ ofCentre = true) (hb : budgeted q = true)
    (hlt : sw.budget < extent f) :
    offerFrame assigned false ofCentre c q f sw =
      (discardFrame c .noRoom (.queue q) f sw, .discarded) := by
  rw [offerFrame_open ha, if_pos ⟨hb, hlt⟩]

theorem offerFrame_joins (ha : assigned = true ∨ ofCentre = true)
    (hb : budgeted q = true → extent f ≤ sw.budget)
    (hc : (queueFrames sw q).length < capacityOf q) :
    offerFrame assigned false ofCentre c q f sw =
      (setQueue q (queueFrames sw q ++ [f]) sw, .queued) := by
  rw [offerFrame_open ha, if_neg fun ⟨h, hlt⟩ => Nat.not_le.2 hlt (hb h), if_neg (Nat.not_le.2 hc)]

theorem offerFrame_full (ha : assigned = true ∨ ofCentre = true)
    (hb : budgeted q = true → extent f ≤ sw.budget)
    (hc : capacityOf q ≤ (queueFrames sw q).length) :
    offerFrame assigned false ofCentre c q f sw =
      if ofCentre then (discardFrame c .queueFull (.queue q) f sw, .discarded)
      else offerFull c q f sw := by
  rw [offerFrame_open ha, if_neg fun ⟨h, hlt⟩ => Nat.not_le.2 hlt (hb h), if_pos hc]

end Rows

/-! ## A full queue, by its owner (R53) -/

section Full
variable (c : Half) {q : QueueName} (f : Frame) (sw : FrameSwitch)

theorem offerFull_discards (hq : q = .vsig ∨ q = .mgmt ∨ q = .sign) :
    offerFull c q f sw = (discardFrame c .queueFull (.queue q) f sw, .discarded) := by
  rcases hq with rfl | rfl | rfl <;> rfl

theorem offerFull_returns (hq : q = .tollLive ∨ q = .tollDeferred) :
    offerFull c q f sw = (sw, .returned) := by
  rcases hq with rfl | rfl <;> rfl

/-- ALARM gives up its newest frame for the one offered. -/
theorem offerFull_alarm : offerFull c .alarm f sw =
    (setQueue .alarm (sw.alarm.dropLast ++ [f])
      (discardAll c .queueFull (.queue .alarm) (sw.alarm.drop sw.alarm.dropLast.length) sw),
      .queued) := rfl

/-- WX gives up its oldest frame for the one offered. -/
theorem offerFull_wx : offerFull c .wx f sw =
    (setQueue .wx (sw.wx.drop 1 ++ [f])
      (discardAll c .queueFull (.queue .wx) (sw.wx.take 1) sw), .queued) := rfl

/-- A queue that gives up one frame adds one to the count of its reason. -/
theorem discards_of_one_given_up (q : QueueName) (fs : List Frame) {lost : List Frame}
    (hl : lost.length = 1) :
    (setQueue q fs (discardAll c .queueFull (.queue q) lost sw)).discards.get
      (reasonIndex .queueFull) = bump (sw.discards.get (reasonIndex .queueFull)) := by
  rw [setQueue_discards, discardAll_count, if_pos rfl, hl, bumps_one]

end Full

/-! ## The frames of the node (R52) -/

/-- The offer of a frame of the node, when its row of R52 gives `r` (R52). -/
theorem offerOwn_eq {q : QueueName} {f : Frame} {s : State} {assigned isolated : Bool}
    {r : FrameSwitch × OfferResult} (ha : s.agent.address.isSome = assigned)
    (hi : isIsolated s = isolated)
    (h : offerFrame assigned isolated false s.timer.number q f s.sw = r) :
    offerOwn q f s = (s.modSw fun _ => r.1, r.2) := by
  subst ha hi h
  rfl

theorem sendVsig_handed {x : Target} {dest : Octet} {s : State} (m : VsigMsg)
    (h : s.agent.address = some dest) : sendVsig hand x dest m s = hand x m (countTaken s) :=
  if_pos h

theorem sendVsig_queued {x : Target} {dest : Octet} {s : State} (m : VsigMsg)
    (h : s.agent.address ≠ some dest) :
    sendVsig hand x dest m s = (offerOwn .vsig
      (completeFrame s dest svcVsig 0 (frameFlags false false) (openTag s) (encodeVsig m))
      s.spendOpen).1 :=
  if_neg h

/-! ## O17 -/

/-- Settles O17: the rows of R52 in order, and for a full queue the rows of R53. -/
theorem offerRows : Obligations.OfferRows := by
  unfold Obligations.OfferRows
  refine ⟨fun x dest m s => ⟨sendVsig_handed m, fun h => ⟨_, sendVsig_queued m h, rfl, rfl⟩⟩,
    fun cycle reason place f h w => ⟨recordDiscard_discarded .., recordDiscard_discarded ..,
      recordDiscard_discarded ..⟩, ?_⟩
  intro q f s r full admitted
  have hfull : admitted → full → r = (s.modSw fun _ => (offerFull s.timer.number q f s.sw).1,
      (offerFull s.timer.number q f s.sw).2) := fun ⟨ha, hi, hb⟩ hf =>
    offerOwn_eq ha hi (offerFrame_full (.inl rfl) hb hf)
  refine ⟨fun h => ?_, fun ha hi hb hlt => ?_, fun ⟨ha, hi, hb⟩ hf => ?_, fun hadm hf hq => ?_,
    fun hadm hf hq => ?_, fun hadm hf hq => ?_, fun hadm hf hq => ?_, offerOwn_changes q f s⟩
  · have hr : r = (s.modSw (discardFrame s.timer.number .noPath (.queue q) f), .discarded) := by
      rcases h with ha | hi
      · exact offerOwn_eq (by rw [ha]; rfl) rfl offerFrame_unassigned
      · exact offerOwn_eq rfl hi offerFrame_isolated
    rw [hr]
    exact ⟨rfl, rfl⟩
  · have hr : r = _ := offerOwn_eq ha hi (offerFrame_noRoom (.inl rfl) hb hlt)
    rw [hr]
    exact ⟨rfl, rfl⟩
  · have hr : r = _ := offerOwn_eq ha hi (offerFrame_joins (.inl rfl) hb (Nat.not_le.1 hf))
    rw [hr]
    exact ⟨(queueFrames_setQueue ..).trans (if_pos rfl), rfl, setQueue_discards ..,
      fun q' hne => (queueFrames_setQueue ..).trans (if_neg hne.symm)⟩
  · rw [hfull hadm hf, offerFull_discards _ _ _ hq]
    exact ⟨rfl, rfl⟩
  · rw [hfull hadm hf, offerFull_returns _ _ _ hq]
    exact ⟨rfl, rfl⟩
  · subst hq
    have hlen : 4 ≤ s.sw.alarm.length := hf
    rw [hfull hadm hf, offerFull_alarm]
    refine ⟨rfl, rfl, discards_of_one_given_up _ _ _ _ ?_⟩
    rw [List.length_drop, List.length_dropLast]
    omega
  · subst hq
    have hlen : 8 ≤ s.sw.wx.length := hf
    rw [hfull hadm hf, offerFull_wx]
    refine ⟨rfl, rfl, discards_of_one_given_up _ _ _ _ ?_⟩
    rw [List.length_take]
    omega

end Sys2Proof.Machine
end

section
/-! PROOFS. Frames offered and discarded, part 2: a frame handed to a block is the row of its message
(R44, R46), and what the blocks leave alone of it. -/

namespace Sys2Proof.Machine

set_option Elab.async false

/-! ## The hand-over and the rows of the messages (R44, R46, log 4) -/

theorem takeMgmtFrame_handed {s : State} (ha : awaitsAddress s = false) (f : Frame) :
    takeMgmtFrame .centre f s = agentTake .centre f s := by
  unfold takeMgmtFrame
  rw [if_neg (by simp [ha])]

section Toll
variable (via : Via) {channel : Octet} {p : Octets} (s : State)

theorem takeTollFrame_answer (h : channel = 4 ∧ p.length = 10) :
    takeTollFrame via channel p s =
      takeTollAnswer via { lane := octetAt p 0, txn := quadAt p 1 } (octetAt p 5) (quadAt p 6) s := by
  unfold takeTollFrame takeTollAnswer decodeToll
  cases via with
  | taken =>
    dsimp only
    rw [if_pos h]
    cases centreVerdict (octetAt p 5) <;> rfl
  | copy => rfl

theorem takeTollFrame_settled (h : channel = 5 ∧ p.length = 5) :
    takeTollFrame via channel p s = takeSettled via { lane := octetAt p 0, txn := quadAt p 1 } s := by
  have h4 : ¬ (channel = 4 ∧ p.length = 10) := by
    rintro ⟨-, hl⟩
    omega
  unfold takeTollFrame takeSettled decodeToll
  cases via with
  | taken =>
    dsimp only
    rw [if_neg h4, if_pos h]
  | copy => rfl

theorem decodeToll_other (h4 : ¬ (channel = 4 ∧ p.length = 10))
    (h5 : ¬ (channel = 5 ∧ p.length = 5)) : decodeToll via channel p = none := by
  unfold decodeToll
  cases via with
  | taken => exact (if_neg h4).trans (if_neg h5)
  | copy => rfl

end Toll

theorem ignoredToll_row {via : Via} {channel : Octet} {p : Octets} (s : State)
    (h : decodeToll via channel p = none) :
    exec (.tollFrameIgnored via channel p) s = .next (takeTollFrame via channel p s) := by
  have hrow : exec (.tollFrameIgnored via channel p) s =
      whenever (decodeToll via channel p).isNone ignoreToll s := rfl
  have htake : takeTollFrame via channel p s = ignoreToll s := by
    unfold takeTollFrame
    rw [h]
  rw [hrow, htake, h]
  rfl

/-- The Phone Interface's part: a slave's VSIG frame and its row. -/
theorem vsigRow_slave {f : Frame} {s : State} (hm : s.isMaster = false) (via : Via) :
    exec (vsigRow false via f.source f.payload) s = .next (handVsig via f s) := by
  have hignored : exec (.vsigFrameIgnored f.payload) s =
      whenever (!(decodeVsig f.payload).any phoneCanUse) ignoreVsig s := rfl
  unfold handVsig vsigRow
  cases hd : decodeVsig f.payload with
  | none =>
    rw [hm]
    dsimp only
    rw [hignored, hd]
    rfl
  | some m =>
    rw [hm]
    cases m with
    | callQueued ref place => rfl
    | planUpdate version switchCycle slots => rfl
    | _ =>
      dsimp only
      rw [hignored, hd]
      rfl

/-- A message of no node the allocator knows, or one it cannot use, is ignored. -/
theorem allocTake_ignored {source : Octet} {m : VsigMsg} {s : State}
    (hp : markPresent source s = s)
    (hm : ∀ n, allocMessage hand source n m s = ignoreAlloc s) :
    allocTake hand source m s = ignoreAlloc s := by
  unfold allocTake
  split
  · rfl
  · rw [hp, hm]

/-- The Slot Allocator's part: a VSIG frame on the master and its row. The row of an ignored frame
clears its source's absent flag, which the hand-over has found clear (R92). -/
theorem vsigRow_master {f : Frame} {s : State} (hm : s.isMaster = true)
    (hp : markPresent f.source s = s) (via : Via) :
    exec (vsigRow true via f.source f.payload) s = .next (handVsig via f s) := by
  have hignored : allocReads f.source f.payload = false →
      exec (.allocFrameIgnored f.source f.payload) s = .next (ignoreAlloc s) := fun hr => by
    refine Eq.trans (b := whenever (s.isMaster && !allocReads f.source f.payload)
      (fun s => ignoreAlloc (markPresent f.source s)) s) rfl ?_
    rw [hm, hr, Bool.not_false, Bool.and_true, whenever_true, hp]
  unfold handVsig vsigRow
  cases hd : decodeVsig f.payload with
  | none =>
    rw [hm]
    exact hignored (by rw [allocReads, hd]; rfl)
  | some m =>
    rw [hm]
    have hreads : (∀ n, allocMessage hand f.source n m s = ignoreAlloc s) →
        allocCanUse f.source m = false → exec (.allocFrameIgnored f.source f.payload) s =
          .next (allocTake hand f.source m s) := fun hn hc => by
      rw [allocTake_ignored hp hn]
      exact hignored (by rw [allocReads, hd]; exact hc)
    have hmaster : ∀ t : State → State, whenever s.isMaster t s = .next (t s) := fun t => by
      rw [hm, whenever_true]
    cases m with
    | callQueued ref place => exact hreads (fun _ => rfl) (Bool.and_false _)
    | planUpdate version switchCycle slots => exact hreads (fun _ => rfl) (Bool.and_false _)
    | _ => exact hmaster _

/-- A frame handed to the block its service names is the row of its message (R44, R46). -/
theorem exec_handedRow {f : Frame} {s : State} (ha : awaitsAddress s = false)
    (hp : s.isMaster = true → f.service = svcVsig → markPresent f.source s = s) (via : Via) :
    exec (handedRow s.isMaster via f) s = .next (handFrame via f s) := by
  unfold handedRow handFrame
  by_cases hmgmt : f.service = svcMgmt
  · rw [if_pos hmgmt, if_pos hmgmt]
    exact congrArg Host.Outcome.next (takeMgmtFrame_handed ha f)
  rw [if_neg hmgmt, if_neg hmgmt]
  by_cases halarm : f.service = svcAlarm
  · rw [if_pos halarm, if_pos halarm]
    rfl
  rw [if_neg halarm, if_neg halarm]
  by_cases htoll : f.service = svcToll
  · rw [if_pos htoll, if_pos htoll]
    by_cases h4 : f.channel = 4 ∧ f.payload.length = 10
    · rw [if_pos h4, takeTollFrame_answer via s h4]
      rfl
    by_cases h5 : f.channel = 5 ∧ f.payload.length = 5
    · rw [if_neg h4, if_pos h5, takeTollFrame_settled via s h5]
      rfl
    · rw [if_neg h4, if_neg h5]
      exact ignoredToll_row s (decodeToll_other via h4 h5)
  rw [if_neg htoll, if_neg htoll]
  by_cases hvsig : f.service = svcVsig
  · rw [if_pos hvsig, if_pos hvsig]
    cases hm : s.isMaster with
    | true => exact vsigRow_master hm (hp hm hvsig) via
    | false => exact vsigRow_slave hm via
  rw [if_neg hvsig, if_neg hvsig]
  by_cases hsign : f.service = svcSign
  · rw [if_pos hsign, if_pos hsign]
    rfl
  · rw [if_neg hsign, if_neg hsign]
    rfl

/-! ## What the blocks leave alone of a frame -/

/-- The parts that a frame may reach at a block that has an address (R44, R46). -/
abbrev blockParts : List Part :=
  [.agent, .sw, .openIndex, .out, .phone, .alloc, .toll, .journal, .wx, .cond, .sign]

theorem takeTaken_changes (a : Octet) (s : State) : Changes respondParts s (takeTaken a s) := by
  have hc : ∀ f s, Changes respondParts s (State.modAgent f s) := fun f s =>
    (modAgent_changes f s).mono (by decide)
  refine .ite (.ite (((hc _ _).trans (hc _ _)).trans (respond_changes _ _ _)) ?_) (hc _ _)
  exact (hc _ _).trans ((makeOffer_changes _ _).mono (by decide))

/-- What the agent makes of a frame of the ring or of the centre (R197, R208). -/
theorem agentTake_centre (f : Frame) (s : State) : agentTake .centre f s =
    match (if s.isMaster && !isResponse f then decodeTaken f.payload else none) with
    | some t => takeTaken t.1 s
    | none =>
      if isRequestFrame f && f.source == 0 then joinQueue .centre f s else ignoreMgmt s := rfl

theorem agentTake_changes (f : Frame) (s : State) :
    Changes respondParts s (agentTake .centre f s) := by
  have hc : ∀ f s, Changes respondParts s (State.modAgent f s) := fun f s =>
    (modAgent_changes f s).mono (by decide)
  rw [agentTake_centre]
  split
  · exact takeTaken_changes _ s
  · exact .ite (hc _ s) (hc _ s)

theorem handVsig_changes (via : Via) (f : Frame) (s : State) :
    Changes callParts s (handVsig via f s) := by
  unfold handVsig
  split
  · exact allocTake_changes hand_keeps _ _ s
  · exact (modAlloc_changes _ s).mono (by decide)
  · exact phoneTake_changes hand_keeps _ _ _ s
  · exact (modPhone_changes _ s).mono (by decide)

theorem takeSignFrame_changes (source : Octet) (p : Octets) (s : State) :
    Changes [.sign] s (takeSignFrame source p s) := by
  unfold takeSignFrame
  split
  · split <;> exact modSign_changes _ s
  · exact modSign_changes _ s
  · exact modSign_changes _ s

theorem handFrame_changes (via : Via) (f : Frame) (s : State) :
    Changes blockParts s (handFrame via f s) := by
  unfold handFrame
  exact .ite ((agentTake_changes f s).mono (by decide)) <|
    .ite ((modCond_changes _ s).mono (by decide)) <|
    .ite ((takeTollFrame_changes _ _ _ s).mono (by decide)) <|
    .ite ((handVsig_changes via f s).mono (by decide)) <|
    .ite ((takeSignFrame_changes _ _ s).mono (by decide)) ((modWx_changes _ s).mono (by decide))

theorem notePresent_changes (f : Frame) (s : State) : Changes callParts s (notePresent f s) :=
  .ite (markPresent_changes _ s) (.refl _ s)

theorem copyFrame_changes (f : Frame) (s : State) : Changes blockParts s (copyFrame f s) :=
  .ite ((((notePresent_changes f s).mono (by decide)).trans
    ((modSw_changes _ _).mono (by decide))).trans (handFrame_changes _ _ _)) (.refl _ s)

/-! ### The Frame Switch under a frame handed over -/

theorem takeTollFrame_sw (via : Via) (channel : Octet) (p : Octets) (s : State) :
    (takeTollFrame via channel p s).sw = s.sw := by
  unfold takeTollFrame
  split
  · unfold matchAnswer
    exact ite_of rfl (ite_of rfl rfl)
  · unfold settleRecord
    exact ite_of rfl rfl
  · rfl

/-- A frame that is no ADDRESS_TAKEN moves nothing but the agent. -/
theorem agentTake_sw {f : Frame} (h : decodeTaken f.payload = none) (s : State) :
    (agentTake .centre f s).sw = s.sw := by
  rw [agentTake_centre, h, ite_self]
  exact ite_of rfl rfl

theorem allocTake_stranger {source : Octet} (h : nodeOf source = none) (m : VsigMsg) (s : State) :
    allocTake hand source m s = ignoreAlloc s := by
  unfold allocTake
  rw [h]

/-- A VSIG frame of the centre is ignored by the Slot Allocator (R92). -/
theorem handVsig_centre {f : Frame} {s : State} (hm : s.isMaster = true) (h0 : f.source = 0)
    (via : Via) : handVsig via f s = ignoreAlloc s := by
  unfold handVsig
  rw [hm]
  cases decodeVsig f.payload with
  | none => rfl
  | some m => exact allocTake_stranger (by rw [h0]; rfl) m s

/-- The Frame Switch stands while a block takes a frame, an ADDRESS_TAKEN and call signalling
apart. -/
theorem handFrame_sw {f : Frame} {s : State}
    (hmgmt : f.service = svcMgmt → decodeTaken f.payload = none)
    (hvsig : f.service = svcVsig → s.isMaster = true ∧ f.source = 0) (via : Via) :
    (handFrame via f s).sw = s.sw := by
  unfold handFrame
  split
  · next h => exact agentTake_sw (hmgmt h) s
  split
  · rfl
  split
  · exact takeTollFrame_sw _ _ _ s
  split
  · next h =>
    obtain ⟨hm, h0⟩ := hvsig h
    rw [handVsig_centre hm h0]
    rfl
  · exact ite_of (takeSignFrame_changes _ _ s .sw (by decide)) rfl

/-! ### FRAMES_TAKEN under a frame handed over -/

theorem setQueue_taken (sw : FrameSwitch) (q : QueueName) (fs : List Frame) :
    (setQueue q fs sw).taken = sw.taken := by cases q <;> rfl

theorem setQueue_copies (sw : FrameSwitch) (q : QueueName) (fs : List Frame) :
    (setQueue q fs sw).copies = sw.copies := by cases q <;> rfl

theorem offerFrame_taken (assigned isolated ofCentre : Bool) (c : Half) (q : QueueName) (f : Frame)
    (sw : FrameSwitch) : (offerFrame assigned isolated ofCentre c q f sw).1.taken = sw.taken := by
  obtain ⟨r, p, fs, gs, he⟩ := offerFrame_cases assigned isolated ofCentre c q f sw
  rw [he, setQueue_taken, discardAll_eq]

theorem ite_taken {c : Prop} [Decidable c] {t u : State} {n : Nat} (ht : t.sw.taken = n)
    (hu : u.sw.taken = n) : (if c then t else u).sw.taken = n :=
  ite_of (g := fun u : State => u.sw.taken) ht hu

theorem respond_taken (h : Head) (r : Result) (s : State) : (respond h r s).sw.taken = s.sw.taken := by
  unfold respond
  dsimp only
  split
  · rfl
  · exact ite_taken (ite_taken rfl rfl) (offerFrame_taken ..)

theorem takeTaken_taken (a : Octet) (s : State) : (takeTaken a s).sw.taken = s.sw.taken :=
  ite_taken (ite_taken (respond_taken _ _ _) (offerFrame_taken ..)) rfl

/-- No block but those of call signalling can take a further frame within the hand-over. -/
theorem handFrame_taken {f : Frame} (hv : f.service ≠ svcVsig) (via : Via) (s : State) :
    (handFrame via f s).sw.taken = s.sw.taken := by
  cases hd : decodeTaken f.payload with
  | none => rw [handFrame_sw (fun _ => hd) (fun h => absurd h hv)]
  | some t =>
    by_cases hm : f.service = svcMgmt
    · have htake : handFrame via f s = agentTake .centre f s := if_pos hm
      rw [htake, agentTake_centre]
      split
      · exact takeTaken_taken _ s
      · exact ite_taken rfl rfl
    · rw [handFrame_sw (fun h => absurd h hm) (fun h => absurd h hv)]

end Sys2Proof.Machine
end

section
/-! PROOFS. Frames offered and discarded, part 3: the uplink port (R54) and the field terminal
(R55). -/

namespace Sys2Proof.Machine

set_option Elab.async false

/-! ## What the port reads (R42, R211, R212) -/

/-- Two octets spell a number exactly when they are the octets of that number. -/
theorem octets2_eq_iff {a b : Octet} {x : Half} : [a, b] = octets2 x ↔ half a b = x := by
  constructor
  · intro h
    unfold octets2 at h
    injection h with ha h
    injection h with hb
    rw [ha, hb, half_octets2]
  · rintro rfl
    have ha := a.isLt
    have hb := b.isLt
    have hhi : ((half a b) >>> 8).setWidth 8 = a := BitVec.eq_of_toNat_eq <| by
      simp only [BitVec.toNat_setWidth, BitVec.toNat_ushiftRight, toNat_half,
        Nat.shiftRight_eq_div_pow]
      omega
    have hlo : (half a b).setWidth 8 = b := BitVec.eq_of_toNat_eq <| by
      simp only [BitVec.toNat_setWidth, toNat_half]
      omega
    rw [octets2, hhi, hlo]

/-- The header check of twelve octets stands in the last two (R211). -/
theorem checkHolds_header {os : Octets} (h : 12 ≤ os.length) :
    checkHolds (os.take 12) = true ↔ halfAt os 10 = headerCheck (os.take 10) := by
  have hlen : (os.take 12).length = 12 := by
    rw [List.length_take]
    omega
  have hdrop : (os.take 12).drop 10 = [octetAt os 10, octetAt os 11] := by
    refine List.ext_getElem (by rw [List.length_drop, hlen]; rfl) fun i hi hj => ?_
    have hj : i < 2 := hj
    obtain rfl | rfl : i = 0 ∨ i = 1 := by omega
    · simp [octetAt, List.getD_eq_getElem?_getD, List.getElem?_eq_getElem (show 10 < os.length by omega)]
    · simp [octetAt, List.getD_eq_getElem?_getD, List.getElem?_eq_getElem (show 11 < os.length by omega)]
  have htake : (os.take 12).take 10 = os.take 10 := by
    rw [List.take_take]
    rfl
  unfold checkHolds
  rw [hlen, hdrop, htake, Bool.and_eq_true, beq_iff_eq, octets2_eq_iff]
  exact and_iff_right (by decide)

theorem readUplink_badHeader {os : Octets}
    (h : os.length < 12 ∨ halfAt os 10 ≠ headerCheck (os.take 10)) : readUplink os = .badHeader := by
  refine if_pos ?_
  by_cases hl : os.length < 12
  · exact .inl hl
  · refine .inr (Bool.not_eq_true _ ▸ fun hc => ?_)
    exact (h.resolve_left hl) ((checkHolds_header (Nat.not_lt.1 hl)).1 hc)

/-- A frame's own octets are read back as the frame that was sent (R212). -/
theorem readUplink_encode {f : Frame} (hf : frameFault f = none) (hp : f.payload.length ≤ 496) :
    readUplink (encodeFrame f) = .frame (asSent f) := by
  have hlen : (encodeFrame f).length = 16 + f.payload.length := length_encodeFrame f
  have hhead := frame_take_header f []
  have hpay := frame_length f [] hp
  have hframe := frameOf_encode f []
  rw [List.append_nil] at hhead hpay hframe
  have hok : ¬ ((encodeFrame f).length < 12 ∨ checkHolds ((encodeFrame f).take 12) = false) := by
    rw [hlen, hhead, checkHolds_withCheck]
    rintro (h | h)
    · omega
    · exact Bool.false_ne_true h.symm
  have hfault : frameFault (asSent f) = none := hf
  unfold readUplink
  rw [if_neg hok]
  rw [hpay, if_neg (Nat.not_lt.2 hp), hframe, hfault]
  exact if_pos hlen

/-- The checks of R42 in order, from the octets (R42, log 31). -/
theorem readUplink_checks {os : Octets} (hl : 12 ≤ os.length)
    (hc : halfAt os 10 = headerCheck (os.take 10)) :
    let len := (halfAt os 8).toNat
    let payload := (os.drop 12).take len
    readUplink os =
      (if 496 < len then .bad .tooLong (fieldsOf os)
       else if 241 ≤ (octetAt os 0).toNat ∧ (octetAt os 0).toNat ≤ 254 then
         .bad .badAddress (fieldsOf os)
       else if (octetAt os 2).toNat = 0 ∨ 6 < (octetAt os 2).toNat then .bad .badService (fieldsOf os)
       else if os.length = 16 + len ∧ quadAt os (12 + len) = payloadCheck payload then
         .frame { frameOf os len with check := payloadCheck payload }
       else .bad .payloadCheck (fieldsOf os)) := by
  intro len payload
  have hheader : ¬ (os.length < 12 ∨ checkHolds (os.take 12) = false) := by
    rintro (h | h)
    · omega
    · exact Bool.false_ne_true (h.symm.trans ((checkHolds_header hl).2 hc))
  refine (if_neg hheader).trans (if_congr Iff.rfl rfl ?_)
  by_cases ha : 241 ≤ (octetAt os 0).toNat ∧ (octetAt os 0).toNat ≤ 254
  · rw [if_pos ha, show frameFault (frameOf os len) = some .badAddress from if_pos ha]
  rw [if_neg ha]
  have hservice : (octetAt os 2).toNat = 0 ↔ octetAt os 2 = 0 :=
    ⟨fun h => BitVec.eq_of_toNat_eq h, fun h => by rw [h]; rfl⟩
  have hafter : frameFault (frameOf os len) =
      if (octetAt os 2).toNat = 0 ∨ 6 < (octetAt os 2).toNat then some .badService
      else if quadAt os (12 + len) ≠ payloadCheck payload then some .payloadCheck else none :=
    (if_neg ha).trans (if_congr (or_congr_left hservice.symm) rfl rfl)
  rw [hafter]
  by_cases hs : (octetAt os 2).toNat = 0 ∨ 6 < (octetAt os 2).toNat
  · rw [if_pos hs, if_pos hs]
  rw [if_neg hs, if_neg hs]
  by_cases hk : quadAt os (12 + len) = payloadCheck payload
  · rw [if_neg (not_not.2 hk), ← hk]
    exact if_congr (and_iff_left rfl).symm rfl rfl
  · rw [if_pos hk]
    exact (if_neg fun h => hk h.2).symm

/-! ## What the port does with what it has read (R54, R55) -/

section Port
variable {os : Octets} {s : State}

theorem exec_uplinkFrame (hm : s.isMaster = true) (hu : s.pins.uplinkUp = true) (os : Octets) :
    exec (.uplinkFrame os) s = .next (takeUplink os centreFrame s) := by
  refine Eq.trans (b := whenever (s.isMaster && s.pins.uplinkUp) (takeUplink os centreFrame) s) rfl ?_
  rw [hm, hu]
  rfl

theorem exec_fieldFrame (hm : s.isMaster = false) (os : Octets) :
    exec (.fieldFrame os) s = .next (takeUplink os fieldTerminalFrame s) := by
  refine Eq.trans (b := whenever (!s.isMaster) (takeUplink os fieldTerminalFrame) s) rfl ?_
  rw [hm]
  rfl

variable (good : Frame → State → State)

theorem takeUplink_badHeader (h : readUplink os = .badHeader) :
    takeUplink os good s = s.modSw (discardBadHeader s.timer.number .uplink) := by
  unfold takeUplink
  rw [h]

theorem takeUplink_bad {r : DiscardReason} {x : FrameFields} (h : readUplink os = .bad r x) :
    takeUplink os good s = s.modSw (discardFields s.timer.number r .uplink x) := by
  unfold takeUplink
  rw [h]

theorem takeUplink_frame {f : Frame} (h : readUplink os = .frame f) :
    takeUplink os good s = good f s := by
  unfold takeUplink
  rw [h]

end Port

/-! ### A frame of the centre (R54) -/

theorem centreFrame_nowhere {f : Frame} (h : f.dest = 0) (s : State) :
    centreFrame f s = s.modSw (discardFrame s.timer.number .badAddress .uplink f) := if_pos h

theorem centreFrame_taken {f : Frame} (h : f.dest = 1) (s : State) :
    centreFrame f s = handFrame .taken f (countTaken s) := by
  unfold centreFrame
  rw [if_neg (by rw [h]; decide), if_pos h]

/-- The master as a frame of the centre for the ring is offered: a broadcast has been copied (R46,
R54). -/
def beforeOffer (f : Frame) (s : State) : State := if f.dest = 255 then copyFrame f s else s

theorem centreFrame_ring {f : Frame} (h0 : f.dest ≠ 0) (h1 : f.dest ≠ 1) (s : State) :
    centreFrame f s = offerCentre f (beforeOffer f s) := by
  unfold centreFrame beforeOffer
  rw [if_neg h0, if_neg h1]
  split <;> rfl

theorem beforeOffer_changes (f : Frame) (s : State) : Changes blockParts s (beforeOffer f s) :=
  .ite (copyFrame_changes f s) (.refl _ s)

/-- The broadcasts of the centre that leave the queues to the offer: no ADDRESS_TAKEN, and no call
signalling of another source. -/
def PlainBroadcast (f : Frame) : Prop :=
  (f.service = svcMgmt → decodeTaken f.payload = none) ∧ (f.service = svcVsig → f.source = 0)

theorem notePresent_sw (f : Frame) (s : State) : (notePresent f s).sw = s.sw := by
  unfold notePresent markPresent
  refine ite_of ?_ rfl
  split <;> rfl

/-- A copy that the master takes is counted, and moves nothing else of the Frame Switch (R46). -/
theorem copyFrame_sw {f : Frame} {s : State} (hm : s.isMaster = true) (h : PlainBroadcast f) :
    (copyFrame f s).sw = { s.sw with
      copies := if copies s f then bump s.sw.copies else s.sw.copies } := by
  unfold copyFrame
  split
  · have hmaster : (notePresent f s).isMaster = true :=
      (notePresent_changes f s .isMaster (by decide)).trans hm
    rw [handFrame_sw (s := (notePresent f s).modSw _) h.1 (fun hv => ⟨hmaster, h.2 hv⟩),
      State.modSw_sw, notePresent_sw]
  · rfl

theorem copies_master {f : Frame} {s : State} (hm : s.isMaster = true) : copies s f = true ↔
    f.service = svcMgmt ∨ f.service = svcAlarm ∨ (f.service, f.channel) ∈ s.sw.accept := by
  simp [copies, hm, or_assoc]

theorem beforeOffer_sw {f : Frame} {s : State} (hm : s.isMaster = true)
    (h : f.dest = 255 → PlainBroadcast f) :
    (beforeOffer f s).sw = { s.sw with
      copies := if f.dest = 255 ∧ (f.service = svcMgmt ∨ f.service = svcAlarm ∨
        (f.service, f.channel) ∈ s.sw.accept) then bump s.sw.copies else s.sw.copies } := by
  unfold beforeOffer
  by_cases hd : f.dest = 255
  · rw [if_pos hd, copyFrame_sw hm (h hd)]
    simp only [copies_master hm, and_iff_right hd]
  · rw [if_neg hd, if_neg fun hc => hd hc.1]

theorem isIsolated_congr {s t : State} (hp : t.prot = s.prot) (hl : t.line = s.line) :
    isIsolated t = isIsolated s := by
  unfold isIsolated
  rw [hp, hl]

/-- A count of copies bears on no queue. -/
theorem queueFrames_copies (sw : FrameSwitch) (n : Nat) (q : QueueName) :
    queueFrames { sw with copies := n } q = queueFrames sw q := by cases q <;> rfl

/-- The offer of a frame of the centre, from the switch as the copy has left it (R54). -/
theorem centreFrame_offered {f : Frame} {s : State} (h0 : f.dest ≠ 0) (h1 : f.dest ≠ 1) :
    (centreFrame f s).sw = (offerFrame (beforeOffer f s).agent.address.isSome (isIsolated s) true
      s.timer.number (queueOf f.service) { f with hop := 250 } (beforeOffer f s).sw).1 := by
  have hc := beforeOffer_changes f s
  have htimer : (beforeOffer f s).timer = s.timer := hc .timer (by decide)
  rw [centreFrame_ring h0 h1, ← isIsolated_congr (hc .prot (by decide)) (hc .line (by decide)),
    ← htimer]
  rfl

theorem centreFrame_changes {f : Frame} (s : State) (h0 : f.dest ≠ 0) (h1 : f.dest ≠ 1) :
    Changes blockParts s (centreFrame f s) := by
  rw [centreFrame_ring h0 h1]
  exact (beforeOffer_changes f s).trans ((modSw_changes _ _).mono (by decide))

theorem centreFrame_changes_queued {f : Frame} (s : State) (h0 : f.dest ≠ 0) (h1 : f.dest ≠ 1)
    (h : f.dest ≠ 255) : Changes [.sw] s (centreFrame f s) := by
  rw [centreFrame_ring h0 h1, beforeOffer, if_neg h]
  exact modSw_changes _ s

/-! ### A frame of the field terminal (R55, R197, R198) -/

/-- A request is no address offer. -/
theorem decodeOffer_request {p : Octets} (h : isWalkMessage p = false) : decodeOffer p = none := by
  refine if_neg fun ⟨hl, h0⟩ => ?_
  have hcode : requestCode p = 64 := by
    rw [requestCode, hl, if_neg (by decide), natAt, h0]
    rfl
  rw [isWalkMessage, hcode] at h
  exact absurd h (by decide)

theorem agentTake_field {f : Frame} {s : State} (hm : s.isMaster = false)
    (hr : isRequestFrame f = true) : agentTake .field f s = joinQueue .field f s := by
  have hwalk : isWalkMessage f.payload = false := by
    rw [isRequestFrame, Bool.and_eq_true, Bool.not_eq_true'] at hr
    simpa using hr.2
  have hoffer : fieldOffer .field f s = none := by
    unfold fieldOffer
    rw [decodeOffer_request hwalk, ite_self]
  unfold agentTake
  rw [hoffer, hm, hr]
  rfl

theorem joinQueue_requests (origin : Origin) (f : Frame) (s : State) :
    (s.agent.requests.length < 4 → (joinQueue origin f s).agent.requests =
      s.agent.requests ++ [{ head := headOf origin f, payload := f.payload }]) ∧
    (4 ≤ s.agent.requests.length →
      (joinQueue origin f s).agent.requests = s.agent.requests ∧
      (joinQueue origin f s).agent.requestsDropped = bump s.agent.requestsDropped) := by
  unfold joinQueue
  rw [State.modAgent_agent]
  refine ⟨fun h => ?_, fun h => ?_⟩
  · rw [if_neg (Nat.not_le.2 h)]
  · rw [if_pos h]
    exact ⟨rfl, rfl⟩

/-! ## O19 -/

/-- Frames of the centre on the master, as O19 states them for a destination on the ring: the rows
of R52 from the switch as the copy has left it. -/
theorem uplinkFrame_ring {os : Octets} {f : Frame} {s : State} (hm : s.isMaster = true)
    (hu : s.pins.uplinkUp = true) (hr : readUplink os = .frame f) (h0 : f.dest ≠ 0)
    (h1 : f.dest ≠ 1) {counted : FrameSwitch} (hsw : (beforeOffer f s).sw = counted)
    (hb : counted.budget = s.sw.budget) (hd : counted.discards = s.sw.discards)
    (hq : ∀ q, queueFrames counted q = queueFrames s.sw q) :
    let queue := queueOf f.service
    let sent : Frame := { f with hop := 250 }
    ∃ t, exec (.uplinkFrame os) s = .next t ∧
      (isIsolated s = true →
        t.sw = discardFrame s.timer.number .noPath (.queue queue) sent counted) ∧
      (isIsolated s = false → budgeted queue = true → s.sw.budget < extent f →
        t.sw = discardFrame s.timer.number .noRoom (.queue queue) sent counted) ∧
      (isIsolated s = false → (budgeted queue = true → extent f ≤ s.sw.budget) →
        ((queueFrames s.sw queue).length < capacityOf queue →
          queueFrames t.sw queue = queueFrames s.sw queue ++ [sent] ∧
          t.sw.discards = s.sw.discards ∧ t.sw.copies = counted.copies) ∧
        (capacityOf queue ≤ (queueFrames s.sw queue).length →
          t.sw = discardFrame s.timer.number .queueFull (.queue queue) sent counted)) ∧
      (f.dest ≠ 255 → Changes [.sw] s t) ∧
      t.prot = s.prot ∧ t.line = s.line ∧ t.timer = s.timer := by
  intro queue sent
  have hc := centreFrame_changes s h0 h1
  have hoffered := centreFrame_offered (s := s) h0 h1
  rw [hsw] at hoffered
  refine ⟨centreFrame f s, (exec_uplinkFrame hm hu os).trans
    (congrArg _ (takeUplink_frame _ hr)), fun hi => ?_, fun hi hbud hlt => ?_,
    fun hi hbud => ⟨fun hroom => ?_, fun hfull => ?_⟩, centreFrame_changes_queued s h0 h1,
    hc .prot (by decide), hc .line (by decide), hc .timer (by decide)⟩
  · rw [hoffered, hi, offerFrame_isolated]
  · rw [hoffered, hi, offerFrame_noRoom (.inr rfl) hbud (hb ▸ hlt)]
  · rw [hoffered, hi, offerFrame_joins (.inr rfl) (fun h => hb ▸ hbud h) ((hq queue).symm ▸ hroom)]
    refine ⟨?_, (setQueue_discards ..).trans hd, setQueue_copies ..⟩
    rw [queueFrames_setQueue, if_pos rfl, hq]
  · rw [hoffered, hi, offerFrame_full (.inr rfl) (fun h => hb ▸ hbud h) ((hq queue).symm ▸ hfull)]
    rfl

/-- Settles O19: the port reads the octets, and each frame read goes the way of its destination. -/
theorem uplinkPortFrames : Obligations.UplinkPortFrames := by
  unfold Obligations.UplinkPortFrames
  refine ⟨?_, ?_⟩
  · intro os r h f s queue sent ring copied counted plain
    refine ⟨fun hm hu => ?_, fun hm => ?_⟩
    · have hexec := exec_uplinkFrame hm hu os
      have hgood : readUplink os = .frame f → exec (.uplinkFrame os) s = .next (centreFrame f s) :=
        fun hr => hexec.trans (congrArg _ (takeUplink_frame _ hr))
      refine ⟨fun hr => hexec.trans (congrArg _ (takeUplink_badHeader _ hr)),
        fun hr => hexec.trans (congrArg _ (takeUplink_bad _ hr)),
        fun hr hd => (hgood hr).trans (congrArg _ (centreFrame_nowhere hd s)),
        fun hr hd hs => ?_, fun hr hd hv => ?_, fun hr hd hv hs => ?_, fun hr hring hplain => ?_⟩
      · rw [hgood hr, centreFrame_taken hd]
        have hrow := exec_handedRow (f := f) (s := countTaken s) (by simp [awaitsAddress, countTaken, hm])
          (fun _ _ => by rw [hs]; rfl) .taken
        rw [show (countTaken s).isMaster = true from hm] at hrow
        exact hrow.symm
      · rw [hgood hr, centreFrame_taken hd]
        have hc := handFrame_changes .taken f (countTaken s)
        exact ⟨_, rfl, handFrame_taken hv .taken _, hc .prot (by decide), hc .line (by decide),
          hc .timer (by decide)⟩
      · have hvsig : handFrame .taken f (countTaken s) = handVsig .taken f (countTaken s) := by
          unfold handFrame
          rw [hv]
          rfl
        rw [hgood hr, centreFrame_taken hd, hvsig, handVsig_centre (s := countTaken s) hm hs]
        rfl
      · have h0 : f.dest ≠ 0 := fun h => by
          rcases hring with hd | ⟨hd, -⟩ <;> rw [h] at hd <;> exact absurd hd (by decide)
        have h1 : f.dest ≠ 1 := fun h => by
          rcases hring with hd | ⟨hd, -⟩ <;> rw [h] at hd <;> exact absurd hd (by decide)
        exact uplinkFrame_ring hm hu hr h0 h1 (beforeOffer_sw hm hplain) rfl rfl
          (queueFrames_copies s.sw _)
    · have hexec := exec_fieldFrame hm os
      have hgood : readUplink os = .frame f →
          exec (.fieldFrame os) s = .next (fieldTerminalFrame f s) :=
        fun hr => hexec.trans (congrArg _ (takeUplink_frame _ hr))
      refine ⟨fun hr => hexec.trans (congrArg _ (takeUplink_badHeader _ hr)),
        fun hr => hexec.trans (congrArg _ (takeUplink_bad _ hr)),
        fun hr hs => (hgood hr).trans (congrArg _ (if_neg hs)), fun hr hs hreq => ?_⟩
      have htake : fieldTerminalFrame f s = joinQueue .field f s :=
        (if_pos hs).trans (agentTake_field hm hreq)
      obtain ⟨hjoins, hdrops⟩ := joinQueue_requests .field f s
      exact ⟨_, (hgood hr).trans (congrArg _ htake), hjoins, hdrops, modAgent_changes _ s⟩
  · intro os f len fields payload read dest service
    exact ⟨readUplink_encode, readUplink_badHeader, readUplink_checks⟩

end Sys2Proof.Machine
end

section
/-! PROOFS. READ, part 1: the entries that fit, the tables of R201, and the fields of an entry in the
encoding of R214. -/

namespace Sys2Proof.Machine

set_option Elab.async false

/-! ## The entries returned (R201) -/

/-- What fits into a payload is a run of entries from the first, and the next one does not fit. -/
theorem takeFit_run (room : Nat) (es : List Octets) : ∃ n ≤ es.length, takeFit room es = es.take n ∧
    (es.take n).flatten.length ≤ room ∧
    ∀ e ∈ es[n]?, room < (es.take n).flatten.length + e.length := by
  induction es generalizing room with
  | nil => exact ⟨0, Nat.le_refl _, rfl, Nat.zero_le _, nofun⟩
  | cons e es ih =>
    by_cases h : e.length ≤ room
    · obtain ⟨n, hn, htake, hlen, hnext⟩ := ih (room - e.length)
      refine ⟨n + 1, Nat.succ_le_succ hn, ?_, ?_, fun x hx => ?_⟩
      · rw [takeFit, if_pos h, htake, List.take_succ_cons]
      · rw [List.take_succ_cons, List.flatten_cons, List.length_append]
        omega
      · have := hnext x (by simpa using hx)
        rw [List.take_succ_cons, List.flatten_cons, List.length_append]
        omega
    · refine ⟨0, Nat.zero_le _, if_neg h, Nat.zero_le _, fun x hx => ?_⟩
      obtain rfl : e = x := by simpa using hx
      simpa using h

/-- READ from an index of the table: as many entries as asked, present, and fitting whole (R201). -/
theorem readFrom_entries (x : Table) (table first count : Nat) :
    ∃ n, n ≤ min count (x.present - (first - x.lo)) ∧
      (let entries := (List.range n).flatMap fun i => x.entry (first - x.lo + i)
       readFrom x table first count =
         .data (octet table) (BitVec.ofNat 16 first) n x.present entries ∧
       entries.length ≤ 488 ∧
       (n < min count (x.present - (first - x.lo)) →
         488 < entries.length + (x.entry (first - x.lo + n)).length)) := by
  generalize hm : min count (x.present - (first - x.lo)) = m
  let entry := fun i => x.entry (first - x.lo + i)
  obtain ⟨n, hn, htake, hlen, hnext⟩ := takeFit_run readRoom ((List.range m).map entry)
  rw [List.length_map, List.length_range] at hn
  have hrun : ((List.range m).map entry).take n = (List.range n).map entry := by
    rw [← List.map_take, List.take_range, Nat.min_eq_left hn]
  rw [hrun] at htake hlen hnext
  rw [← List.flatMap_def] at hlen hnext
  refine ⟨n, hn, ?_, hlen, fun hlt => hnext _ ?_⟩
  · rw [readFrom, hm, htake, readData, List.length_map, List.length_range, ← List.flatMap_def]
  · rw [List.getElem?_map, List.getElem?_range hlt]
    rfl

theorem readTable_noTable {s : State} {table : Nat} (h : tableOf s table = none) (first count : Nat) :
    readTable s table first count = refusal .badTable := by
  unfold readTable
  rw [h]

theorem readTable_table {s : State} {table : Nat} {x : Table} (h : x ∈ tableOf s table)
    (first count : Nat) : readTable s table first count =
      if first < x.lo ∨ x.lo + x.size ≤ first then refusal .badIndex
      else readFrom x table first count := by
  unfold readTable
  rw [Option.mem_def.1 h]

theorem exec_read {h : Head} {s : State} (hp : Permitted h 1 s) (table first count : Nat) :
    exec (.read h table first count) s = .next (answered (.read h table first count) h
      (readTable (countRequest h s) table first count) (countRequest h s)) :=
  congrArg Host.Outcome.next (execRequest_permitted hp _ _)

/-! ## The entry at an index -/

/-- The octets of an index of a list: none past its end. -/
def entryOf {α : Type} (xs : List α) (f : α → Octets) (i : Nat) : Octets := ((xs[i]?).map f).getD []

theorem entryOf_mem {α : Type} {xs : List α} {i : Nat} {a : α} (h : a ∈ xs[i]?) (f : α → Octets) :
    entryOf xs f i = f a := by
  rw [entryOf, Option.mem_def.1 h]
  rfl

theorem entryOf_tab {α : Type} {n : Nat} (t : Tab α n) (k : Fin n) (f : α → Octets) :
    entryOf t.data f k.val = f (t.get k) := by
  have hk : k.val < t.data.length := by
    rw [t.size]
    exact k.isLt
  exact entryOf_mem (List.getElem?_eq_getElem hk) f

theorem entryOf_indices {n : Nat} (k : Fin n) (f : Fin n → Octets) :
    entryOf (indices n) f k.val = f k := by
  refine entryOf_mem ?_ f
  rw [indices, Option.mem_def, List.getElem?_eq_getElem (by simp), List.getElem_finRange]
  rfl

theorem entryOf_range {n i : Nat} (h : i < n) (f : Nat → Octets) :
    entryOf (List.range n) f i = f i :=
  entryOf_mem (List.getElem?_range h) f

/-- The entry of a table of a fixed number of entries, read from its list. -/
theorem entry_fixed {α : Type} {s : State} {table lo size : Nat} {xs : List α} {f : α → Octets}
    (h : tableOf s table = some (fixed lo size xs f)) (i : Nat) :
    ((tableOf s table).map fun x => x.entry i).getD [] = entryOf xs f i := by
  rw [h]
  rfl

/-! ## Fields (R214, log 15) -/

theorem flag_eq (b : Bool) : flag b = if b then [1] else [0] := by cases b <;> rfl

theorem setClear_eq (b : Bool) : setClear b = flag (!b) := by cases b <;> rfl

theorem onOff_eq (b : Bool) : onOff b = flag (!b) := by cases b <;> rfl

theorem n1_ite (c : Prop) [Decidable c] :
    n1 (if c then 0 else 1) = [if c then 0 else 1] := by split <;> rfl

/-- Numbers of four octets, one after another. -/
theorem quads_cons (n : Nat) (ns : List Nat) : (n :: ns).flatMap n4 = n4 n ++ ns.flatMap n4 :=
  List.flatMap_cons

/-- A list within its places is sent whole: its count, its items, fill. -/
theorem listField_eq {α : Type} {n size : Nat} {xs : List α} {f : α → Octets}
    (hsize : ∀ x, (f x).length = size) (h : xs.length ≤ n) :
    listField n size (xs.map f) =
      n1 xs.length ++ xs.flatMap f ++ List.replicate (n * size - size * xs.length) 0 := by
  have htake : (xs.map f).take n = xs.map f := List.take_of_length_le (by simpa using h)
  have hlen : (xs.flatMap f).length = size * xs.length := by
    clear h htake
    induction xs with
    | nil => rfl
    | cons x xs ih => rw [List.flatMap_cons, List.length_append, ih, hsize, List.length_cons]; ring
  unfold listField
  dsimp only
  rw [htake, List.length_map, ← List.flatMap_def, hlen]

/-! ## Entries whose fields are grouped otherwise than in R214 -/

theorem lineEntry_eq (p : LinePort) : lineEntry p =
    n1 (rxCode p.rx) ++ octets2 p.entryCycle ++
      n1 (match p.entryFrom with | .fromDown => 0 | .fromUp => 1) ++ n1 p.alignRun ++
      [p.errorRun, p.farEndRun].flatMap n4 ++ flag p.faulted ++ n1 (reasonOfPort p.reason) ++
      [p.headerErrors, p.portFaults, p.portRecoveries].flatMap n4 := by
  have hfrom : (if p.entryFrom = .fromDown then 0 else 1) =
      (match p.entryFrom with | .fromDown => 0 | .fromUp => 1) := by
    cases p.entryFrom <;> rfl
  unfold lineEntry
  rw [hfrom]
  simp only [quads_cons, List.flatMap_nil, List.append_nil, List.append_assoc]

theorem protectionEntry_eq (s : State) : protectionEntry s =
    n1 (protCode s.prot.state) ++ n1 (forcedCode s.prot.forced) ++
      [if s.prot.linked then 0 else 1] ++ n1 s.prot.age ++ flag s.timer.holdover ++
      [s.prot.changes, s.prot.isolations].flatMap n4 := by
  unfold protectionEntry
  rw [n1_ite]
  simp only [quads_cons, List.flatMap_nil, List.append_nil, List.append_assoc]

theorem switchEntry_eq (sw : FrameSwitch) : switchEntry sw =
    (sw.discards.data ++ [sw.zoneLost, sw.stripped, sw.taken, sw.toCentre, sw.copies, sw.passed] ++
      sw.added.data).flatMap n4 ++
    [octet sw.alarm.length, octet sw.vsig.length, octet sw.tollLive.length, octet sw.mgmt.length,
      octet sw.tollDeferred.length, octet sw.sign.length, octet sw.wx.length] ++
    n2 sw.budget ++ n2 (extents sw.holding) ++ n1 sw.holding.length := by
  have hlengths : (allQueues.flatMap fun q => n1 (queueFrames sw q).length) =
      [octet sw.alarm.length, octet sw.vsig.length, octet sw.tollLive.length,
        octet sw.mgmt.length, octet sw.tollDeferred.length, octet sw.sign.length,
        octet sw.wx.length] := rfl
  unfold switchEntry
  rw [hlengths]
  simp only [List.flatMap_append, quads_cons, List.flatMap_nil, List.append_nil, List.append_assoc]

/-- The tone a call state gives, as its octet (R64, R67). -/
theorem toneCode_eq (c : CallState) : toneCode (toneOf c) =
    match c with
    | .waiting => 1
    | .held => 1
    | .dropped => 2
    | .ringing => 3
    | _ => 0 := by cases c <;> rfl

theorem phoneEntry_eq (s : State) (q : Fin 4) : phoneEntry s q =
    n1 (callCode (posAt s q).call) ++
      n1 (match (posAt s q).call with
        | .waiting => 1
        | .held => 1
        | .dropped => 2
        | .ringing => 3
        | _ => 0) ++
      [if (posAt s q).debounced = .on then 0 else 1] ++ flag (posAt s q).priority ++
      flag (posAt s q).resume ++ flag (posAt s q).answer ++ opt1 (posAt s q).place ++
      opt1 ((bankEntry s q).map (·.up.val)) ++ opt1 ((bankEntry s q).map (·.down.val)) := by
  simp only [phoneEntry, toneCode_eq, n1_ite]

theorem slotEntry_eq (x : SlotState) : slotEntry x =
    match x with
    | .free => [0, 255, 255]
    | .held n mark => [1, octet (n.val + 1), if mark then 0 else 1] := by cases x <;> rfl

theorem waitingEntry_eq (w : WaitingEntry) : waitingEntry w =
    [octet (w.node.val + 1), octet w.position.val, if w.priority then 0 else 1] := by
  unfold waitingEntry
  rw [n1_ite]
  rfl

theorem planRecordEntry_eq (r : PlanRecord) : planRecordEntry r =
    [r.lastIssued, r.accepted.version] ++ octets2 r.accepted.switchCycle ++
      encodeEntries r.accepted.entries ++ flag r.comeRound ++
      opt1 (r.inFlight.map (·.plan.version.toNat)) ++
      opt2 (r.inFlight.map (·.plan.switchCycle.toNat)) ++
      (match r.inFlight with
       | none => List.replicate 8 0xFF
       | some f => encodeEntries f.plan.entries) ++
      opt1 (r.inFlight.map (·.sends)) ++ flag r.absent ++ opt2 r.quarantine := by
  unfold planRecordEntry
  cases r.inFlight <;> rfl

theorem journalEntry_eq (r : JournalRecord) : journalEntry r =
    [r.key.lane] ++ octets4 r.key.txn ++ r.block ++ n1 (journalVerdictCode r.verdict) ++
      [r.journalledAt].flatMap n4 ++ n1 r.offers ++ flag r.inFlight.isSome ++ opt2 r.inFlight := by
  unfold journalEntry
  rw [quads_cons, List.flatMap_nil, List.append_nil]
  rfl

theorem channelEntry_eq (t : ChannelEntry) : channelEntry t =
    n1 (sourceCode t.source) ++ n2 t.period ++ n2 t.zero ++ signed2 t.gain ++ signed2 t.offset ++
      n1 t.window ++ n1 t.shift ++ flag t.compareLong ++ signed2 t.highSet ++ signed2 t.highClear ++
      signed2 t.lowSet ++ signed2 t.lowClear ++ flag (!t.highEnable) ++ flag (!t.lowEnable) ++
      n1 t.persist ++ n2 t.interval := by
  unfold channelEntry
  rw [onOff_eq, onOff_eq]

/-- The inputs of the Weather Sampler: twelve analog ones, then four pulse inputs (R158). -/
theorem entryOf_analog (s : State) (k : Fin 12) :
    entryOf (s.wx.analog.data.map analogEntry ++ s.wx.pulses.data.map pulseEntry) id k.val =
      analogEntry (s.wx.analog.get k) := by
  have hk : k.val < (s.wx.analog.data.map analogEntry).length := by
    rw [List.length_map, s.wx.analog.size]
    exact k.isLt
  refine entryOf_mem (a := analogEntry (s.wx.analog.get k)) ?_ id
  rw [Option.mem_def, List.getElem?_append_left hk, List.getElem?_eq_getElem hk, List.getElem_map]
  rfl

theorem entryOf_pulse (s : State) (k : Fin 4) :
    entryOf (s.wx.analog.data.map analogEntry ++ s.wx.pulses.data.map pulseEntry) id (12 + k.val) =
      pulseEntry (s.wx.pulses.get k) := by
  have hlen : (s.wx.analog.data.map analogEntry).length = 12 := by
    rw [List.length_map, s.wx.analog.size]
  have hk : k.val < (s.wx.pulses.data.map pulseEntry).length := by
    rw [List.length_map, s.wx.pulses.size]
    exact k.isLt
  refine entryOf_mem (a := pulseEntry (s.wx.pulses.get k)) ?_ id
  rw [Option.mem_def, List.getElem?_append_right (by omega), hlen, Nat.add_sub_cancel_left,
    List.getElem?_eq_getElem hk, List.getElem_map]
  rfl

theorem pulseEntry_eq (b : PulseInput) :
    pulseEntry b = opt2 none ++ opt4 none ++ flag b.level ++ opt2 (some b.count) := by
  unfold pulseEntry
  cases b.level <;> rfl

theorem tollStatusEntry_eq {t : TollRelay} (h : t.pendingTable.length ≤ 16) (j : TollJournal) :
    tollStatusEntry t j =
      n1 t.pendingTable.length ++ t.pendingTable.flatMap pendingField ++
      List.replicate (144 - 9 * t.pendingTable.length) 0 ++ n1 t.answers.length ++ n2 t.tToll ++
      (tollCounts t).flatMap n4 ++ n2 j.records.length ++
      n2 (j.records.length - inFlightCount j) ++ n1 (inFlightCount j) ++
      opt4 (j.records.head?.map (·.journalledAt)) ++ n1 j.drain ++ (journalCounts j).flatMap n4 := by
  unfold tollStatusEntry
  rw [listField_eq (f := pendingField) (size := 9) (fun _ => rfl) h]

theorem weatherEntry_eq {w : ChannelState} (h : w.window.length ≤ 16) : weatherEntry w =
    n1 w.window.length ++ w.window.flatMap signed2 ++
    List.replicate (32 - 2 * w.window.length) 0 ++ optSigned w.mean ++ optSigned w.long ++
    optSigned (w.extremes.map (·.peak)) ++ optSigned (w.extremes.map (·.trough)) ++
    flag w.high ++ flag w.low ++ n1 w.highCount ++ n1 w.lowCount ++ n1 w.railRun ++ n1 w.goodRun ++
    flag w.fault ++ flag w.saturated ++ n2 w.ticks ++ n2 w.toReport ++ n2 w.since := by
  unfold weatherEntry
  rw [listField_eq (f := signed2) (size := 2) (fun _ => rfl) h]

theorem eventEntry_eq (e : EventSetting) : eventEntry e = n1 e.level ++ flag (!e.fall) := by
  rw [eventEntry, onOff_eq]

theorem pendingEventEntry_eq (e : PendingEvent) : pendingEventEntry e =
    n1 e.condition.val ++ flag (!e.rise) ++ n1 e.level ++ [e.stamp].flatMap n4 ++
      n1 e.repeats := by
  have hrise : n1 (if e.rise then 0 else 1) = flag (!e.rise) := by cases e.rise <;> rfl
  unfold pendingEventEntry
  rw [hrise, quads_cons, List.flatMap_nil, List.append_nil]

theorem pageEntry_eq {d : Option Descriptor} (h : (d.getD []).length ≤ 8) :
    pageEntry d = pageOctets (d.getD []) :=
  listField_eq (fun _ => rfl) h

theorem ruleEntry_eq (r : SignRule) : ruleEntry r =
    n1 r.condA.val ++ flag (!r.senseA) ++ opt1 (r.condB.map (·.val)) ++
      opt1 (r.condB.map fun _ => if r.senseB then 0 else 1) ++ n1 r.page.val ++ n1 r.priority ++
      flag (!r.enabled) := by
  have hsense : (if r.condB.isSome then setClear r.senseB else opt1 none) =
      opt1 (r.condB.map fun _ => if r.senseB then 0 else 1) := by
    cases r.condB with
    | none => rfl
    | some c => exact (n1_ite _).symm
  unfold ruleEntry
  rw [hsense, setClear_eq, onOff_eq]

/-- The source of the sign's selection and the index of its rule (R194, R214). -/
def selectionOctets : SignSource → Octets
  | .centre => [0, 255]
  | .rule k => [1, octet k.val]
  | .test => [2, 255]
  | .default => [3, 255]

theorem selectionOctets_eq (x : SignSource) :
    n1 (selectionSource x) ++ opt1 (signRuleIndex x) = selectionOctets x := by cases x <;> rfl

/-- The exchange in progress, with the page and attempt of a transfer (R194, R214). -/
def exchangeOctets : Exchange → Octets
  | .none => [255, 255, 255]
  | .transfer p a => [0, octet p.val, octet a]
  | .poll => [1, 255, 255]

theorem signStatusEntry_eq (copy : Tab Bool 64) (g : SignController) : signStatusEntry copy g =
    n1 g.selection.page.val ++ n1 g.selection.priority ++ selectionOctets g.selection.source ++
      opt4 g.hold ++ flag g.stale ++ opt1 (g.centre.map (·.page.val)) ++
      opt1 (g.centre.map (·.priority)) ++ opt2 (g.centre.map (·.lifetime)) ++
      opt4 (g.centre.map (·.elapsed)) ++ opt1 (g.test.map (·.page.val)) ++
      opt2 (g.test.map (·.elapsed)) ++ (g.rules.data.flatMap fun r => flag (ruleActive copy g r)) ++
      n1 (senderCode g.sender.state) ++ exchangeOctets g.sender.exchange ++
      flag g.sender.owed ++ flag g.sender.undelivered ++ opt1 (g.sender.displayed.map (·.val)) ++
      octets2 g.sender.faultFlags ++ opt1 (g.sender.lastReject.map (·.toNat)) ++
      n1 g.sender.missedPolls ++ flag g.sender.signFail := by
  rw [← selectionOctets_eq]
  unfold signStatusEntry
  dsimp only
  cases g.sender.exchange <;> simp only [List.append_assoc] <;> rfl

theorem agentEntry_eq (s : State) :
    let a := s.agent
    let w := if s.isMaster then some a.walk else none
    agentEntry s =
      opt1 (a.address.map (·.toNat)) ++ flag a.address.isSome ++ flag a.fieldLock ++
      n1 a.requests.length ++ opt1 (w.map fun w => if w.running then 1 else 0) ++
      opt1 (w.map (·.onOffer.toNat)) ++ opt1 (w.map (·.given)) ++ opt2 (w.bind (·.timer)) ++
      opt2 (w.map (·.head.tag.toNat)) ++ opt1 (w.map (·.head.source.toNat)) ++
      (agentCounts a).flatMap n4 := by
  simp only [agentEntry, walkField, List.append_assoc]

end Sys2Proof.Machine
end

section
/-! PROOFS. READ, part 2: every table, as O49 states it. -/

namespace Sys2Proof.Machine

set_option Elab.async false

/-- Settles O49: the checks and the entries of a READ, then the entries of the tables one by one. -/
theorem readTables : Obligations.ReadTables := by
  unfold Obligations.ReadTables
  refine ⟨fun h table first count s => ⟨rfl, fun hp => exec_read hp table first count,
    fun hn => readTable_noTable hn first count, fun x hx => ⟨fun hout => ?_, fun hlo hhi => ?_⟩⟩, ?_⟩
  · exact (readTable_table hx first count).trans (if_pos hout)
  · obtain ⟨n, hn, hdata, hroom, hnext⟩ := readFrom_entries x table first count
    have hin : ¬ (first < x.lo ∨ x.lo + x.size ≤ first) := by omega
    exact ⟨n, hn, ((readTable_table hx first count).trans (if_neg hin)).trans hdata, hroom, hnext⟩
  · intro i q k4 k7 k12 c k k63 k64 n s entry one set may1 may2 may4 mayWx fours
    have hset : set = flag := funext fun b => (flag_eq b).symm
    clear_value set
    subst hset
    exact ⟨
      -- Line, ring settings and protection (R7, R12, R39), the Frame Switch (R49, R51, R61).
      ⟨lineEntry_eq s.line.w, lineEntry_eq s.line.e⟩, rfl, protectionEntry_eq s,
      switchEntry_eq s.sw, fun r hr => entryOf_mem hr discardEntry,
      fun x hx => entryOf_mem hx fun p => [p.1, p.2],
      -- Telephones and voice slots (R82, R103).
      (entryOf_indices q (phoneEntry s)).trans (phoneEntry_eq s q), rfl,
      (entryOf_tab s.alloc.slots k slotEntry).trans (slotEntry_eq _),
      fun hi => entryOf_range hi fun j => callTableEntry s.alloc.calls[j]?,
      fun w hw => (entryOf_mem hw waitingEntry).trans (waitingEntry_eq w),
      (entryOf_tab s.alloc.plans n planRecordEntry).trans (planRecordEntry_eq _), rfl,
      -- Tolls and the journal (R115, R117, R118, R125, R126, R138).
      rfl, entryOf_tab s.toll.classes k7 flag, fun hp => tollStatusEntry_eq hp s.journal,
      fun t ht => entryOf_mem ht fun t => octetsOf 12 t.toNat,
      fun r hr _ => (entryOf_mem hr journalEntry).trans (journalEntry_eq r),
      -- Weather channels and inputs (R141, R158).
      (entryOf_tab s.wx.table c channelEntry).trans (channelEntry_eq _), entryOf_analog s k12,
      (entryOf_pulse s k4).trans (pulseEntry_eq _),
      fun hw => (entryOf_tab s.wx.work c weatherEntry).trans (weatherEntry_eq hw),
      -- Conditions and events (R163, R164, R166, R173).
      entryOf_tab s.cond.copy k64 flag,
      (entryOf_tab s.cond.table k64 eventEntry).trans (eventEntry_eq _),
      fun e he => (entryOf_mem he pendingEventEntry).trans (pendingEventEntry_eq e), rfl,
      -- The sign (R176, R185, R186, R194) and the agent (R210).
      (entryOf_tab s.sign.rules c ruleEntry).trans (ruleEntry_eq _),
      fun hd => (entryOf_tab s.sign.pages k63 pageEntry).trans (pageEntry_eq hd),
      fun hi => (entry_fixed (table := 28) (xs := List.range 512) rfl i).trans (entryOf_range hi _),
      rfl, signStatusEntry_eq s.cond.copy s.sign, agentEntry_eq s⟩

end Sys2Proof.Machine
end

section
/-! PROOFS. Frames switched, part 1: the accept table and the deny list (O20). -/

namespace Sys2Proof.Machine

set_option Elab.async false

/-! ## Pairs and tags put in their places (R49, R118) -/

theorem insertPair_perm (x : Octet × Octet) (xs : List (Octet × Octet)) :
    (insertPair x xs).Perm (x :: xs) := by
  induction xs with
  | nil => exact .refl _
  | cons y ys ih =>
    unfold insertPair
    split
    · exact .refl _
    · exact (ih.cons y).trans (.swap x y ys)

theorem insertTag_perm (t : TagId) (ts : List TagId) : (insertTag t ts).Perm (t :: ts) := by
  induction ts with
  | nil => exact .refl _
  | cons x xs ih =>
    unfold insertTag
    split
    · exact .refl _
    · exact (ih.cons x).trans (.swap t x xs)

/-- A tag that a strictly ascending list does not hold joins it in its place. -/
theorem insertTag_ascending {t : TagId} {ts : List TagId} (ht : t ∉ ts) (h : ts.Pairwise (· < ·)) :
    (insertTag t ts).Pairwise (· < ·) := by
  induction ts with
  | nil => exact List.pairwise_singleton ..
  | cons x xs ih =>
    obtain ⟨hx, hxs⟩ := List.pairwise_cons.1 h
    unfold insertTag
    split
    · next hlt =>
      exact List.pairwise_cons.2 ⟨fun y hy => (List.mem_cons.1 hy).elim (fun e => e ▸ hlt)
        fun hy => BitVec.lt_trans hlt (hx y hy), h⟩
    · next hge =>
      have hne : t ≠ x := fun e => ht (e ▸ List.mem_cons_self)
      have hlt : x < t := by
        have hn : t.toNat ≠ x.toNat := fun e => hne (BitVec.eq_of_toNat_eq e)
        rw [BitVec.lt_def] at hge ⊢
        omega
      refine List.pairwise_cons.2 ⟨fun y hy => ?_, ih (fun hy => ht (List.mem_cons_of_mem x hy)) hxs⟩
      rcases List.mem_cons.1 ((insertTag_perm t xs).mem_iff.1 hy) with rfl | hy
      · exact hlt
      · exact hx y hy

/-! ## What a response leaves of the Frame Switch (R199) -/

/-- A response moves at most one queue and the discards of the switch. -/
theorem respond_sw (h : Head) (r : Result) (s : State) : ∃ q gs c x p fs,
    (respond h r s).sw = setQueue q gs (discardAll c x p fs s.sw) := by
  have hkept : ∃ q gs c x p fs, s.sw = setQueue q gs (discardAll c x p fs s.sw) :=
    ⟨.mgmt, _, 0, .noPath, .uplink, [], (setQueue_self ..).symm⟩
  have hlost : ∀ c p f, ∃ q gs c' x p' fs, discardFrame c .noPath p f s.sw =
      setQueue q gs (discardAll c' x p' fs s.sw) := fun c p f =>
    ⟨.mgmt, _, c, .noPath, p, [f], (setQueue_self (discardFrame c .noPath p f s.sw) _).symm⟩
  unfold respond
  dsimp only
  split
  · exact hkept
  split
  · split
    · exact hkept
    · exact hlost ..
  · obtain ⟨x, p, fs, gs, he⟩ := offerFrame_cases s.agent.address.isSome (isIsolated s) false
      s.timer.number .mgmt (completeFrame s h.source svcMgmt h.channel
        (frameFlags (h.origin == .field) true) h.tag (encodeResult r)) s.sw
    exact ⟨.mgmt, gs, _, x, p, fs, he⟩

theorem respond_accept (h : Head) (r : Result) (s : State) :
    (respond h r s).sw.accept = s.sw.accept := by
  obtain ⟨q, gs, c, x, p, fs, he⟩ := respond_sw h r s
  rw [he, setQueue_accept, discardAll_accept]

/-! ## O20 -/

section
variable {h : Head} {s : State}

/-- A permitted request that changes the accept table alone: the table, the answer, the frame. -/
theorem accept_answered (me : Instr) (table : List (Octet × Octet)) :
    ∃ t, t = answered me h (.done 0) ((countRequest h s).modSw fun w => { w with accept := table }) ∧
      t.sw.accept = table ∧ Changes respondParts s t :=
  ⟨_, rfl, respond_accept .., (((countRequest_changes h s).mono (by decide)).trans
    ((modSw_changes _ _).mono (by decide))).trans (answered_changes _ _ _ _)⟩

/-- A permitted request that changes the deny list alone: the Toll Relay, the answer, the frame. -/
theorem deny_answered (me : Instr) (x : TollRelay) :
    ∃ t, t = answered me h (.done 0) { countRequest h s with toll := x } ∧
      t.toll = x ∧ Changes (.toll :: respondParts) s t := by
  have ha := answered_changes me h (.done 0) { countRequest h s with toll := x }
  exact ⟨_, rfl, ha .toll (by decide), (((countRequest_changes h s).mono (by decide)).trans
    ((modToll_changes (fun _ => x) _).mono (by decide))).trans (ha.mono (by decide))⟩

end

/-- Settles O20: each command's table row by row, the answer through the request's execution. -/
theorem listsChange : Obligations.ListsChange := by
  unfold Obligations.ListsChange
  intro h v c tag s pair
  refine ⟨fun hp => ?_, fun hp => ?_, fun hp => ?_, fun hp => ?_, fun hp => ?_⟩
  · have hrow : ∀ {r : Result} {u : State}, acceptAdd v c (countRequest h s) = (u, r) →
        exec (.acceptAdd h v c) s = .next (answered (.acceptAdd h v c) h r u) := fun hr =>
      congrArg Host.Outcome.next (execRequest_answering hp _ hr)
    refine ⟨fun hbad => hrow (if_pos hbad), fun h1 h6 hc hin => hrow ?_,
      fun h1 h6 hc hout hfull => hrow ?_, fun h1 h6 hc hout hroom => ?_⟩
    all_goals have hgood : ¬ (v = 0 ∨ 6 < v ∨ 255 < c) := by omega
    · exact (if_neg hgood).trans (if_pos hin)
    · exact (if_neg hgood).trans ((if_neg hout).trans (if_neg (Nat.not_lt.2 hfull)))
    · obtain ⟨t, ht, htable, hframe⟩ := accept_answered (h := h) (s := s) (.acceptAdd h v c)
        (insertPair pair s.sw.accept)
      refine ⟨t, ht ▸ hrow ((if_neg hgood).trans ((if_neg hout).trans (if_pos hroom))),
        htable ▸ insertPair_perm pair s.sw.accept, by rw [htable]; exact ht, hframe⟩
  · obtain ⟨t, ht, htable, hframe⟩ := accept_answered (h := h) (s := s) (.acceptRemove h v c)
      (s.sw.accept.filter fun x => !namesPair v c x)
    exact ⟨t, ht ▸ congrArg Host.Outcome.next (execRequest_answeringDone hp _ _), htable,
      by rw [htable]; exact ht, hframe⟩
  · have hrow : ∀ {r : Result} {u : State}, denyAdd tag (countRequest h s) = (u, r) →
        exec (.denyAdd h tag) s = .next (answered (.denyAdd h tag) h r u) := fun hr =>
      congrArg Host.Outcome.next (execRequest_answering hp _ hr)
    refine ⟨fun h0 => hrow (if_pos h0), fun h0 hin => hrow ((if_neg h0).trans (if_pos hin)),
      fun h0 hout hfull => hrow ((if_neg h0).trans ((if_neg hout).trans (if_neg (Nat.not_lt.2 hfull)))),
      fun h0 hout hroom => ?_⟩
    obtain ⟨t, ht, htoll, hframe⟩ := deny_answered (h := h) (s := s) (.denyAdd h tag)
      { s.toll with deny := insertTag tag s.toll.deny }
    have hdeny : t.toll.deny = insertTag tag s.toll.deny := by rw [htoll]
    exact ⟨t, ht ▸ hrow ((if_neg h0).trans ((if_neg hout).trans (if_pos hroom))),
      hdeny ▸ insertTag_perm tag s.toll.deny, fun hs => hdeny ▸ insertTag_ascending hout hs,
      by rw [hdeny]; exact htoll, by rw [htoll]; exact ht, hframe⟩
  · have hrow : exec (.denyRemove h tag) s = .next (answered (.denyRemove h tag) h (.done 0)
        ((countRequest h s).modToll fun x => { x with deny := x.deny.filter (· != tag) })) :=
      congrArg Host.Outcome.next (execRequest_answeringDone hp _ _)
    have hne : (fun x : TagId => x != tag) = fun x => decide (x ≠ tag) := by
      funext x
      rw [decide_not]
      rfl
    rw [hrow, hne]
  · exact congrArg Host.Outcome.next (execRequest_answeringDone hp _ _)

end Sys2Proof.Machine
end

section
/-! PROOFS. Frames switched, part 2: what becomes of an item of a processed zone (R42 to R48). -/

namespace Sys2Proof.Machine

set_option Elab.async false

/-! ## The checks of R42, in order -/

section Checks
variable {f : Frame}

theorem frameFault_badAddress (h : 241 ≤ f.dest.toNat ∧ f.dest.toNat ≤ 254) :
    frameFault f = some .badAddress := if_pos h

/-- An address of a node, or the broadcast, passes the check of addresses. -/
theorem not_between {d : Octet} (h : d.toNat ≤ 240 ∨ d = 255) :
    ¬ (241 ≤ d.toNat ∧ d.toNat ≤ 254) := by
  rcases h with h | rfl
  · omega
  · decide

theorem frameFault_badService (hd : f.dest.toNat ≤ 240 ∨ f.dest = 255)
    (hs : f.service = 0 ∨ 6 < f.service.toNat) : frameFault f = some .badService := by
  exact (if_neg (not_between hd)).trans (if_pos hs)

/-- Past the checks of address and service the payload check decides. -/
theorem frameFault_legal (hd : f.dest.toNat ≤ 240 ∨ f.dest = 255) (h1 : 1 ≤ f.service.toNat)
    (h6 : f.service.toNat ≤ 6) :
    frameFault f = if f.check ≠ payloadCheck f.payload then some .payloadCheck else none := by
  have hs : ¬ (f.service = 0 ∨ 6 < f.service.toNat) := by
    rintro (h | h)
    · have h0 : f.service.toNat = 0 := by rw [h]; rfl
      omega
    · omega
  exact (if_neg (not_between hd)).trans (if_neg hs)

variable (p : Port) {s : State}

theorem handleItem_faulty {r : DiscardReason} (h : frameFault f = some r) :
    handleItem p (.frame f) s = (s.modSw (discardFrame s.timer.number r (.port p) f), []) := by
  unfold handleItem
  dsimp only
  rw [h]

theorem handleItem_good (h : frameFault f = none) :
    handleItem p (.frame f) s = handleFrame p f s := by
  unfold handleItem
  dsimp only
  rw [h]

end Checks

/-! ## A frame by its way (R43 to R48) -/

section Ways
variable (p : Port) {f : Frame} {s : State}

/-- A frame on a node that has its address, which does not come home (R44 to R47). -/
theorem handleFrame_abroad (ha : s.agent.address.isSome = true) (hh : comesHome s f = false) :
    handleFrame p f s =
      if s.agent.address = some f.dest then (takeFrame f s, [])
      else if s.isMaster ∧ f.dest = 0 then (frameToCentre f s, [])
      else if f.dest = 255 then passFrame p f (copyFrame f s)
      else passFrame p f s := by
  have hw : awaitsAddress s = false := by
    rw [awaitsAddress, Option.isNone_eq_false_iff.2 ha, Bool.and_false]
  unfold handleFrame
  rw [hw, hh, if_neg (by decide), if_neg (by decide)]

/-- A frame that comes home is stripped (R43). -/
theorem handleFrame_home (hw : awaitsAddress s = false) (hh : comesHome s f = true) :
    handleFrame p f s = (stripFrame f s, []) := by
  unfold handleFrame
  rw [hw, hh, if_neg (by decide), if_pos rfl]

theorem comesHome_slave (hm : s.isMaster = false) :
    comesHome s f = (s.agent.address == some f.source) := by
  rw [comesHome, hm]
  rfl

theorem comesHome_master (hm : s.isMaster = true) :
    comesHome s f = (f.source == 1 || f.source == 0) := by
  rw [comesHome, hm]
  rfl

theorem awaitsAddress_master (hm : s.isMaster = true) : awaitsAddress s = false := by
  rw [awaitsAddress, hm]
  rfl

/-- A frame whose last hop is spent is discarded (R47). -/
theorem passFrame_expired (h : f.hop.toNat ≤ 1) :
    passFrame p f s = (s.modSw (discardFrame s.timer.number .hopLimit (.port p) f), []) := if_pos h

/-- A frame with hops left becomes transit with one hop less (R47). -/
theorem passFrame_passes (h : 2 ≤ f.hop.toNat) :
    passFrame p f s = (s.modSw fun sw => { sw with passed := bump sw.passed },
      [{ inPlace := false, frame := hopped f }]) := if_neg (by omega)

/-- A pass moves neither FRAMES_TAKEN nor COPIES (R47). -/
theorem passFrame_counts (f : Frame) (s : State) : (passFrame p f s).1.sw.taken = s.sw.taken ∧
    (passFrame p f s).1.sw.copies = s.sw.copies := by
  unfold passFrame
  split
  · exact ⟨rfl, rfl⟩
  · exact ⟨rfl, rfl⟩

/-- On a slave without address a frame that carries no legal offer passes (R48). -/
theorem unassignedFrame_passes (h : ∀ a ∈ offerOf f, offerLegal a = false) :
    unassignedFrame p f s = passFrame p f s := by
  have hn : (offerOf f).filter offerLegal = none :=
    Option.filter_eq_none_iff.2 fun a ha => by rw [h a ha]; decide
  rw [unassignedFrame, hn]

/-- A legal offer on a slave without address is taken (R48, R207). -/
theorem unassignedFrame_taken {a : Octet} (ho : offerOf f = some a) (hl : offerLegal a = true) :
    unassignedFrame p f s =
      ((takeAddress a s).1, [{ inPlace := true, frame := (takeAddress a s).2 }]) := by
  have hs : (offerOf f).filter offerLegal = some a := by rw [ho]; exact if_pos hl
  rw [unassignedFrame, hs]

/-- A frame on a slave without address (R48). -/
theorem handleFrame_unassigned (hm : s.isMaster = false) (ha : s.agent.address = none) :
    handleFrame p f s = unassignedFrame p f s := if_pos (by rw [awaitsAddress, hm, ha]; rfl)

end Ways

/-! ## What a slave's blocks leave of the counts of the zone -/

/-- The counts that R44, R46 and R47 keep: FRAMES_TAKEN, COPIES, FRAMES_PASSED. -/
def zoneCounts (sw : FrameSwitch) : Nat × Nat × Nat := (sw.taken, sw.copies, sw.passed)

theorem offerFrame_zoneCounts (assigned isolated ofCentre : Bool) (c : Half) (q : QueueName)
    (f : Frame) (sw : FrameSwitch) :
    zoneCounts (offerFrame assigned isolated ofCentre c q f sw).1 = zoneCounts sw := by
  obtain ⟨r, p, fs, gs, he⟩ := offerFrame_cases assigned isolated ofCentre c q f sw
  rw [he, discardAll_eq]
  cases q <;> rfl

theorem ite_zoneCounts {c : Prop} [Decidable c] {t u : State} {n : Nat × Nat × Nat}
    (ht : zoneCounts t.sw = n) (hu : zoneCounts u.sw = n) :
    zoneCounts (if c then t else u).sw = n :=
  ite_of (g := fun u : State => zoneCounts u.sw) ht hu

section Slave
variable {s : State} (ha : s.agent.address ≠ some 1)
include ha

/-- Call signalling of a slave travels the ring: it is offered to VSIG (R52). -/
theorem sendVsig_zoneCounts (x : Target) (m : VsigMsg) :
    zoneCounts (sendVsig hand x 1 m s).sw = zoneCounts s.sw := by
  rw [sendVsig_queued m ha]
  exact offerFrame_zoneCounts ..

theorem enterRequesting_zoneCounts (q : Fin 4) :
    zoneCounts (enterRequesting hand q s).sw = zoneCounts s.sw := by
  have ht : ∀ u : State, zoneCounts (talkIfHeld q u).sw = zoneCounts u.sw := fun u =>
    ite_zoneCounts rfl rfl
  exact (ht _).trans (sendVsig_zoneCounts (s := (modPos q (fun p => { p with resend := some 0 })
    (modPos q (fun p => { p with call := .requesting }) s)).modPhone fun p =>
      { p with requestsSent := bump p.requestsSent }) ha _ _)

theorem takeCallQueued_zoneCounts (r : CallRef) (k : Nat) :
    zoneCounts (takeCallQueued hand r k s).sw = zoneCounts s.sw := by
  unfold takeCallQueued
  split
  · rfl
  refine ite_zoneCounts ?_ rfl
  unfold queuedAt
  split
  case h_4 => exact enterRequesting_zoneCounts (s := modPos _ _ s) ha _
  all_goals rfl

theorem takePlanUpdate_zoneCounts (via : Via) (source v : Octet) (c : Half) (slots : Octets) :
    zoneCounts (takePlanUpdate hand via source v c slots s).sw = zoneCounts s.sw := by
  have hanswer : ∀ late (f : PhoneInterface → PhoneInterface),
      zoneCounts (answerPlan hand late v (s.modPhone f)).sw = zoneCounts s.sw := fun late f =>
    sendVsig_zoneCounts (s := s.modPhone f) ha _ _
  unfold takePlanUpdate
  refine ite_zoneCounts rfl (ite_zoneCounts rfl ?_)
  split
  · rfl
  · exact ite_zoneCounts (hanswer ..)
      (ite_zoneCounts (ite_zoneCounts (hanswer ..) (hanswer ..)) rfl)

theorem handVsig_zoneCounts (hm : s.isMaster = false) (via : Via) (f : Frame) :
    zoneCounts (handVsig via f s).sw = zoneCounts s.sw := by
  unfold handVsig
  rw [hm]
  cases decodeVsig f.payload with
  | none => rfl
  | some m =>
    cases m with
    | callQueued r k => exact takeCallQueued_zoneCounts ha r k
    | planUpdate v c slots => exact takePlanUpdate_zoneCounts ha via _ v c slots
    | _ => rfl

omit ha in
/-- An agent that is no master's answers no frame of the ring at once (R197). -/
theorem agentTake_slave_sw (hm : s.isMaster = false) (f : Frame) :
    (agentTake .centre f s).sw = s.sw := by
  rw [agentTake_centre, hm]
  exact ite_of (g := fun u : State => u.sw) rfl rfl

theorem handFrame_zoneCounts (hm : s.isMaster = false) (via : Via) (f : Frame) :
    zoneCounts (handFrame via f s).sw = zoneCounts s.sw := by
  unfold handFrame
  refine ite_zoneCounts (congrArg _ (agentTake_slave_sw hm f)) (ite_zoneCounts rfl
    (ite_zoneCounts (congrArg _ (takeTollFrame_sw ..)) (ite_zoneCounts
      (handVsig_zoneCounts ha hm via f) (ite_zoneCounts (congrArg _ ?_) rfl))))
  exact takeSignFrame_changes _ _ s .sw (by decide)

end Slave

/-! ## A frame on an assigned slave (R43, R44, R46, R47) -/

section RingSlave
variable (p : Port) {f : Frame} {s : State} (hs : RingSlave s) (hf : frameFault f = none)
include hs

/-- A slave's own frame is stripped (R43). -/
theorem stripFrame_slave : stripFrame f s = s.modSw fun sw => { sw with stripped := bump sw.stripped } := by
  have hm : (s.modSw fun sw => { sw with stripped := bump sw.stripped }).isMaster = false := hs.1
  unfold stripFrame
  exact if_neg (by rw [hm]; exact Bool.false_ne_true)

theorem takeFrame_slave : takeFrame f s = handFrame .taken f (countTaken s) := by
  rw [takeFrame, notePresent, hs.1]
  rfl

theorem copies_slave : copies s f = true ↔ offerOf f = none ∧
    (f.service = svcMgmt ∨ f.service = svcAlarm ∨ (f.service, f.channel) ∈ s.sw.accept) := by
  simp only [copies, hs.1, Bool.false_or, Bool.and_eq_true, Option.isNone_iff_eq_none,
    Bool.or_eq_true, beq_iff_eq, decide_eq_true_eq, or_assoc]

/-- A copied broadcast counts, and its block moves no count of the zone (R46). -/
theorem copyFrame_zoneCounts : zoneCounts (copyFrame f s).sw =
    if copies s f = true then (s.sw.taken, bump s.sw.copies, s.sw.passed) else zoneCounts s.sw := by
  rw [copyFrame, notePresent, hs.1]
  split
  · exact handFrame_zoneCounts (s := s.modSw fun sw => { sw with copies := bump sw.copies })
      hs.2.2 hs.1 _ _
  · rfl

end RingSlave

/-! ## Frames on the master (R43, R45, R47, R48) -/

section Master
variable (p : Port) {f : Frame} {s : State} (hm : s.isMaster = true)
include hm

theorem handleFrame_master_home (h : f.source = 0 ∨ f.source = 1) :
    handleFrame p f s = (stripFrame f s, []) := by
  refine handleFrame_home p (awaitsAddress_master hm) ?_
  rw [comesHome_master hm]
  rcases h with h | h <;> rw [h] <;> rfl

/-- A returning offer is stripped and told to the agent (R48, R208). -/
theorem stripFrame_offer (h : (offerOf f).isSome = true) : stripFrame f s =
    offerReturned (s.modSw fun sw => { sw with stripped := bump sw.stripped }) :=
  if_pos (by rw [h]; exact (Bool.and_true _).trans hm)

omit hm in
theorem stripFrame_plain (h : offerOf f = none) :
    stripFrame f s = s.modSw fun sw => { sw with stripped := bump sw.stripped } :=
  if_neg (by rw [h, Option.isSome_none, Bool.and_false]; exact Bool.false_ne_true)

theorem comesHome_master_abroad (h0 : f.source ≠ 0) (h1 : f.source ≠ 1) : comesHome s f = false := by
  rw [comesHome_master hm, beq_false_of_ne h1, beq_false_of_ne h0]
  rfl

omit hm in
/-- A frame for the centre leaves by the uplink, or has no path (R45). -/
theorem frameToCentre_eq : frameToCentre f s = if s.pins.uplinkUp then
      sendUplink f ((notePresent f s).modSw fun sw => { sw with toCentre := bump sw.toCentre })
    else (notePresent f s).modSw (discardFrame s.timer.number .noPath .uplink f) := by
  have hn := notePresent_changes f s
  have hpins : (notePresent f s).pins = s.pins := hn .pins (by decide)
  have htimer : (notePresent f s).timer = s.timer := hn .timer (by decide)
  unfold frameToCentre
  dsimp only
  rw [hpins, htimer]

end Master

/-- An offer is a frame of the master (R206). -/
theorem offerOf_source {f : Frame} {a : Octet} (h : offerOf f = some a) : f.source = 1 := by
  unfold offerOf at h
  split at h
  · next hc => exact hc.2.2.1
  · exact nomatch h

/-! ## A zone on a slave without address (R48, R207) -/

section Offer
variable (p : Port) {s : State}

/-- FRAMES_PASSED at a number. -/
def withPassed (n : Nat) (s : State) : State := s.modSw fun sw => { sw with passed := n }

/-- The transit of frames that pass. -/
def passedKept (fs : List Frame) : List Kept := fs.map fun f => { inPlace := false, frame := hopped f }

/-- Frames that pass come before the rest of a zone: they are counted, and are its first transit. -/
theorem handleItems_after_passed {fs : List Frame} (rest : List ZoneItem) {s : State}
    (h : ∀ f ∈ fs, 2 ≤ f.hop.toNat ∧ ∀ n,
      handleItem p (.frame f) (withPassed n s) = passFrame p f (withPassed n s)) :
    handleItems p (fs.map ZoneItem.frame ++ rest) s =
      let r := handleItems p rest (withPassed (bumps fs.length s.sw.passed) s)
      (r.1, passedKept fs ++ r.2) := by
  induction fs generalizing s with
  | nil => rfl
  | cons f fs ih =>
    obtain ⟨hhop, hpass⟩ := h f List.mem_cons_self
    have hf : handleItem p (.frame f) s = (withPassed (bump s.sw.passed) s,
        [{ inPlace := false, frame := hopped f }]) :=
      (hpass s.sw.passed).trans (passFrame_passes p hhop)
    rw [List.map_cons, List.cons_append, handleItems, hf]
    dsimp only
    rw [ih (s := withPassed (bump s.sw.passed) s) fun g hg => h g (List.mem_cons_of_mem f hg)]
    rfl

@[simp] theorem keptExtent_passed (fs : List Frame) : keptExtent (passedKept fs) = extents fs := by
  rw [keptExtent, passedKept, List.map_map]
  exact extents_hopped fs

theorem keptExtent_append (ks ls : List Kept) :
    keptExtent (ks ++ ls) = keptExtent ks + keptExtent ls := by
  rw [keptExtent, List.map_append, extents_append]
  rfl

/-- What has passed holds no ADDRESS_TAKEN. -/
theorem placeTaken_passed {zone : Nat} {fs : List Frame} {s : State} (h : extents fs ≤ zone) :
    placeTaken zone (s, passedKept fs) = (s, fs.map hopped) := by
  rw [placeTaken, if_pos (by rwa [keptExtent_passed]), passedKept, List.map_map]
  rfl

/-- The ADDRESS_TAKEN stands behind what has passed, or is offered to MGMT (R48). -/
theorem placeTaken_taken (zone : Nat) (fs : List Frame) (k : Frame) (s : State) :
    placeTaken zone (s, passedKept fs ++ [{ inPlace := true, frame := k }]) =
      if extents fs + extent k ≤ zone then (s, fs.map hopped ++ [k])
      else ((offerOwn .mgmt k s).1, fs.map hopped) := by
  have hk : keptExtent [{ inPlace := true, frame := k }] = extent k := rfl
  have hin : (passedKept fs).filter (·.inPlace) = [] := by simp [passedKept]
  have hout : ((passedKept fs).filter fun k => !k.inPlace).map (·.frame) = fs.map hopped := by
    simp [passedKept, List.filter_map, Function.comp_def]
  have hall : (passedKept fs).map (·.frame) = fs.map hopped := by
    rw [passedKept, List.map_map]
    rfl
  rw [placeTaken]
  dsimp only
  rw [keptExtent_append, keptExtent_passed, hk, List.map_append, List.filter_append,
    List.filter_append, List.map_append, hin, hout, hall]
  exact if_congr Iff.rfl rfl (congrArg _ (List.append_nil _))

/-- The address taken: the node's own parts, and the ADDRESS_TAKEN it gives back (R207). -/
theorem takeAddress_fields (hm : s.isMaster = false) (a : Octet) :
    (takeAddress a s).1.prot = { s.prot with linked := decide (s.prot.age < 16) } ∧
    Changes [.agent, .prot, .sw, .openIndex] s (takeAddress a s).1 ∧
    (takeAddress a s).2.dest = 1 ∧ (takeAddress a s).2.source = a ∧
      (takeAddress a s).2.service = svcMgmt ∧ (takeAddress a s).2.hop = 250 ∧
      (takeAddress a s).2.payload = [65, a] ++ octetsOf 6 Config.serial.toNat :=
  ⟨takeAddress_prot hm a, takeAddress_changes a s, rfl, rfl, rfl, rfl, rfl⟩

variable {f : Frame} {before : List Frame} {zone : Octets} (hm : s.isMaster = false)
  (ha : s.agent.address = none)
  (hb : ∀ x ∈ before, frameFault x = none ∧ offerOf x = none ∧ 2 ≤ x.hop.toNat)
include hm ha

theorem handleItem_unassigned {x : Frame} (hf : frameFault x = none) :
    handleItem p (.frame x) s = unassignedFrame p x s :=
  (handleItem_good p hf).trans (handleFrame_unassigned p hm ha)

include hb

theorem before_passes : ∀ x ∈ before, 2 ≤ x.hop.toNat ∧ ∀ n,
    handleItem p (.frame x) (withPassed n s) = passFrame p x (withPassed n s) := fun x hx => by
  obtain ⟨hfault, hoffer, hhop⟩ := hb x hx
  exact ⟨hhop, fun n => (handleItem_unassigned p (s := withPassed n s) hm ha hfault).trans
    (unassignedFrame_passes p fun a h => by rw [hoffer] at h; exact nomatch h)⟩

variable (hf : frameFault f = none) {a : Octet} (ho : offerOf f = some a)
  (hz : zoneItems zone = (before ++ [f]).map ZoneItem.frame)
include hf ho hz

/-- A legal offer behind frames that pass: the address is taken, the ADDRESS_TAKEN placed. -/
theorem processZone_offer_taken (hl : offerLegal a = true) :
    let r := takeAddress a (withPassed (bumps before.length s.sw.passed) s)
    processZone p zone s =
      if extents before + 24 ≤ zone.length then (r.1, before.map hopped ++ [r.2])
      else ((offerOwn .mgmt r.2 r.1).1, before.map hopped) := by
  intro r
  have hlast : handleItems p [.frame f] (withPassed (bumps before.length s.sw.passed) s) =
      (r.1, [{ inPlace := true, frame := r.2 }]) := by
    rw [handleItems, (handleItem_unassigned p (s := withPassed (bumps before.length s.sw.passed) s)
      hm ha hf).trans (unassignedFrame_taken p ho hl)]
    rfl
  rw [processZone, hz, List.map_append, List.map_singleton,
    handleItems_after_passed p _ (before_passes p hm ha hb)]
  dsimp only
  rw [hlast]
  have hext : extent r.2 = 24 := rfl
  rw [← hext]
  exact placeTaken_taken ..

/-- An offer of an address that no slave may take passes as any frame (R207). -/
theorem processZone_offer_passes (hl : offerLegal a = false) (hhop : 2 ≤ f.hop.toNat) :
    processZone p zone s = (withPassed (bumps (before ++ [f]).length s.sw.passed) s,
      (before ++ [f]).map hopped) := by
  have hpass : ∀ x ∈ before ++ [f], 2 ≤ x.hop.toNat ∧ ∀ n,
      handleItem p (.frame x) (withPassed n s) = passFrame p x (withPassed n s) := fun x hx => by
    rcases List.mem_append.1 hx with hx | hx
    · exact before_passes p hm ha hb x hx
    · obtain rfl := List.mem_singleton.1 hx
      refine ⟨hhop, fun n => (handleItem_unassigned p (s := withPassed n s) hm ha hf).trans
        (unassignedFrame_passes p fun b hb => ?_)⟩
      cases ho.symm.trans hb
      exact hl
  have hroom : extents (before ++ [f]) ≤ zone.length := by
    have h := extents_zoneItems zone
    rw [hz] at h
    simpa [itemFrames, List.filterMap_map, Function.comp_def] using h
  have hall := handleItems_after_passed p [] hpass
  rw [List.append_nil] at hall
  rw [processZone, hz, hall]
  dsimp only [handleItems]
  rw [List.append_nil]
  exact placeTaken_passed hroom

end Offer

/-! ## A frame taken or copied is the row of its message (R44, R46, R92) -/

theorem markPresent_self {o : Octet} {s t : State} (h : t.alloc = (markPresent o s).alloc) :
    markPresent o t = t := by
  unfold markPresent at h ⊢
  split
  · rfl
  · next n hn =>
    rw [hn] at h
    have halloc : { t.alloc with plans := t.alloc.plans.modify n fun r => { r with absent := false } } =
        t.alloc := by
      rw [h]
      simp only [modPlan, State.modAlloc, tab_modify_modify]
      rfl
    exact congrArg (fun x => { t with alloc := x }) halloc

/-- A frame handed over, its source noted, is the row of its message. -/
theorem exec_handed {f : Frame} {s : State} (ha : s.agent.address.isSome = true) (via : Via)
    (count : FrameSwitch → FrameSwitch) :
    exec (handedRow s.isMaster via f) ((notePresent f s).modSw count) =
      .next (handFrame via f ((notePresent f s).modSw count)) := by
  have hn := notePresent_changes f s
  have hmaster : ((notePresent f s).modSw count).isMaster = s.isMaster := hn .isMaster (by decide)
  have haddr : ((notePresent f s).modSw count).agent = s.agent := hn .agent (by decide)
  rw [← hmaster]
  refine exec_handedRow ?_ (fun hm _ => markPresent_self (s := s) ?_) via
  · rw [awaitsAddress, haddr, Option.isNone_eq_false_iff.2 ha, Bool.and_false]
  · rw [hmaster] at hm
    have hnote : notePresent f s = markPresent f.source s := if_pos hm
    show (notePresent f s).alloc = _
    rw [hnote]

/-! ## O16, part by part -/

section Fates
variable (p : Port) (f : Frame) {s : State}

/-- A frame for the slave itself (R44). -/
theorem fate_taken (hs : RingSlave s) (hf : frameFault f = none)
    (hsrc : s.agent.address ≠ some f.source) (hd : s.agent.address = some f.dest) :
    handleItem p (.frame f) s = (handFrame .taken f (countTaken s), []) := by
  have hh : comesHome s f = false := (comesHome_slave hs.1).trans (beq_false_of_ne hsrc)
  rw [handleItem_good p hf, handleFrame_abroad p hs.2.1 hh, if_pos hd, takeFrame_slave hs]

/-- A frame for others on a slave: copied when it is a broadcast, and passed (R46, R47). -/
theorem fate_others (hs : RingSlave s) (hf : frameFault f = none)
    (hsrc : s.agent.address ≠ some f.source) (hd : s.agent.address ≠ some f.dest) :
    handleItem p (.frame f) s =
      passFrame p f (if f.dest = 255 then copyFrame f s else s) := by
  have hh : comesHome s f = false := (comesHome_slave hs.1).trans (beq_false_of_ne hsrc)
  have hn : ¬ (s.isMaster = true ∧ f.dest = 0) := fun h => Bool.false_ne_true (hs.1.symm.trans h.1)
  rw [handleItem_good p hf, handleFrame_abroad p hs.2.1 hh, if_neg hd, if_neg hn]
  split
  · rfl
  · rfl

/-- The counts of a frame for others, before it passes (R46). -/
theorem fate_copied (hs : RingSlave s) :
    zoneCounts (if f.dest = 255 then copyFrame f s else s).sw =
      (s.sw.taken, if f.dest = 255 ∧ offerOf f = none ∧ (f.service = svcMgmt ∨
        f.service = svcAlarm ∨ (f.service, f.channel) ∈ s.sw.accept) then bump s.sw.copies
        else s.sw.copies, s.sw.passed) := by
  simp only [← copies_slave hs]
  by_cases hb : f.dest = 255
  · rw [if_pos hb, copyFrame_zoneCounts hs]
    by_cases hc : copies s f = true
    · rw [if_pos hc, if_pos ⟨hb, hc⟩]
    · rw [if_neg hc, if_neg fun h => hc h.2]
      rfl
  · rw [if_neg hb, if_neg fun h => hb h.1]
    rfl

/-- A frame that no copy is taken of stands before its pass as it came (R46, R48). -/
theorem fate_uncopied (hs : RingSlave s) (h : f.dest ≠ 255 ∨ offerOf f ≠ none) :
    (if f.dest = 255 then copyFrame f s else s) = s := by
  rcases h with h | h
  · exact if_neg h
  · have hc : copyFrame f s = s := if_neg fun hc => h ((copies_slave hs).1 hc).1
    rw [hc, ite_self]

end Fates

end Sys2Proof.Machine
end

section
/-! PROOFS. Frames switched, part 3: the fate of a frame, as O16 states it. -/

namespace Sys2Proof.Machine

set_option Elab.async false

/-- Settles O16: the checks of R42, then the ways of R43 to R48 on a slave with and without address
and on the master. -/
theorem frameFate : Obligations.FrameFate := by
  unfold Obligations.FrameFate
  refine ⟨fun p f h s hs => ⟨rfl, rfl, rfl, rfl, fun hlo hhi => ?_, fun hd => ⟨fun hsv => ?_,
    fun h1 h6 => ⟨fun hc => ?_, fun hc => ?_⟩⟩⟩, fun p f s hf => ⟨fun hm ha ho => ?_,
    fun hm hsrc ho => ?_, fun hm ha h0 h1 hd => ?_, fun hm ha h0 h1 hd0 hd1 hd255 => ?_,
    fun hm a ho => ?_⟩, ?_, fun p f s hf ha hh => ?_⟩
  -- An assigned slave: the checks, then strip, take, copy and pass.
  · exact handleItem_faulty p (frameFault_badAddress ⟨hlo, hhi⟩)
  · exact handleItem_faulty p (frameFault_badService hd hsv)
  · exact handleItem_faulty p ((frameFault_legal hd h1 h6).trans (if_pos hc))
  · have hf : frameFault f = none := (frameFault_legal hd h1 h6).trans (if_neg (not_not.2 hc))
    refine ⟨fun hhome => ?_, fun hsrc => ⟨fun hto => ?_, fun hto => ?_⟩⟩
    · have hw : awaitsAddress s = false := by
        rw [awaitsAddress, hhome, Option.isNone_some, Bool.and_false]
      have hh : comesHome s f = true := by rw [comesHome_slave hs.1, hhome, beq_self_eq_true]
      rw [handleItem_good p hf, handleFrame_home p hw hh, stripFrame_slave hs]
    · have hcounts := handFrame_zoneCounts (s := countTaken s) hs.2.2 hs.1 .taken f
      simp only [zoneCounts, Prod.mk.injEq] at hcounts
      obtain ⟨htaken, -, hpassed⟩ := hcounts
      rw [fate_taken p f hs hf hsrc hto]
      exact ⟨rfl, htaken, hpassed⟩
    · have hcounts := fate_copied f hs
      have hplain := fate_uncopied f hs
      rw [fate_others p f hs hf hsrc hto]
      generalize (if f.dest = 255 then copyFrame f s else s) = u at hcounts hplain ⊢
      simp only [zoneCounts, Prod.mk.injEq] at hcounts
      obtain ⟨htaken, hcopies, hpassed⟩ := hcounts
      refine ⟨?_, ?_, fun hno hhop => ?_, fun hhop => ?_, fun hhop => ?_⟩
      · exact (passFrame_counts p f u).1.trans htaken
      · exact (passFrame_counts p f u).2.trans hcopies
      · rw [passFrame_passes p hhop, hplain hno]
      · rw [passFrame_passes p hhop]
        exact ⟨rfl, congrArg bump hpassed⟩
      · rw [passFrame_expired p hhop]
        exact ⟨rfl, hpassed, fun hno => by rw [hplain (.inl hno)]⟩
  -- A slave without address, and the master.
  · rw [handleItem_good p hf, handleFrame_unassigned p hm ha, unassignedFrame_passes p
      fun a h => by rw [ho] at h; exact nomatch h]
    rfl
  · rw [handleItem_good p hf, handleFrame_master_home p hm hsrc, stripFrame_plain ho]
  · have haddr : s.agent.address.isSome = true := by rw [ha]; rfl
    have hto : s.agent.address ≠ some f.dest := by rw [ha, hd]; decide
    have hn := notePresent_changes f s
    have hout : (notePresent f s).out = s.out := hn .out (by decide)
    rw [handleItem_good p hf, handleFrame_abroad p haddr (comesHome_master_abroad hm h0 h1),
      if_neg hto, if_pos ⟨hm, hd⟩, frameToCentre_eq]
    refine ⟨rfl, fun hup => ?_, fun hdown => ?_⟩
    · dsimp only
      rw [hup, if_pos rfl]
      exact ⟨congrArg (fun o : Outputs => o.uplink ++ [encodeFrame f]) hout,
        congrArg (fun w : FrameSwitch => { w with toCentre := bump w.toCentre }) (notePresent_sw f s)⟩
    · dsimp only
      rw [hdown, if_neg Bool.false_ne_true]
      exact ⟨hout, congrArg (discardFrame s.timer.number .noPath .uplink f) (notePresent_sw f s)⟩
  · have haddr : s.agent.address.isSome = true := by rw [ha]; rfl
    have hto : s.agent.address ≠ some f.dest := by
      rw [ha]
      exact fun h => hd1 (Option.some.inj h).symm
    rw [handleItem_good p hf, handleFrame_abroad p haddr (comesHome_master_abroad hm h0 h1),
      if_neg hto, if_neg fun h => hd0 h.2, if_neg hd255]
    unfold passFrame
    split
    · rfl
    · rfl
  · intro u
    rw [handleItem_good p hf, handleFrame_master_home p hm (.inr (offerOf_source ho)),
      stripFrame_offer hm (Option.isSome_of_mem ho)]
    rfl
  -- An offer read by a slave without address.
  · intro p a f before zone s hm ha hf ho hb hz r hop fits
    refine ⟨fun hlo hhi => ?_, fun hbad hhop => ?_⟩
    · have hr := processZone_offer_taken p hm ha hb hf ho hz (offerLegal_iff.2 ⟨hlo, hhi⟩)
      obtain ⟨hprot, hframe, hdest, hsource, hservice, hhop, hpayload⟩ :=
        takeAddress_fields (s := withPassed (bumps before.length s.sw.passed) s) hm a
      have hkeep : Changes [.agent, .prot, .sw, .openIndex] s
          (takeAddress a (withPassed (bumps before.length s.sw.passed) s)).1 :=
        ((modSw_changes _ s).mono (by decide)).trans hframe
      by_cases hfit : fits
      · have hr : r = _ := hr.trans (if_pos hfit)
        rw [hr]
        exact ⟨rfl, hprot, hkeep, rfl, _, hdest, hsource, hservice, hhop, hpayload,
          fun _ => ⟨rfl, rfl⟩, fun hno => absurd hfit hno⟩
      · have hr : r = _ := hr.trans (if_neg hfit)
        have hpassed := offerFrame_zoneCounts true (isIsolated s) false s.timer.number .mgmt
          (takeAddress a (withPassed (bumps before.length s.sw.passed) s)).2
          (withPassed (bumps before.length s.sw.passed) s).sw
        simp only [zoneCounts, Prod.mk.injEq] at hpassed
        rw [hr]
        exact ⟨rfl, hprot, hkeep.trans ((offerOwn_changes _ _ _).mono (by decide)), hpassed.2.2, _, hdest,
          hsource, hservice, hhop, hpayload, fun hyes => absurd hyes hfit,
          fun _ => ⟨rfl, fun hi hroom hb => offerOwn_mgmt rfl hi hb hroom⟩⟩
    · have hl : offerLegal a = false := by
        rw [Bool.eq_false_iff, Ne, offerLegal_iff]
        omega
      have hr : r = _ := processZone_offer_passes p hm ha hb hf ho hz hl hhop
      rw [hr]
      exact ⟨rfl, rfl⟩
  -- A frame taken or copied is the row of its message.
  · intro known t
    have habroad : comesHome s f = false := by
      cases hm : s.isMaster with
      | true =>
        rw [hm] at hh
        exact comesHome_master_abroad hm hh.1 hh.2
      | false =>
        rw [hm] at hh
        exact (comesHome_slave hm).trans (beq_false_of_ne hh)
    have ht : t = (handleFrame p f s).1 := congrArg Prod.fst (handleItem_good p hf)
    rw [handleFrame_abroad p ha habroad] at ht
    refine ⟨fun hto => ?_, fun hto hbc ho hhop hcopy => ?_⟩
    · rw [if_pos hto] at ht
      rw [ht]
      exact exec_handed ha .taken _
    · have hcp : copies s f = true := by
        simp only [copies, ho, Option.isNone_none, Bool.or_true, Bool.true_and, Bool.or_eq_true,
          beq_iff_eq, decide_eq_true_eq, or_assoc]
        exact hcopy
      have hcopied : copyFrame f s = handFrame .copy f ((notePresent f s).modSw fun sw =>
        { sw with copies := bump sw.copies }) := if_pos hcp
      have hn : ¬ (s.isMaster = true ∧ f.dest = 0) := fun h => by
        rw [hbc] at h
        exact absurd h.2 (by decide)
      rw [if_neg hto, if_neg hn, if_pos hbc, hcopied, passFrame_passes p hhop] at ht
      exact ⟨_, exec_handed ha .copy _, ht⟩

end Sys2Proof.Machine
end

section
/-! PROOFS. Frames switched, part 4: the resends and the status frame of the Phone Interface, and the
hand-over of a resent request inside a master (O23). -/

namespace Sys2Proof.Machine

set_option Elab.async false

/-! ## Signalling of a slave (R52, R72, R73, R77) -/

/-- A message of a slave's Phone Interface, which has changed to `f`: it is offered to VSIG. -/
theorem sendVsig_slave {s : State} (hs : RingSlave s) (f : PhoneInterface → PhoneInterface)
    (x : Target) (m : VsigMsg) :
    (sendVsig hand x 1 m (s.modPhone f)).phone = f s.phone ∧
      SentVsig s (sendVsig hand x 1 m (s.modPhone f)) m ∧
      Changes [.phone, .sw, .openIndex] s (sendVsig hand x 1 m (s.modPhone f)) := by
  obtain ⟨-, ha, h1⟩ := hs
  rw [sendVsig_offered (s := s.modPhone f) h1]
  refine ⟨rfl, fun ⟨hi, hroom⟩ => ⟨_, ?_, completeFrame_own ha 1 svcVsig 0 (openTag s) (encodeVsig m)⟩,
    ((modPhone_changes f s).mono (by decide)).trans (((spendOpen_changes _).mono (by decide)).trans
      ((offerOwn_changes _ _ _).mono (by decide)))⟩
  rw [offerOwn_queued (s := (s.modPhone f).spendOpen) (q := .vsig) ha hi
    (fun h => Bool.noConfusion h) hroom]
  rfl

/-- The resend timer of a position starts from 0. -/
def timerRestarted (q : Fin 4) (p : PhoneInterface) : PhoneInterface :=
  { p with positions := p.positions.modify q fun p => { p with resend := some 0 } }

theorem posAt_timerRestarted {s t : State} {q : Fin 4} {p : PhoneInterface} (ht : t.phone = p)
    (h : p.positions = (timerRestarted q s.phone).positions) :
    posAt t q = { posAt s q with resend := some 0 } ∧ ∀ k, k ≠ q → posAt t k = posAt s k := by
  have hget : ∀ k, posAt t k = (timerRestarted q s.phone).positions.get k := fun k =>
    congrArg (Tab.get · k) (ht ▸ h)
  refine ⟨(hget q).trans ?_, fun k hk => (hget k).trans ?_⟩
  · exact (Tab.get_modify ..).trans (if_pos rfl)
  · exact (Tab.get_modify ..).trans (if_neg (Ne.symm hk))

/-- The Phone Interface as a request is offered (R72). -/
def requested (q : Fin 4) (p : PhoneInterface) : PhoneInterface :=
  { timerRestarted q p with requestsSent := bump p.requestsSent }

/-- The request that a position makes with its flags as they stand (R72). -/
def requestOf (s : State) (q : Fin 4) : VsigMsg :=
  .callRequest (ownRef s q) (posAt s q).priority (posAt s q).resume (posAt s q).answer

theorem offerRequest_eq (h : Hand) (q : Fin 4) (s : State) :
    offerRequest h q s = sendVsig h .alloc 1 (requestOf s q) (s.modPhone (requested q)) := by
  have hpos : posAt (s.modPhone (requested q)) q = { posAt s q with resend := some 0 } :=
    (posAt_timerRestarted (s := s) rfl rfl).1
  show sendVsig h .alloc 1 (requestOf (s.modPhone (requested q)) q) (s.modPhone (requested q)) = _
  unfold requestOf
  rw [hpos]
  rfl

/-- The resend timer of a request is due (R72). -/
theorem requestDue_of {p : Position} (h : p.call = .requesting ∧ (∃ k ∈ p.resend, 2000 ≤ k) ∨
    p.call = .waiting ∧ ∃ k ∈ p.resend, 10000 ≤ k) : requestDue p = true := by
  unfold requestDue
  rcases h with ⟨hc, k, hk, hle⟩ | ⟨hc, k, hk, hle⟩
  · rw [hc, Option.mem_def.1 hk]
    exact decide_eq_true hle
  · rw [hc, Option.mem_def.1 hk]
    exact decide_eq_true hle

theorem execRequestResend_due {q : Fin 4} {s : State} (h : requestDue (posAt s q) = true) :
    exec (.callRequestResend q) s =
      .next (sendVsig hand .alloc 1 (requestOf s q) (s.modPhone (requested q))) :=
  (whenever_pos h).trans (congrArg Host.Outcome.next (offerRequest_eq hand q s))

theorem execReleaseResend_due {q : Fin 4} {s : State} (hc : (posAt s q).call = .clearing)
    (hh : holdsSlots s q = true) (ht : ∃ k ∈ (posAt s q).resend, 2000 ≤ k) :
    exec (.callReleaseResend q) s = .next (sendVsig hand .alloc 1 (.callRelease (ownRef s q))
      (s.modPhone fun p => { timerRestarted q p with releasesSent := bump p.releasesSent })) := by
  obtain ⟨k, hk, hle⟩ := ht
  have hdue : releaseDue s q = true := by
    rw [releaseDue, hc, hh, Option.mem_def.1 hk]
    exact decide_eq_true hle
  have hexec : exec (.callReleaseResend q) s = whenever (releaseDue s q)
      (fun s => offerRelease hand q (modPos q (fun p => { p with resend := some 0 }) s)) s := rfl
  rw [hexec, hdue, whenever_true]
  rfl

theorem talkingPositions_congr {s t : State} (h : t.phone.positions = s.phone.positions) :
    talkingPositions t = talkingPositions s := by
  unfold talkingPositions posAt
  rw [h]

/-- The status timer has run for its 1000 cycles more (R77). Irreducible, so that no comparison of two
states counts the cycles down. -/
@[irreducible] def laterStatus (p : PhoneInterface) : PhoneInterface :=
  { p with statusTimer := p.statusTimer - 1000 }

theorem laterStatus_positions (p : PhoneInterface) : (laterStatus p).positions = p.positions := by
  rw [laterStatus]

/-- With no position TALKING the status timer alone moves; else one CALL_STATUS lists them (R77). -/
theorem execStatusTimer_due {s : State} (h : 1000 ≤ s.phone.statusTimer) :
    exec .statusTimerExpiry s = .next (
      if talkingPositions s = [] then s.modPhone laterStatus
      else sendVsig hand .alloc 1 (.callStatus ((talkingPositions s).map (ownRef s)))
        (s.modPhone fun p => { laterStatus p with statusSent := bump (laterStatus p).statusSent })) := by
  have hexec : exec .statusTimerExpiry s = whenever (decide (1000 ≤ s.phone.statusTimer))
      (fun s => offerStatus (s.modPhone laterStatus)) s := by
    unfold laterStatus
    rfl
  have htalk : talkingPositions (s.modPhone laterStatus) = talkingPositions s :=
    talkingPositions_congr (s := s) (t := s.modPhone laterStatus) (laterStatus_positions s.phone)
  have hdue : decide (1000 ≤ s.phone.statusTimer) = true := decide_eq_true h
  rw [hexec, hdue, whenever_true, offerStatus, htalk]
  cases talkingPositions s with
  | nil => rfl
  | cons q qs => rfl

/-! ## Inside a master (R52, R91, R93) -/

section Master
variable {s : State} (ha : s.agent.address = some 1) {q : Fin 4}
include ha

/-- The state in which the master's allocator takes a resent request. -/
def heardAsking (q : Fin 4) (s : State) : State :=
  presentMaster (countTaken (s.modPhone (requested q)))

theorem execRequestResend_master (h : requestDue (posAt s q) = true) :
    exec (.callRequestResend q) s =
      .next (takeCallRequest (handDeep 63) 0 q (posAt s q).priority (heardAsking q s)) := by
  have hself := sendVsig_self (s := s.modPhone (requested q)) ha hand .alloc (requestOf s q)
  rw [execRequestResend_due h, hself]
  show Host.Outcome.next (allocMessage (handDeep 63) 1 0 (requestOf s q) (heardAsking q s)) = _
  unfold allocMessage requestOf
  dsimp only
  rw [ownPosition_ownRef ha]

omit ha in
theorem heardAsking_changes (q : Fin 4) (s : State) :
    Changes [.phone, .sw, .alloc] s (heardAsking q s) :=
  ((modPhone_changes _ s).mono (by decide)).trans (((countTaken_changes _).mono (by decide)).trans
    ((modAlloc_changes _ _).mono (by decide)))

/-- A resent request that can be neither granted nor answered joins the queue, and its position is told
its place at once (R71, R93). -/
theorem resend_waits (hc : (posAt s q).call = .requesting) (hcall : callOf s.alloc 0 q = none)
    (hnew : s.alloc.waiting.any (isRequest 0 q) = false) (hgrant : canGrant s.alloc = false)
    (hroom : s.alloc.waiting.length < 32) :
    let t := takeCallRequest (handDeep 63) 0 q (posAt s q).priority (heardAsking q s)
    t.alloc.waiting = insertWaiting (waitingRequest s q s.alloc.nextArrival) s.alloc.waiting ∧
      posAt t q = { posAt s q with
        call := .waiting, place := some (placeOf t.alloc.waiting 0 q), resend := some 0 } ∧
      t.alloc.calls = s.alloc.calls ∧ t.alloc.slots = s.alloc.slots ∧
      t.sw = { s.sw with taken := bump (bump s.sw.taken) } ∧ Changes [.phone, .alloc, .sw] s t := by
  have hpos : posAt (heardAsking q s) q = { posAt s q with resend := some 0 } :=
    (posAt_timerRestarted (s := s) rfl rfl).1
  have hcall' : (posAt (heardAsking q s) q).call = .requesting := by rw [hpos]; exact hc
  intro t
  have ht : t = _ := takeCallRequest_waits (s := heardAsking q s) ha hcall' hcall hnew hgrant hroom
    (posAt s q).priority 62
  refine ⟨by rw [ht]; rfl, ?_, by rw [ht]; rfl, by rw [ht]; rfl, by rw [ht]; rfl, ?_⟩
  · rw [ht, posAt_modPos, if_pos rfl]
    have hstands : posAt (countTaken (withWaiting q (posAt s q).priority (heardAsking q s))) q =
      { posAt s q with resend := some 0 } := hpos
    rw [hstands]
    rfl
  · rw [ht]
    exact ((heardAsking_changes q s).mono (by decide)).trans
      (((modAlloc_changes _ _).mono (by decide)).trans (((countTaken_changes _).mono (by decide)).trans
        ((modPhone_changes _ _).mono (by decide))))

/-- A resent request for a call that the allocator holds: its plan is loaded and accepted at once
(R86, R91, R93). -/
theorem resend_planned {k : PlanEntries} (hcall : (callOf s.alloc 0 q).isSome = true)
    (hr : reachable s = true) (hholds : CallsHoldSlots s)
    (hw : s.alloc.waiting = [] ∨ canGrant s.alloc = false)
    (hk : knownVersion s.phone (nextVersion (s.alloc.plans.get 0).lastIssued) = false)
    (hl : loadable s.phone (nextVersion (s.alloc.plans.get 0).lastIssued) = true)
    (hes : wellFormedEntries (encodeEntries (currentEntries
      (modCall 0 q (renewCall (posAt s q).priority) s).alloc 0)) = some k) :
    let t := takeCallRequest (handDeep 63) 0 q (posAt s q).priority (heardAsking q s)
    t.phone.pendingAt = some (s.timer.number + 32) ∧ t.phone.standby.entries = k ∧
      (t.alloc.plans.get 0).inFlight = none := by
  have hissued : ((heardAsking q s).alloc.plans.get 0).lastIssued =
      (s.alloc.plans.get 0).lastIssued := by
    have hget := modPlan_get (fun r => { r with absent := false })
      (countTaken (s.modPhone (requested q)))
    have hissued := congrArg PlanRecord.lastIssued hget
    exact hissued
  let x := modCall 0 q (renewCall (posAt s q).priority) (heardAsking q s)
  have hversion : (masterPlan x).version = nextVersion (s.alloc.plans.get 0).lastIssued :=
    congrArg nextVersion hissued
  have hfew : x.alloc.waiting = [] ∨ (freeSlots x.alloc).length < 2 := hw.imp id fun hg => by
    rw [freeSlots_congr (a := x.alloc) (b := s.alloc) rfl rfl]
    exact freeSlots_short hholds hg
  obtain ⟨hphone, -, hflight, -⟩ := planCalls_master (s := x) (es := k) ha hr
    (by rw [currentEntries_congr (a := x.alloc)
          (b := (modCall 0 q (renewCall (posAt s q).priority) s).alloc) rfl]
        exact hes)
    (by rw [hversion]; exact hk) (by rw [hversion]; exact hl) hfew 61
  intro t
  have ht : t = planCalls (handDeep 63) 0 x := takeCallRequest_renews _ hcall
  rw [ht]
  exact ⟨congrArg PhoneInterface.pendingAt hphone,
    congrArg (fun p : PhoneInterface => p.standby.entries) hphone, hflight⟩

end Master

/-! ## O23 -/

/-- Settles O23: the slave's frames by their offers, the master's request through the hand-over. -/
theorem callSignalling : Obligations.CallSignalling := by
  unfold Obligations.CallSignalling
  refine ⟨fun q s hs => ⟨fun hdue => ?_, fun hc hh ht => ?_, fun hdue => ⟨fun hn => ?_, fun hn => ?_⟩⟩, ?_⟩
  · obtain ⟨hphone, hsent, hframe⟩ := sendVsig_slave hs (requested q) .alloc (requestOf s q)
    have hpos := posAt_timerRestarted (s := s) (q := q) hphone rfl
    exact ⟨_, execRequestResend_due (requestDue_of hdue), by rw [hphone]; rfl, hpos.1, hpos.2, hsent,
      hframe⟩
  · obtain ⟨hphone, hsent, hframe⟩ := sendVsig_slave hs
      (fun p => { timerRestarted q p with releasesSent := bump p.releasesSent }) .alloc
      (.callRelease (ownRef s q))
    have hpos := posAt_timerRestarted (s := s) (q := q) hphone rfl
    exact ⟨_, execReleaseResend_due hc hh ht, by rw [hphone]; rfl, hpos.1, hpos.2, hsent, hframe⟩
  · have hnone : talkingPositions s = [] := List.map_eq_nil_iff.1 hn
    rw [execStatusTimer_due hdue, if_pos hnone]
    unfold laterStatus
    rfl
  · have hsome : talkingPositions s ≠ [] := fun h => hn (List.map_eq_nil_iff.2 h)
    obtain ⟨hphone, hsent, hframe⟩ := sendVsig_slave hs (fun p =>
      { laterStatus p with statusSent := bump (laterStatus p).statusSent }) .alloc
      (.callStatus ((talkingPositions s).map (ownRef s)))
    refine ⟨_, (execStatusTimer_due hdue).trans (congrArg Host.Outcome.next (if_neg hsome)), ?_,
      hsent, hframe⟩
    rw [hphone, laterStatus]
  · intro q s hm ha p me hc ht
    have hdue : requestDue (posAt s q) = true := requestDue_of (.inl ⟨hc, ht⟩)
    refine ⟨fun hcall hnew hg hroom => ⟨_, execRequestResend_master ha hdue,
      resend_waits ha hc hcall hnew hg hroom⟩, fun e he hr hholds hw hk hl k hes => ?_⟩
    obtain ⟨hat, hentries, hflight⟩ :=
      resend_planned ha (Option.isSome_of_mem he) hr hholds hw hk hl hes
    have hframe : Changes callParts s (takeCallRequest (handDeep 63) 0 q p.priority (heardAsking q s)) :=
      ((heardAsking_changes q s).mono (by decide)).trans
        (takeCallRequest_changes (handDeep_keeps 63) 0 q _ _)
    exact ⟨_, execRequestResend_master ha hdue, hat, hentries, hflight, hframe⟩

end Sys2Proof.Machine
end

section
/-! PROOFS. Frames switched, part 5: the response of a RESTART and its flush of the queues (O52). -/

namespace Sys2Proof.Machine

set_option Elab.async false

/-! ## The count of frames flushed (R50, R63) -/

/-- The frames that flushes have removed. -/
def flushCount (sw : FrameSwitch) : Nat := sw.discards.get (reasonIndex .restartFlush)

section
variable {c : Half} {r : DiscardReason} {p : Place} {f : Frame} {sw : FrameSwitch}

/-- A discard for another reason is no flush. -/
theorem flushCount_discardAll {fs : List Frame} (h : r ≠ .restartFlush) :
    flushCount (discardAll c r p fs sw) = flushCount sw :=
  (discardAll_count ..).trans (if_neg h.symm)

theorem flushCount_discardFrame (h : r ≠ .restartFlush) :
    flushCount (discardFrame c r p f sw) = flushCount sw := flushCount_discardAll (fs := [f]) h

theorem flushCount_setQueue (q : QueueName) (fs : List Frame) :
    flushCount (setQueue q fs sw) = flushCount sw := congrArg (Tab.get · _) (setQueue_discards ..)

theorem offerFull_flushCount (q : QueueName) :
    flushCount (offerFull c q f sw).1 = flushCount sw := by
  cases q
  case alarm => exact (flushCount_setQueue ..).trans (flushCount_discardAll (by decide))
  case wx => exact (flushCount_setQueue ..).trans (flushCount_discardAll (by decide))
  case tollLive => rfl
  case tollDeferred => rfl
  all_goals exact flushCount_discardFrame (by decide)

/-- An offer flushes nothing. -/
theorem offerFrame_flushCount (assigned isolated ofCentre : Bool) (q : QueueName) :
    flushCount (offerFrame assigned isolated ofCentre c q f sw).1 = flushCount sw := by
  unfold offerFrame
  split
  · exact flushCount_discardFrame (by decide)
  split
  · exact flushCount_discardFrame (by decide)
  split
  · exact flushCount_discardFrame (by decide)
  split
  · split
    · exact flushCount_discardFrame (by decide)
    · exact offerFull_flushCount q
  · exact flushCount_setQueue ..

/-- A frame offered to MGMT joins it, or is discarded. -/
theorem offerFrame_mgmt (assigned isolated ofCentre : Bool) :
    (offerFrame assigned isolated ofCentre c .mgmt f sw).1 = setQueue .mgmt (sw.mgmt ++ [f]) sw ∨
    ∃ x p, (offerFrame assigned isolated ofCentre c .mgmt f sw).1 = discardFrame c x p f sw := by
  unfold offerFrame
  split
  · exact .inr ⟨_, _, rfl⟩
  split
  · exact .inr ⟨_, _, rfl⟩
  split
  · exact .inr ⟨_, _, rfl⟩
  split
  · split
    · exact .inr ⟨_, _, rfl⟩
    · exact .inr ⟨_, _, rfl⟩
  · exact .inl rfl

/-- A frame that has joined MGMT is one more for a flush. -/
theorem flushedFrames_setMgmt (f : Frame) (sw : FrameSwitch) :
    flushedFrames (setQueue .mgmt (sw.mgmt ++ [f]) sw) = flushedFrames sw + 1 := by
  simp [flushedFrames, allQueues, queueFrames, setQueue]
  omega

end

/-! ## A response (R199) -/

section
variable (h : Head) (r : Result) (s : State)

/-- The frame of a response. -/
def responseOf : Frame :=
  completeFrame s h.source svcMgmt h.channel (frameFlags (h.origin == .field) true) h.tag
    (encodeResult r)

theorem responseOf_frame : ResponseFrame s h r (responseOf h r s) := by
  refine ⟨rfl, fun a ha => ?_, rfl, rfl, rfl, rfl, ?_, rfl, rfl⟩
  · show s.agent.address.getD _ = a
    rw [ha]
    rfl
  · show frameFlags (h.origin == .field) true = _
    cases h.origin <;> rfl

/-- A response of a slave to the centre is offered to MGMT. -/
theorem respond_slave_sw (ho : h.origin = .centre) (hm : s.isMaster = false) :
    (respond h r s).sw = (offerFrame s.agent.address.isSome (isIsolated s) false s.timer.number
      .mgmt (responseOf h r s) s.sw).1 := by
  unfold respond
  dsimp only
  rw [ho]
  dsimp only
  rw [if_neg (by rw [State.spendOpen, State.modAgent, hm]; decide)]
  unfold responseOf
  rw [ho]
  rfl

/-- A response of the master leaves by the uplink while it is up. -/
theorem respond_master (hm : s.isMaster = true) :
    ((respond h r s).sw = s.sw ∧ (respond h r s).out.uplink =
      s.out.uplink ++ [encodeFrame (responseOf h r s)]) ∨
    (s.pins.uplinkUp = false ∧
      (respond h r s).sw = discardFrame s.timer.number .noPath .uplink (responseOf h r s) s.sw) := by
  unfold respond
  dsimp only
  split
  · exact .inl ⟨rfl, rfl⟩
  · split
    · split
      · exact .inl ⟨rfl, rfl⟩
      · next hu => exact .inr ⟨Bool.eq_false_iff.2 hu, rfl⟩
    · next hn => exact absurd hm hn

theorem respond_flushCount : flushCount (respond h r s).sw = flushCount s.sw := by
  unfold respond
  dsimp only
  split
  · rfl
  · split
    · split
      · rfl
      · exact flushCount_discardFrame (by decide)
    · exact offerFrame_flushCount ..

theorem respond_agent : (respond h r s).agent =
    { s.agent with responsesSent := bump s.agent.responsesSent } := by
  unfold respond
  dsimp only
  split
  · rfl
  · split
    · split <;> rfl
    · rfl

end

/-! ## The flush of a RESTART (R63) -/

/-- What the flush of a RESTART leaves in MGMT: the DONE that a slave has just queued. -/
def spared (h : Head) (s : State) : List Frame :=
  if s.isMaster then [] else sparedDone s.sw (respond h (.done 0) s).sw

/-- The node after the response to a RESTART and its flush. -/
def restartFlushed (h : Head) (s : State) : State :=
  (respond h (.done 0) s).modSw (flushSwitch s.timer.number (spared h s))

section
variable {h : Head} {s : State}

/-- Of the response to a RESTART, either nothing or the DONE alone stays in MGMT, and the flush
counts the frames that stood before it. -/
theorem spared_cases (ho : h.origin = .centre) :
    (spared h s = [] ∨ s.isMaster = false ∧ spared h s = [responseOf h (.done 0) s]) ∧
    flushedFrames (respond h (.done 0) s).sw - (spared h s).length = flushedFrames s.sw := by
  have hlost : ∀ c x p f, flushedFrames (discardFrame c x p f s.sw) = flushedFrames s.sw :=
    fun _ _ _ _ => rfl
  unfold spared
  cases hm : s.isMaster
  · rw [if_neg (by decide), respond_slave_sw h _ s ho hm]
    obtain he | ⟨x, p, he⟩ := offerFrame_mgmt (c := s.timer.number)
      (f := responseOf h (.done 0) s) (sw := s.sw) s.agent.address.isSome (isIsolated s) false
    · have hd : sparedDone s.sw (setQueue .mgmt (s.sw.mgmt ++ [responseOf h (.done 0) s]) s.sw) =
          [responseOf h (.done 0) s] := List.drop_left
      rw [he, hd, flushedFrames_setMgmt]
      exact ⟨.inr ⟨rfl, rfl⟩, rfl⟩
    · have hd : sparedDone s.sw (discardFrame s.timer.number x p (responseOf h (.done 0) s) s.sw) =
          [] := List.drop_length
      rw [he, hd]
      exact ⟨.inl rfl, hlost ..⟩
  · rw [if_pos rfl]
    obtain ⟨he, -⟩ | ⟨-, he⟩ := respond_master h (.done 0) s hm
    · rw [he]
      exact ⟨.inl rfl, rfl⟩
    · rw [he]
      exact ⟨.inl rfl, hlost ..⟩

/-- A slave whose MGMT queue has room for the DONE keeps it, and discards nothing for it. -/
theorem spared_queued (ho : h.origin = .centre) (hm : s.isMaster = false)
    (ha : s.agent.address.isSome = true) (hi : isIsolated s = false) (hl : s.sw.mgmt.length < 8)
    (hb : 64 ≤ s.sw.budget) :
    spared h s = [responseOf h (.done 0) s] ∧
      (respond h (.done 0) s).sw.records = s.sw.records := by
  have hx : extent (responseOf h (.done 0) s) ≤ s.sw.budget :=
    le_trans (show 16 + (encodeResult (.done 0)).length ≤ 64 by decide) hb
  have he : (respond h (.done 0) s).sw =
      setQueue .mgmt (s.sw.mgmt ++ [responseOf h (.done 0) s]) s.sw := by
    rw [respond_slave_sw h _ s ho hm, ha, hi,
      offerFrame_joins (q := .mgmt) (.inl rfl) (fun _ => hx) hl]
    rfl
  unfold spared
  rw [if_neg (by rw [hm]; decide), he]
  exact ⟨List.drop_left, rfl⟩

theorem restartFlushed_count (ho : h.origin = .centre) :
    flushCount (restartFlushed h s).sw = bumpBy (flushedFrames s.sw) (flushCount s.sw) := by
  rw [← (spared_cases ho).2, ← respond_flushCount h (.done 0) s]
  exact (Tab.get_modify ..).trans (if_pos rfl)

theorem restartFlushed_records (ho : h.origin = .centre) : (restartFlushed h s).sw.records =
    ({ reason := .restartFlush, place := .allQueues, cycle := s.timer.number, fields := none
       flushed := some (flushedFrames s.sw) } :: (respond h (.done 0) s).sw.records).take 8 := by
  rw [← (spared_cases ho).2]
  rfl

theorem restartFlushed_changes : Changes respondParts s (restartFlushed h s) :=
  (respond_changes h _ s).trans ((modSw_changes _ _).mono (by decide))

end

end Sys2Proof.Machine
end

section
/-! PROOFS. Frames switched, part 6: what call signalling keeps of the status timer and of the Frame
Switch (O52). -/

namespace Sys2Proof.Machine

set_option Elab.async false

/-! ## What lies beyond call signalling (R52, R77) -/

/-- What no message of call signalling reaches, inside a master neither: the status timer and the
switch but for VSIG, TAKEN and the discards; of those the frames that flushes removed. -/
def beyondCalls (s : State) : Nat × Nat × FrameSwitch :=
  (s.phone.statusTimer, flushCount s.sw,
    { s.sw with vsig := [], taken := 0, discards := .fill 11 0, records := [] })

/-- A hand-over that keeps it. -/
def HandKeepsBeyond (hand : Hand) : Prop := ∀ t m s, beyondCalls (hand t m s) = beyondCalls s

theorem ite_beyond {c : Prop} [Decidable c] {s t u : State} (ht : beyondCalls t = beyondCalls s)
    (hu : beyondCalls u = beyondCalls s) : beyondCalls (if c then t else u) = beyondCalls s := by
  split
  · exact ht
  · exact hu

theorem foldl_beyond {α : Type} {f : State → α → State}
    (h : ∀ s x, beyondCalls (f s x) = beyondCalls s) (xs : List α) (s : State) :
    beyondCalls (xs.foldl f s) = beyondCalls s := by
  induction xs generalizing s with
  | nil => rfl
  | cons x xs ih => exact (ih _).trans (h s x)

/-- A frame offered to VSIG joins that queue or is discarded. -/
theorem offerOwn_vsig_beyond (f : Frame) (s : State) :
    beyondCalls (offerOwn .vsig f s).1 = beyondCalls s := by
  have hcount : flushCount (offerOwn .vsig f s).1.sw = flushCount s.sw := offerFrame_flushCount ..
  have hsw : { (offerOwn .vsig f s).1.sw with
      vsig := [], taken := 0, discards := .fill 11 0, records := [] } =
      { s.sw with vsig := [], taken := 0, discards := .fill 11 0, records := [] } := by
    obtain ⟨r, p, fs, gs, he⟩ := offerFrame_cases s.agent.address.isSome (isIsolated s) false
      s.timer.number .vsig f s.sw
    show { (offerFrame _ _ _ _ _ _ _).1 with
      vsig := [], taken := 0, discards := .fill 11 0, records := [] } = _
    rw [he, discardAll_eq]
    rfl
  exact Prod.ext rfl (Prod.ext hcount hsw)

theorem talkIfHeld_beyond (q : Fin 4) (s : State) :
    beyondCalls (talkIfHeld q s) = beyondCalls s := ite_beyond rfl rfl

theorem renewStatus_beyond (n : Fin 240) (q : Fin 4) (s : State) :
    beyondCalls (renewStatus n q s) = beyondCalls s := ite_beyond rfl rfl

theorem markPresent_beyond (o : Octet) (s : State) :
    beyondCalls (markPresent o s) = beyondCalls s := by
  unfold markPresent
  split <;> rfl

section
variable {hand : Hand} (hh : HandKeepsBeyond hand)
include hh

theorem sendVsig_beyond (t : Target) (dest : Octet) (m : VsigMsg) (s : State) :
    beyondCalls (sendVsig hand t dest m s) = beyondCalls s :=
  ite_beyond (hh _ _ _) (offerOwn_vsig_beyond _ s.spendOpen)

theorem enterRequesting_beyond (q : Fin 4) (s : State) :
    beyondCalls (enterRequesting hand q s) = beyondCalls s :=
  (talkIfHeld_beyond q _).trans (sendVsig_beyond hh _ _ _ _)

theorem offHookIdle_beyond (q : Fin 4) (s : State) :
    beyondCalls (offHookIdle hand q s) = beyondCalls s :=
  ite_beyond (enterRequesting_beyond hh q s) rfl

theorem answerPlan_beyond (late : Bool) (v : Octet) (s : State) :
    beyondCalls (answerPlan hand late v s) = beyondCalls s := sendVsig_beyond hh _ _ _ _

theorem takePlanUpdate_beyond (via : Via) (source v : Octet) (c : Half) (slots : Octets)
    (s : State) : beyondCalls (takePlanUpdate hand via source v c slots s) = beyondCalls s := by
  unfold takePlanUpdate
  split
  · rfl
  split
  · rfl
  split
  · rfl
  split
  · exact answerPlan_beyond hh _ _ _
  exact ite_beyond (ite_beyond (answerPlan_beyond hh _ _ _) (answerPlan_beyond hh _ _ _)) rfl

theorem takeCallQueued_beyond (r : CallRef) (k : Nat) (s : State) :
    beyondCalls (takeCallQueued hand r k s) = beyondCalls s := by
  unfold takeCallQueued
  split
  · rfl
  · refine ite_beyond ?_ rfl
    unfold queuedAt
    split
    case h_4 => exact enterRequesting_beyond hh _ _
    all_goals rfl

theorem phoneTake_beyond (via : Via) (source : Octet) (m : VsigMsg) (s : State) :
    beyondCalls (phoneTake hand via source m s) = beyondCalls s := by
  unfold phoneTake
  split
  · exact takeCallQueued_beyond hh _ _ _
  · exact takePlanUpdate_beyond hh _ _ _ _ _ _
  · rfl

theorem planCalls_beyond (n : Fin 240) (s : State) :
    beyondCalls (planCalls hand n s) = beyondCalls s := sendVsig_beyond hh _ _ _ _

theorem grant_beyond (n : Fin 240) (q : Fin 4) (p : Bool) (s : State) :
    beyondCalls (grant hand n q p s) = beyondCalls s := by
  unfold grant
  split
  · exact planCalls_beyond hh n _
  · rfl

theorem grantQueue_beyond (k : Nat) (s : State) :
    beyondCalls (grantQueue hand k s) = beyondCalls s := by
  induction k generalizing s with
  | zero => rfl
  | succ k ih =>
    unfold grantQueue
    split
    · rfl
    · exact ite_beyond ((ih _).trans (grant_beyond hh _ _ _ _)) rfl

theorem grantAfter_beyond (s t : State) : beyondCalls (grantAfter hand s t) = beyondCalls t :=
  ite_beyond rfl (grantQueue_beyond hh _ _)

theorem takeCallRequest_beyond (n : Fin 240) (q : Fin 4) (p : Bool) (s : State) :
    beyondCalls (takeCallRequest hand n q p s) = beyondCalls s :=
  ite_beyond (planCalls_beyond hh n _) <| ite_beyond (sendVsig_beyond hh _ _ _ _) <|
    ite_beyond (grant_beyond hh _ _ _ _) <|
      ite_beyond (sendVsig_beyond hh _ _ _ _) (sendVsig_beyond hh _ _ _ _)

theorem takePlanAccept_beyond (n : Fin 240) (v : Octet) (s : State) :
    beyondCalls (takePlanAccept hand n v s) = beyondCalls s := by
  unfold takePlanAccept
  dsimp only
  split
  · exact (grantAfter_beyond hh _ _).trans (ite_beyond rfl rfl)
  · exact ite_beyond rfl rfl

theorem takePlanLate_beyond (n : Fin 240) (v : Octet) (s : State) :
    beyondCalls (takePlanLate hand n v s) = beyondCalls s := by
  unfold takePlanLate
  split
  · exact sendVsig_beyond hh _ _ _ _
  · rfl

theorem allocMessage_beyond (source : Octet) (n : Fin 240) (m : VsigMsg) (s : State) :
    beyondCalls (allocMessage hand source n m s) = beyondCalls s := by
  unfold allocMessage
  split
  · split
    · exact takeCallRequest_beyond hh _ _ _ _
    · rfl
  · split
    · exact ite_beyond (planCalls_beyond hh _ _) rfl
    · rfl
  · split
    · exact foldl_beyond (fun s q => renewStatus_beyond n q s) _ _
    · rfl
  · exact takePlanAccept_beyond hh _ _ _
  · exact takePlanLate_beyond hh _ _ _
  · rfl

theorem allocTake_beyond (source : Octet) (m : VsigMsg) (s : State) :
    beyondCalls (allocTake hand source m s) = beyondCalls s := by
  unfold allocTake
  split
  · rfl
  · exact (allocMessage_beyond hh _ _ _ _).trans (markPresent_beyond _ _)

theorem releaseIfBusy_beyond (q : Fin 4) (s : State) :
    beyondCalls (releaseIfBusy hand q s) = beyondCalls s :=
  ite_beyond rfl (sendVsig_beyond hh _ _ _ _)

theorem offHookIfLifted_beyond (q : Fin 4) (s : State) :
    beyondCalls (offHookIfLifted hand q s) = beyondCalls s :=
  ite_beyond (offHookIdle_beyond hh q s) rfl

/-- The Phone Interface's part of a RESTART stays within call signalling (R84). -/
theorem phoneRestart_beyond (s : State) : beyondCalls (phoneRestart hand s) = beyondCalls s := by
  have hidle : ∀ s : State, beyondCalls ((clearBanks s).modPhone fun p =>
      { p with positions := p.positions.map idlePosition }) = beyondCalls s := fun _ => rfl
  exact (foldl_beyond (f := fun s q => offHookIfLifted hand q s)
      (fun s q => offHookIfLifted_beyond hh q s) _ _).trans <| (hidle _).trans <|
    foldl_beyond (f := fun s q => releaseIfBusy hand q s)
      (fun s q => releaseIfBusy_beyond hh q s) _ s

end

theorem handDeep_beyond (k : Nat) : HandKeepsBeyond (handDeep k) := by
  induction k with
  | zero => exact fun _ _ _ => rfl
  | succ k ih =>
    intro t m s
    cases t
    · exact phoneTake_beyond ih .taken 1 m s
    · exact allocTake_beyond ih 1 m s

/-- The node's own hand-over keeps what lies beyond call signalling. -/
theorem hand_beyond : HandKeepsBeyond hand := handDeep_beyond 64

end Sys2Proof.Machine
end

section
/-! PROOFS. Frames switched, part 7: the Phone Interface of a slave through a RESTART (O52). -/

namespace Sys2Proof.Machine

set_option Elab.async false

/-! ## Signalling that finds room (R52, R53) -/

/-- Call signalling of a slave has left its Phone Interface at `p` and has offered at most `n` frames
to VSIG; where the queue has room for them none is discarded. -/
structure Signalled (n : Nat) (p : PhoneInterface) (s t : State) : Prop where
  phone   : t.phone = p
  changes : Changes [.phone, .sw, .openIndex] s t
  room    : isIsolated s = false → s.sw.vsig.length + n ≤ 16 →
    t.sw.records = s.sw.records ∧ t.sw.vsig.length ≤ s.sw.vsig.length + n

namespace Signalled
variable {n m : Nat} {p p' : PhoneInterface} {s t u : State}

theorem refl (n : Nat) (s : State) : Signalled n s.phone s s :=
  ⟨rfl, .refl _ s, fun _ _ => ⟨rfl, Nat.le_add_right ..⟩⟩

theorem phone_only (n : Nat) (f : PhoneInterface → PhoneInterface) (s : State) :
    Signalled n (f s.phone) s (s.modPhone f) :=
  ⟨rfl, (modPhone_changes f s).mono (by decide), fun _ _ => ⟨rfl, Nat.le_add_right ..⟩⟩

theorem trans (h : Signalled n p s t) (h' : Signalled m p' t u) : Signalled (n + m) p' s u := by
  refine ⟨h'.phone, h.changes.trans h'.changes, fun hi hroom => ?_⟩
  have hiso : isIsolated t = isIsolated s :=
    isIsolated_congr (h.changes .prot (by decide)) (h.changes .line (by decide))
  obtain ⟨hrec, hlen⟩ := h.room hi (by omega)
  obtain ⟨hrec', hlen'⟩ := h'.room (hiso.trans hi) (by omega)
  exact ⟨hrec'.trans hrec, by omega⟩

theorem slave (h : Signalled n p s t) (hs : RingSlave s) : RingSlave t := by
  unfold RingSlave at hs ⊢
  rwa [show t.isMaster = s.isMaster from h.changes .isMaster (by decide),
    show t.agent = s.agent from h.changes .agent (by decide)]

theorem reach (h : Signalled n p s t) : reachable t = reachable s :=
  reachable_congr (h.changes .prot (by decide))

/-- One message of a slave, as its Phone Interface changes by `f`. -/
theorem send (hs : RingSlave s) (f : PhoneInterface → PhoneInterface) (x : Target) (m : VsigMsg) :
    Signalled 1 (f s.phone) s (sendVsig hand x 1 m (s.modPhone f)) := by
  obtain ⟨hphone, -, hchanges⟩ := sendVsig_slave hs f x m
  refine ⟨hphone, hchanges, fun hi hroom => ?_⟩
  rw [sendVsig_offered (s := s.modPhone f) hs.2.2, offerOwn_queued (q := .vsig)
    (s := (s.modPhone f).spendOpen) hs.2.1 hi nofun hroom]
  exact ⟨rfl, (List.length_append ..).le⟩

end Signalled

/-! ## The releases (R84, step 1) -/

/-- `k` more releases are counted. -/
def releasesCounted (k : Nat) (p : PhoneInterface) : PhoneInterface :=
  { p with releasesSent := bumps k p.releasesSent }

/-- The positions of a list that are not in IDLE. -/
def busyOf (s : State) (qs : List (Fin 4)) : List (Fin 4) :=
  qs.filter fun q => (posAt s q).call != .idle

theorem releasesCounted_add (j k : Nat) (p : PhoneInterface) :
    releasesCounted k (releasesCounted j p) = releasesCounted (j + k) p := by
  unfold releasesCounted
  rw [bumps_add]

theorem releaseIfBusy_signalled {s : State} (hs : RingSlave s) (q : Fin 4) :
    Signalled 1 (releasesCounted (busyOf s [q]).length s.phone) s (releaseIfBusy hand q s) := by
  unfold releaseIfBusy busyOf
  by_cases hq : (posAt s q).call = .idle
  · rw [if_pos hq, List.filter_cons_of_neg (by rw [hq]; decide)]
    exact .refl 1 s
  · rw [if_neg hq, List.filter_cons_of_pos (by simpa using hq)]
    exact .send hs (releasesCounted 1) .alloc _

theorem releases_signalled {s : State} (hs : RingSlave s) (qs : List (Fin 4)) :
    Signalled qs.length (releasesCounted (busyOf s qs).length s.phone) s
      (qs.foldl (fun s q => releaseIfBusy hand q s) s) := by
  induction qs generalizing s with
  | nil => exact .refl 0 s
  | cons q qs ih =>
    have hq := releaseIfBusy_signalled hs q
    have hall := hq.trans (ih (hq.slave hs))
    have hbusy : busyOf (releaseIfBusy hand q s) qs = busyOf s qs := by
      unfold busyOf posAt
      rw [hq.phone]
      rfl
    have hsplit : busyOf s (q :: qs) = busyOf s [q] ++ busyOf s qs := List.filter_append [q] qs
    rw [hq.phone, releasesCounted_add, hbusy, ← List.length_append, ← hsplit,
      Nat.add_comm] at hall
    exact hall

/-! ## The handsets that are lifted (R68, R84, step 4) -/

/-- A position in IDLE after step 4: by whether its handset is lifted and the centre is reached. -/
def liftedPosition (reached : Bool) (p : Position) : Position :=
  if p.debounced = .off then
    if reached then { p with call := .requesting, resend := some 0 } else heldPosition p
  else p

/-- The Phone Interface after step 4 at one position, `sent` requests counted. -/
def lifted (reached : Bool) (q : Fin 4) (sent : Nat) (p : PhoneInterface) : PhoneInterface :=
  { p with positions := p.positions.modify q (liftedPosition reached), requestsSent := sent }

theorem tab_modify_congr {α : Type} {n : Nat} {t : Tab α n} {i : Fin n} {f g : α → α}
    (h : f (t.get i) = g (t.get i)) : t.modify i f = t.modify i g := by
  unfold Tab.modify
  rw [h]

/-- The Phone Interface as a position enters REQUESTING. -/
def asksAt (q : Fin 4) (p : PhoneInterface) : PhoneInterface :=
  requested q
    { p with positions := p.positions.modify q fun p => { p with call := .requesting } }

/-- Without slots in the active bank, an entry into REQUESTING is the request alone. -/
theorem enterRequesting_slave {s : State} (hs : RingSlave s) {q : Fin 4}
    (hb : bankEntry s q = none) : ∃ m,
    enterRequesting hand q s = sendVsig hand .alloc 1 m (s.modPhone (asksAt q)) := by
  have hoffer := offerRequest_eq hand q (modPos q (fun p => { p with call := .requesting }) s)
  have hsent : ∀ m, (sendVsig hand .alloc 1 m (s.modPhone (asksAt q))).phone = asksAt q s.phone :=
    fun m => (sendVsig_slave hs (asksAt q) .alloc m).1
  refine ⟨_, (talkIfHeld_stands ?_).trans hoffer⟩
  rw [hoffer]
  unfold holdsSlots bankEntry
  show (Tab.get (sendVsig hand .alloc 1 _ (s.modPhone (asksAt q))).phone.active.entries q).isSome = _
  rw [hsent]
  exact congrArg Option.isSome hb

/-- An off-hook of a slave whose active bank holds nothing for the position. -/
theorem offHookIfLifted_signalled {s : State} (hs : RingSlave s) {q : Fin 4}
    (hb : bankEntry s q = none) :
    ∃ n, Signalled 1 (lifted (reachable s) q n s.phone) s (offHookIfLifted hand q s) := by
  have hone : ∀ (f : Position → Position) (n : Nat), f (posAt s q) =
      liftedPosition (reachable s) (posAt s q) → lifted (reachable s) q n s.phone =
        { s.phone with positions := s.phone.positions.modify q f, requestsSent := n } :=
    fun f n h => by
      unfold lifted
      rw [tab_modify_congr (t := s.phone.positions) (g := f) h.symm]
  unfold offHookIfLifted offHookIdle
  by_cases hoff : (posAt s q).debounced = .off
  · rw [if_pos hoff]
    by_cases hr : reachable s = true
    · obtain ⟨m, hm⟩ := enterRequesting_slave hs hb
      rw [if_pos hr, hm]
      refine ⟨bump s.phone.requestsSent, ?_⟩
      rw [hone (fun p => { p with call := .requesting, resend := some 0 }) _
        (by rw [liftedPosition, if_pos hoff, if_pos hr])]
      have hsent := Signalled.send hs (asksAt q) .alloc m
      unfold asksAt requested timerRestarted at hsent
      dsimp only at hsent
      rw [tab_modify_modify] at hsent
      exact hsent
    · rw [if_neg hr]
      refine ⟨s.phone.requestsSent, ?_⟩
      rw [hone heldPosition _ (by rw [liftedPosition, if_pos hoff, if_neg hr])]
      exact .phone_only 1 (fun p => { p with positions := p.positions.modify q heldPosition }) s
  · rw [if_neg hoff]
    refine ⟨s.phone.requestsSent, ?_⟩
    rw [hone id _ (by rw [liftedPosition, if_neg hoff]; rfl), tab_modify_id]
    exact .refl 1 s

/-- Step 4 at the positions of a list. -/
theorem offHooks_signalled {s : State} (hs : RingSlave s) (hb : ∀ q, bankEntry s q = none)
    {qs : List (Fin 4)} (hnd : qs.Nodup) : ∃ ps n,
    Signalled qs.length { s.phone with positions := ps, requestsSent := n } s
      (qs.foldl (fun s q => offHookIfLifted hand q s) s) ∧
    ∀ k, ps.get k = if k ∈ qs then liftedPosition (reachable s) (posAt s k) else posAt s k := by
  induction qs generalizing s with
  | nil => exact ⟨s.phone.positions, s.phone.requestsSent, .refl 0 s, fun _ => rfl⟩
  | cons q qs ih =>
    obtain ⟨hq, hnd⟩ := List.nodup_cons.1 hnd
    obtain ⟨n, hone⟩ := offHookIfLifted_signalled hs (hb q)
    rw [List.foldl_cons]
    generalize offHookIfLifted hand q s = t at *
    have hbank : ∀ k, bankEntry t k = none := fun k => by
      unfold bankEntry
      rw [hone.phone]
      exact hb k
    obtain ⟨ps, n', hrest, hget⟩ := ih (hone.slave hs) hbank hnd
    rw [hone.phone] at hrest
    have hall := hone.trans hrest
    rw [Nat.add_comm] at hall
    refine ⟨ps, n', hall, fun k => ?_⟩
    have hpos : posAt t k = if q = k then liftedPosition (reachable s) (posAt s k)
        else posAt s k := by
      unfold posAt
      rw [hone.phone]
      exact Tab.get_modify ..
    rw [hget, hone.reach, hpos]
    by_cases hk : q = k
    · subst hk
      rw [if_neg hq, if_pos rfl, if_pos List.mem_cons_self]
    · simp only [if_neg hk, List.mem_cons, Ne.symm hk, false_or]

/-! ## The whole of it (R84) -/

/-- Steps 2 and 3: the banks cleared, every position in IDLE. -/
def idled (p : PhoneInterface) : PhoneInterface :=
  { p with
    active := { p.active with entries := .fill 4 none }
    standby := Bank.empty
    pendingAt := none
    cleared := true
    positions := p.positions.map idlePosition }

theorem phoneRestart_eq (s : State) : phoneRestart hand s =
    (indices 4).foldl (fun s q => offHookIfLifted hand q s)
      (((indices 4).foldl (fun s q => releaseIfBusy hand q s) s).modPhone idled) := by
  have hidle : ∀ t : State, ((clearBanks t).modPhone fun p =>
      { p with positions := p.positions.map idlePosition }) = t.modPhone idled := fun _ => rfl
  unfold phoneRestart
  dsimp only
  rw [hidle]

/-- The Phone Interface of a slave after a RESTART. -/
theorem phoneRestart_signalled {s : State} (hs : RingSlave s) : ∃ ps n,
    Signalled 8 { idled (releasesCounted (busyOf s (indices 4)).length s.phone) with
      positions := ps, requestsSent := n } s (phoneRestart hand s) ∧
    ∀ k, ps.get k = liftedPosition (reachable s) (idlePosition (posAt s k)) := by
  have hrel := releases_signalled hs (indices 4)
  rw [phoneRestart_eq]
  generalize (indices 4).foldl (fun s q => releaseIfBusy hand q s) s = t at *
  have hidle : Signalled 4 (idled t.phone) s (t.modPhone idled) := hrel.trans (.phone_only 0 idled t)
  obtain ⟨ps, n, hoff, hget⟩ := offHooks_signalled (hidle.slave hs)
    (fun q => Tab.get_fill none q) (List.nodup_finRange 4)
  have hall := hidle.trans hoff
  rw [hidle.phone, hrel.phone] at hall
  refine ⟨ps, n, hall, fun k => ?_⟩
  have hpos : posAt (t.modPhone idled) k = idlePosition (posAt s k) := by
    have hp : (t.modPhone idled).phone.positions.get k = idlePosition (t.phone.positions.get k) :=
      Tab.get_map idlePosition t.phone.positions k
    rw [hrel.phone] at hp
    exact hp
  have hk := (hget k).trans (if_pos (List.mem_finRange k))
  rwa [hidle.reach, hpos] at hk

end Sys2Proof.Machine
end

section
/-! PROOFS. Frames switched, part 8: the tolls, the journal and the weather channels through a RESTART
(O52). -/

namespace Sys2Proof.Machine

set_option Elab.async false

/-! ## The pending transactions move to the journal (R123, R128) -/

/-- The record of a pending transaction that a RESTART hands over. -/
def movedRecord (now : Nat) (p : PendingToll) : JournalRecord :=
  { key := p.key, block := p.block, verdict := .unanswered, journalledAt := now, offers := 0
    inFlight := none }

/-- One pending transaction handed over. -/
def moveToll (s : State) (p : PendingToll) : State :=
  journalTake p.key p.block .unanswered ((dropPending p.key s).modToll fun t =>
    { t with restartMoved := bump t.restartMoved })

theorem moveToll_toll (s : State) (p : PendingToll) : (moveToll s p).toll =
    { s.toll with
      pendingTable := s.toll.pendingTable.filter fun x => x.key != p.key
      restartMoved := bump s.toll.restartMoved } := rfl

theorem moveToll_journal (s : State) (p : PendingToll) :
    (moveToll s p).journal.records =
      joined 512 s.journal.records (movedRecord s.journal.seconds p) ∧
    (moveToll s p).journal.seconds = s.journal.seconds ∧
    (moveToll s p).journal.drain = s.journal.drain := by
  unfold moveToll journalTake joined
  show (if 512 ≤ s.journal.records.length then _ else _ : TollJournal).records = _ ∧
    (if 512 ≤ s.journal.records.length then _ else _ : TollJournal).seconds = _ ∧
    (if 512 ≤ s.journal.records.length then _ else _ : TollJournal).drain = _
  split
  · exact ⟨rfl, rfl, rfl⟩
  · exact ⟨rfl, rfl, rfl⟩

theorem moveToll_changes (s : State) (p : PendingToll) :
    Changes [.toll, .journal] s (moveToll s p) :=
  (((modToll_changes _ s).mono (by decide)).trans ((modToll_changes _ _).mono (by decide))).trans
    ((journalTake_changes _ _ _ _).mono (by decide))

/-- Several handed over leave the table and are counted. -/
theorem foldl_moveToll_toll (ps : List PendingToll) (s : State) : (ps.foldl moveToll s).toll =
    { s.toll with
      pendingTable := s.toll.pendingTable.filter fun x => ps.all fun p => x.key != p.key
      restartMoved := bumps ps.length s.toll.restartMoved } := by
  induction ps generalizing s with
  | nil =>
    show s.toll = { s.toll with pendingTable := s.toll.pendingTable.filter fun _ => true }
    rw [List.filter_true]
  | cons p ps ih =>
    have hfilter : (s.toll.pendingTable.filter fun x => x.key != p.key).filter
        (fun x => ps.all fun p => x.key != p.key) =
        s.toll.pendingTable.filter fun x => (p :: ps).all fun p => x.key != p.key := by
      rw [List.filter_filter]
      exact List.filter_congr fun x _ => Bool.and_comm ..
    rw [List.foldl_cons, ih, moveToll_toll]
    dsimp only
    rw [hfilter]
    rfl

/-- The records join the journal while it has room. -/
theorem foldl_moveToll_journal (ps : List PendingToll) (s : State) :
    (ps.foldl moveToll s).journal.records =
      (ps.map (movedRecord s.journal.seconds)).foldl (joined 512) s.journal.records ∧
    (ps.foldl moveToll s).journal.seconds = s.journal.seconds ∧
    (ps.foldl moveToll s).journal.drain = s.journal.drain := by
  induction ps generalizing s with
  | nil => exact ⟨rfl, rfl, rfl⟩
  | cons p ps ih =>
    obtain ⟨hrec, hsec, hdrain⟩ := moveToll_journal s p
    obtain ⟨hrec', hsec', hdrain'⟩ := ih (moveToll s p)
    refine ⟨?_, hsec'.trans hsec, hdrain'.trans hdrain⟩
    rw [List.foldl_cons, hrec', hrec, hsec]
    rfl

/-- The Toll Relay and the Toll Journal through a RESTART. -/
def restartTolls (s : State) : State := journalAllWaiting (tollRestart s)

theorem restartTolls_toll (s : State) : (restartTolls s).toll =
    { s.toll with
      pendingTable := []
      restartMoved := bumps s.toll.pendingTable.length s.toll.restartMoved } := by
  have hnone : s.toll.pendingTable.filter
      (fun x => s.toll.pendingTable.all fun p => x.key != p.key) = [] :=
    List.filter_eq_nil_iff.2 fun x hx h =>
      absurd (List.all_eq_true.1 h x hx) (by simp)
  have h := foldl_moveToll_toll s.toll.pendingTable s
  rw [hnone] at h
  exact h

theorem restartTolls_journal {s : State} (hl : s.journal.records.length ≤ 512) :
    (restartTolls s).journal.records =
      (s.journal.records.map backToWaiting ++
        s.toll.pendingTable.map (movedRecord s.journal.seconds)).take 512 ∧
    (restartTolls s).journal.seconds = s.journal.seconds ∧
    (restartTolls s).journal.drain = s.journal.drain := by
  obtain ⟨hrec, hsec, hdrain⟩ := foldl_moveToll_journal s.toll.pendingTable s
  rw [foldl_joined _ hl] at hrec
  refine ⟨?_, hsec, hdrain⟩
  show (tollRestart s).journal.records.map backToWaiting = _
  have hwait : (s.toll.pendingTable.map (movedRecord s.journal.seconds)).map backToWaiting =
      s.toll.pendingTable.map (movedRecord s.journal.seconds) := by
    rw [List.map_map]
    rfl
  rw [show (tollRestart s).journal.records = _ from hrec, List.map_take, List.map_append, hwait]

theorem restartTolls_changes (s : State) : Changes [.toll, .journal] s (restartTolls s) :=
  (Changes.foldl (fun s p => moveToll_changes s p) s.toll.pendingTable s).trans
    ((modJournal_changes _ _).mono (by decide))

/-- Of two pairs of levels, the conditions that have risen. -/
theorem levels_raised : ∀ a b c d : Bool,
    ([(condJournalNonempty, c), (condJournalFull, d)].filter fun x =>
      x.2 && decide (x ∉ [(condJournalNonempty, a), (condJournalFull, b)])).map (·.1) =
    (if a = false ∧ c = true then [condJournalNonempty] else []) ++
      (if b = false ∧ d = true then [condJournalFull] else []) := by
  decide

/-- What the hand-over raises is noted: JOURNAL_NONEMPTY and JOURNAL_FULL where they were clear (R130,
log 14). -/
theorem journalRaised_raised (u s : State) :
    (journalRaised (journalLevels u) s).period = { s.period with
      raised := s.period.raised ++
        (if u.journal.records = [] ∧ s.journal.records ≠ [] then [condJournalNonempty] else []) ++
        (if u.journal.records.length < 512 ∧ 512 ≤ s.journal.records.length
         then [condJournalFull] else []) } := by
  have h := levels_raised (decide (u.journal.records ≠ []))
    (decide (512 ≤ u.journal.records.length)) (decide (s.journal.records ≠ [])) (decide (512 ≤ s.journal.records.length))
  simp only [decide_eq_false_iff_not, decide_eq_true_eq, not_not, Nat.not_le] at h
  rw [List.append_assoc, ← h]
  rfl

end Sys2Proof.Machine
end

section
/-! PROOFS. Frames switched, part 9: the weather channels and the sign through a RESTART (O52). -/

namespace Sys2Proof.Machine

set_option Elab.async false

/-! ## What a change of a condition leaves of the Sign Controller (R184) -/

/-- The requests, the rules and the pages stand, and a command on the line is still one. -/
structure SignStands (g g' : SignController) : Prop extends SignKept g g' where
  centre  : g'.centre = g.centre
  test    : g'.test = g.test
  sending : g.sender.state = .sending → g'.sender.state = .sending

namespace SignStands
variable {g h k : SignController}

theorem refl (g : SignController) : SignStands g g := ⟨.refl g, rfl, rfl, id⟩

theorem trans (a : SignStands g h) (b : SignStands h k) : SignStands g k :=
  ⟨a.toSignKept.trans b.toSignKept, b.centre.trans a.centre, b.test.trans a.test,
    b.sending ∘ a.sending⟩

end SignStands

theorem startSelected_stands (lead : Octets) (g : SignController) :
    SignStands g (startSelected lead g) := ⟨startSelected_kept _ _, rfl, rfl, fun _ => rfl⟩

theorem handToSender_stands (g : SignController) : SignStands g (handToSender g) := by
  have hkept := handToSender_kept g
  unfold handToSender oweSelection at hkept ⊢
  split at hkept
  · exact ⟨hkept, rfl, rfl, fun _ => rfl⟩
  · split at hkept
    · exact ⟨hkept, rfl, rfl, fun _ => rfl⟩
    · exact ⟨hkept, rfl, rfl, id⟩

theorem handToSender_selection (g : SignController) :
    (handToSender g).selection = g.selection := by
  unfold handToSender oweSelection
  split
  · rfl
  · split <;> rfl

theorem newSelection_stands (w : Selection) (g : SignController) :
    SignStands g (newSelection w g) := by
  refine SignStands.trans ?_ (handToSender_stands _)
  exact ⟨⟨rfl, rfl, rfl, rfl, rfl, rfl⟩, rfl, rfl, id⟩

theorem reevaluate_stands (copy : Tab Bool 64) (ignore : Bool) (g : SignController) :
    SignStands g (reevaluate copy ignore g) := by
  unfold reevaluate
  dsimp only
  split
  · exact ⟨⟨rfl, rfl, rfl, rfl, rfl, rfl⟩, rfl, rfl, id⟩
  · split
    · exact newSelection_stands _ g
    · exact .refl g

/-- A re-evaluation that ignores the hold selects the winner (R182). -/
theorem reevaluate_selects (copy : Tab Bool 64) (g : SignController) :
    (reevaluate copy true g).selection = winner copy g := by
  unfold reevaluate
  dsimp only
  split
  · rfl
  · exact handToSender_selection _

theorem conditionMoved_stands (copy : Tab Bool 64) (c : Fin 64) (g : SignController) :
    SignStands g (conditionMoved copy c g) := by
  unfold conditionMoved
  split
  · exact reevaluate_stands copy false g
  · exact .refl g

/-- The winner is that of the requests, the rules and the pages (R181). -/
theorem winner_congr {g g' : SignController} (copy : Tab Bool 64) (hc : g'.centre = g.centre)
    (ht : g'.test = g.test) (hr : g'.rules = g.rules) (hp : g'.pages = g.pages) :
    winner copy g' = winner copy g := by
  have hv : pageValid g' = pageValid g := by
    funext p
    unfold pageValid descriptorOf
    rw [hp]
  unfold winner candidates ruleActive
  rw [hc, ht, hr, hv]

/-! ## A change that is not judged (R161, R175) -/

/-- It moves the copy and the sign alone. -/
theorem changeCondition_unjudged (c : Fin 64) (v : Bool) (s : State) :
    (changeCondition false c v s).cond = { s.cond with copy := s.cond.copy.set c v } ∧
    SignStands s.sign (changeCondition false c v s).sign ∧
    Changes [.cond, .sign] s (changeCondition false c v s) := by
  unfold changeCondition
  split
  · next h =>
    have hsame : s.cond.copy.set c v = s.cond.copy := Tab.ext_get fun i => by
      rw [Tab.get_set]
      split
      · next e => rw [← e, h]
      · rfl
    rw [hsame]
    exact ⟨rfl, .refl _, .refl _ s⟩
  · exact ⟨rfl, conditionMoved_stands _ _ _,
      ((modCond_changes _ s).mono (by decide)).trans ((modSign_changes _ _).mono (by decide))⟩

/-- The copy after a channel's three conditions are clear. -/
def channelCleared (c : Fin 16) (copy : Tab Bool 64) : Tab Bool 64 :=
  ((copy.set (condFault c) false).set (condHigh c) false).set (condLow c) false

theorem channelCleared_high (c : Fin 16) (copy : Tab Bool 64) :
    (channelCleared c copy).get (condHigh c) = false := by
  unfold channelCleared
  rw [Tab.get_set, Tab.get_set, if_pos rfl]
  exact ite_self _

/-- A flag that is clear stays so. -/
theorem channelCleared_clear (c : Fin 16) {copy : Tab Bool 64} {k : Fin 64}
    (h : copy.get k = false) : (channelCleared c copy).get k = false := by
  unfold channelCleared
  simp only [Tab.get_set, h, ite_self]

/-- The conditions of the journal are no channel's. -/
theorem channelCleared_other (c : Fin 16) (copy : Tab Bool 64) {k : Fin 64} (hk : 48 ≤ k.val) :
    (channelCleared c copy).get k = copy.get k := by
  have hf : condFault c ≠ k := fun e => by
    have := congrArg Fin.val e
    simp only [condFault] at this
    omega
  have hh : condHigh c ≠ k := fun e => by
    have := congrArg Fin.val e
    simp only [condHigh] at this
    omega
  have hl : condLow c ≠ k := fun e => by
    have := congrArg Fin.val e
    simp only [condLow] at this
    omega
  unfold channelCleared
  rw [Tab.get_set, if_neg hl, Tab.get_set, if_neg hh, Tab.get_set, if_neg hf]

/-! ## The channels restart (R142, R160) -/

/-- A channel restarts without an event. -/
theorem restartChannel_unjudged (c : Fin 16) (s : State) :
    (restartChannel false c s).wx =
      { s.wx with work := s.wx.work.set c (.restarted (s.wx.table.get c).interval) } ∧
    (restartChannel false c s).cond =
      { s.cond with copy := channelCleared c s.cond.copy } ∧
    SignStands s.sign (restartChannel false c s).sign ∧
    Changes [.wx, .cond, .sign] s (restartChannel false c s) := by
  unfold restartChannel
  dsimp only
  rw [channelConditions_eq]
  have hset := modWx_changes (fun x : WeatherSampler =>
    { x with work := x.work.set c (.restarted (s.wx.table.get c).interval) }) s
  have hwx : (setWork c (.restarted (s.wx.table.get c).interval) s).wx =
    { s.wx with work := s.wx.work.set c (.restarted (s.wx.table.get c).interval) } := rfl
  change Changes _ s (setWork c (.restarted (s.wx.table.get c).interval) s) at hset
  generalize setWork c (.restarted (s.wx.table.get c).interval) s = t at *
  have hcond : t.cond = s.cond := hset .cond (by decide)
  have hsign : t.sign = s.sign := hset .sign (by decide)
  show (changeCondition false (condLow c) false (changeCondition false (condHigh c) false
      (changeCondition false (condFault c) false t))).wx = _ ∧
    (changeCondition false (condLow c) false (changeCondition false (condHigh c) false
      (changeCondition false (condFault c) false t))).cond = _ ∧
    SignStands s.sign (changeCondition false (condLow c) false (changeCondition false (condHigh c)
      false (changeCondition false (condFault c) false t))).sign ∧
    Changes _ s (changeCondition false (condLow c) false (changeCondition false (condHigh c) false
      (changeCondition false (condFault c) false t)))
  obtain ⟨hc1, hs1, ht1⟩ := changeCondition_unjudged (condFault c) false t
  generalize changeCondition false (condFault c) false t = t1 at *
  obtain ⟨hc2, hs2, ht2⟩ := changeCondition_unjudged (condHigh c) false t1
  generalize changeCondition false (condHigh c) false t1 = t2 at *
  obtain ⟨hc3, hs3, ht3⟩ := changeCondition_unjudged (condLow c) false t2
  generalize changeCondition false (condLow c) false t2 = t3 at *
  have hall := (ht1.trans ht2).trans ht3
  refine ⟨(hall .wx (by decide)).trans hwx, ?_, hsign ▸ (hs1.trans hs2).trans hs3,
    (hset.mono (by decide)).trans (hall.mono (by decide))⟩
  rw [hc3, hc2, hc1, hcond]
  rfl

/-- What the restart of the channels of a list leaves. -/
structure WeatherRestarted (cs : List (Fin 16)) (s t : State) : Prop where
  wx      : t.wx = { s.wx with work := t.wx.work }
  work    : ∀ c, c ∈ cs ∨ s.wx.work.get c = .restarted (s.wx.table.get c).interval →
    t.wx.work.get c = .restarted (s.wx.table.get c).interval
  cond    : t.cond = { s.cond with copy := t.cond.copy }
  high    : ∀ c, c ∈ cs ∨ s.cond.copy.get (condHigh c) = false →
    t.cond.copy.get (condHigh c) = false
  others  : ∀ k : Fin 64, 48 ≤ k.val → t.cond.copy.get k = s.cond.copy.get k
  sign    : SignStands s.sign t.sign
  changes : Changes [.wx, .cond, .sign] s t

theorem restartChannels (cs : List (Fin 16)) (s : State) :
    WeatherRestarted cs s (cs.foldl (fun s c => restartChannel false c s) s) := by
  induction cs generalizing s with
  | nil => exact ⟨rfl, fun _ h => h.resolve_left List.not_mem_nil, rfl,
      fun _ h => h.resolve_left List.not_mem_nil, fun _ _ => rfl, .refl _, .refl _ s⟩
  | cons c cs ih =>
    obtain ⟨hwx, hcond, hsign, hchanges⟩ := restartChannel_unjudged c s
    have h := ih (restartChannel false c s)
    rw [List.foldl_cons]
    generalize restartChannel false c s = t at *
    have htable : t.wx.table = s.wx.table := by rw [hwx]
    refine ⟨?_, fun k hk => ?_, ?_, fun k hk => ?_, fun k hk => ?_, hsign.trans h.sign,
      hchanges.trans h.changes⟩
    · rw [h.wx, hwx]
    · rw [← htable]
      refine h.work k ?_
      rw [htable, hwx]
      by_cases he : c = k
      · subst he
        exact .inr ((Tab.get_set ..).trans (if_pos rfl))
      · exact hk.imp (fun hm => (List.mem_cons.1 hm).resolve_left (Ne.symm he)) fun hw =>
          ((Tab.get_set ..).trans (if_neg he)).trans hw
    · rw [h.cond, hcond]
    · refine h.high k ?_
      rw [hcond]
      by_cases he : c = k
      · subst he
        exact .inr (channelCleared_high c _)
      · exact hk.imp (fun hm => (List.mem_cons.1 hm).resolve_left (Ne.symm he))
          (channelCleared_clear c)
    · rw [h.others k hk, hcond]
      exact channelCleared_other c _ hk

theorem restartWeather_restarted (s : State) :
    WeatherRestarted (indices 16) s (restartWeather s) := restartChannels _ s

/-! ## The sign sends its page again (R196) -/

/-- What leads the selected page: the marker, when a command was cut off. -/
def restartLead (g : SignController) : Octets :=
  match g.sender.state with
  | .sending => abortMarker
  | _ => []

theorem signCommand_unmarked (fields : Octets) : (signCommand fields).take 2 ≠ [0x18, 0x18] := by
  intro h
  have h0 := congrArg (fun xs => xs.head?) h
  simp [signCommand] at h0

/-- The lead is read off the line. -/
theorem lead_of_line {lead cmd : Octets} (hl : lead = abortMarker ∨ lead = [])
    (hc : cmd.take 2 ≠ [0x18, 0x18]) :
    lead = if (lead ++ cmd).take 2 = [0x18, 0x18] then [0x18, 0x18] else [] := by
  rcases hl with rfl | rfl
  · exact (if_pos rfl).symm
  · exact (if_neg hc).symm

/-- The Sign Controller as its exchange and its test request end. -/
def signEnded (g : SignController) : SignController :=
  { g with
    test := none
    sender := { g.sender with state := .awaiting, exchange := .none, line := []
                              answerTimer := none } }

/-- The Sign Controller as the transfer of a RESTART starts from it. -/
def signChosen (copy : Tab Bool 64) (g : SignController) : SignController :=
  let chosen := reevaluate copy true (signEnded g)
  { chosen with sender := { chosen.sender with state := .idle } }

theorem restartSign_eq (copy : Tab Bool 64) (g : SignController) :
    restartSign copy g = startSelected (restartLead g) (signChosen copy g) := rfl

theorem restartSign_selects (copy : Tab Bool 64) (g : SignController) :
    (restartSign copy g).selection = winner copy { g with test := none } := by
  rw [restartSign_eq]
  exact (reevaluate_selects copy (signEnded g)).trans (winner_congr copy rfl rfl rfl rfl)

theorem restartSign_requests (copy : Tab Bool 64) (g : SignController) :
    (restartSign copy g).test = none ∧ (restartSign copy g).centre = g.centre := by
  have h := reevaluate_stands copy true (signEnded g)
  rw [restartSign_eq]
  exact ⟨h.test, h.centre⟩

theorem startSelected_started (lead : Octets) (g : SignController) :
    TransferStarted (startSelected lead g) lead (startSelected lead g).selection.page 1 :=
  ⟨rfl, rfl, rfl, rfl, rfl, rfl, rfl⟩

theorem restartSign_started (copy : Tab Bool 64) (g : SignController) :
    TransferStarted (restartSign copy g)
      (if (restartSign copy g).sender.line.take 2 = [0x18, 0x18] then [0x18, 0x18] else [])
      (restartSign copy g).selection.page 1 := by
  have hstart := startSelected_started (restartLead g) (signChosen copy g)
  rw [← restartSign_eq] at hstart
  have hlead : restartLead g = abortMarker ∨ restartLead g = [] := by
    unfold restartLead
    cases g.sender.state
    · exact .inr rfl
    · exact .inl rfl
    · exact .inr rfl
  have hline : (restartSign copy g).sender.line = _ := hstart.2.2.1
  rw [hline, ← lead_of_line hlead]
  · exact hstart
  · split
    · exact signCommand_unmarked _
    · exact signCommand_unmarked _

/-- A command cut off is marked. -/
theorem restartSign_marked (copy : Tab Bool 64) {g : SignController}
    (h : g.sender.state = .sending) :
    (restartSign copy g).sender.line.take 2 = [0x18, 0x18] := by
  have hstart := startSelected_started (restartLead g) (signChosen copy g)
  rw [← restartSign_eq] at hstart
  have hline : (restartSign copy g).sender.line = _ := hstart.2.2.1
  have hlead : restartLead g = abortMarker := by
    unfold restartLead
    rw [h]
  rw [hline, hlead]
  rfl

end Sys2Proof.Machine
end

section
/-! PROOFS. Frames switched, part 10: the blocks of the node through a RESTART, and the node after it
(O52). -/

namespace Sys2Proof.Machine

set_option Elab.async false

/-! ## The blocks, in their order (R84, R123, R137, R160, R175, R196) -/

/-- The node after its tolls have moved, from the flushed state `w`. -/
def tollsMoved (w : State) : State :=
  journalRaised (journalLevels w) (restartTolls (phoneRestart hand w))

/-- The node after its channels have restarted and its event list is empty. -/
def weatherRestarted (u : State) : State :=
  (restartWeather u).modCond fun c => { c with events := [] }

/-- The node after its sign has restarted. -/
def signRestarted (u : State) : State := u.modSign (restartSign u.cond.copy)

/-- The end of a RESTART on the master: the walk ends (R208). -/
def walkEnded (x : State) : State := if x.isMaster then walkRestart x else x

theorem restartBlocks_eq (w : State) :
    restartBlocks w = walkEnded (signRestarted (weatherRestarted (tollsMoved w))) := by
  unfold restartBlocks walkEnded signRestarted weatherRestarted tollsMoved restartTolls
  rfl

/-- The toll blocks after call signalling, from the flushed state `w`. -/
structure TollsMoved (w t : State) : Prop where
  calls    : ∀ p ∈ callParts, SamePart (phoneRestart hand w) t p
  toll     : t.toll = { w.toll with
    pendingTable := []
    restartMoved := bumps w.toll.pendingTable.length w.toll.restartMoved }
  journal  : w.journal.records.length ≤ 512 →
    t.journal.records = (w.journal.records.map backToWaiting ++
      w.toll.pendingTable.map (movedRecord w.journal.seconds)).take 512 ∧
    t.journal.seconds = w.journal.seconds ∧ t.journal.drain = w.journal.drain
  period   : t.period = { w.period with
    raised := w.period.raised ++
      (if w.journal.records = [] ∧ t.journal.records ≠ [] then [condJournalNonempty] else []) ++
      (if w.journal.records.length < 512 ∧ 512 ≤ t.journal.records.length
       then [condJournalFull] else []) }
  changes  : Changes (callParts ++ [.toll, .journal, .period]) w t

theorem tollsMoved_moved (w : State) : TollsMoved w (tollsMoved w) := by
  have hp := phoneRestart_changes hand_keeps w
  have hj := restartTolls_changes (phoneRestart hand w)
  have ht := restartTolls_toll (phoneRestart hand w)
  have hjournal := restartTolls_journal (s := phoneRestart hand w)
  unfold tollsMoved
  generalize ha : phoneRestart hand w = a at *
  have hraised := journalRaised_raised w (restartTolls a)
  generalize restartTolls a = b at *
  have hr := journalRaised_changes (journalLevels w) b
  have hcalls : Changes [.toll, .journal, .period] a (journalRaised (journalLevels w) b) :=
    (hj.mono (by decide)).trans (hr.mono (by decide))
  rw [show a.toll = w.toll from hp .toll (by decide)] at ht hjournal
  rw [show a.journal = w.journal from hp .journal (by decide)] at hjournal
  rw [show b.period = w.period from
    (hj .period (by decide)).trans (hp .period (by decide))] at hraised
  exact ⟨fun p hm => ha ▸ hcalls p (by revert p; decide), ht, hjournal, hraised,
    (hp.mono (by decide)).trans (hcalls.mono (by decide))⟩

/-- The weather channels, the events and the sign of a state `u`, restarted. -/
structure SignRestarted (u t : State) : Prop where
  wx       : t.wx = { u.wx with work := t.wx.work }
  work     : ∀ c, t.wx.work.get c = .restarted (u.wx.table.get c).interval
  cond     : t.cond = { u.cond with copy := t.cond.copy, events := [] }
  high     : ∀ c, t.cond.copy.get (condHigh c) = false
  others   : ∀ k : Fin 64, 48 ≤ k.val → t.cond.copy.get k = u.cond.copy.get k
  sign     : ∃ g, SignStands u.sign g ∧ t.sign = restartSign t.cond.copy g
  changes  : Changes [.wx, .cond, .sign] u t

theorem signRestarted_restarted (u : State) :
    SignRestarted u (signRestarted (weatherRestarted u)) := by
  have hw := restartWeather_restarted u
  unfold weatherRestarted signRestarted
  generalize restartWeather u = d at *
  refine ⟨hw.wx, fun k => hw.work k (.inl (List.mem_finRange k)), ?_,
    fun k => hw.high k (.inl (List.mem_finRange k)), hw.others, ⟨d.sign, hw.sign, rfl⟩,
    hw.changes.trans
      (((modCond_changes _ d).mono (by decide)).trans ((modSign_changes _ _).mono (by decide)))⟩
  show { d.cond with events := [] } = { u.cond with copy := d.cond.copy, events := [] }
  rw [hw.cond]

end Sys2Proof.Machine
end

section
/-! PROOFS. Frames switched, part 11: the node after a RESTART, part by part (O52). -/

namespace Sys2Proof.Machine

set_option Elab.async false

/-! ## The walk of the master ends (R208) -/

section
variable {x : State}

/-- The walk is over, its timer stopped. -/
def walkStopped (x : State) : State :=
  x.modAgent fun g => { g with walk := { g.walk with running := false, timer := none } }

theorem walkEnded_slave (hm : x.isMaster = false) : walkEnded x = x :=
  if_neg (by rw [hm]; decide)

theorem walkEnded_idle (hr : x.agent.walk.running = false) : walkEnded x = x := by
  unfold walkEnded walkRestart
  split
  · exact if_neg (by rw [hr]; decide)
  · rfl

theorem walkEnded_running (hm : x.isMaster = true) (hr : x.agent.walk.running = true) :
    walkEnded x = respond x.agent.walk.head (walkDone x 3) (walkStopped x) := by
  unfold walkEnded walkRestart
  rw [if_pos hm, if_pos hr]
  rfl

theorem walkEnded_changes (x : State) : Changes respondParts x (walkEnded x) :=
  .ite (.ite (((modAgent_changes _ x).mono (by decide)).trans (respond_changes _ _ _)) (.refl _ x))
    (.refl _ x)

/-- Its response, if any, leaves the queues. -/
theorem walkEnded_sw (x : State) : (walkEnded x).sw = x.sw ∨
    ∃ c r p f, (walkEnded x).sw = discardFrame c r p f x.sw := by
  cases hm : x.isMaster
  · exact .inl (congrArg State.sw (walkEnded_slave hm))
  cases hr : x.agent.walk.running
  · exact .inl (congrArg State.sw (walkEnded_idle hr))
  rw [walkEnded_running hm hr]
  obtain ⟨hsw, -⟩ | ⟨-, hsw⟩ :=
    respond_master x.agent.walk.head (walkDone x 3) (walkStopped x) hm
  · exact .inl hsw
  · exact .inr ⟨_, _, _, _, hsw⟩

theorem walkEnded_agent (hm : x.isMaster = true) (hr : x.agent.walk.running = true) :
    (walkEnded x).agent = { x.agent with
      walk := { x.agent.walk with running := false, timer := none }
      responsesSent := bump x.agent.responsesSent } := by
  rw [walkEnded_running hm hr]
  exact respond_agent ..

/-- While the uplink is up, the DONE of a running walk leaves by it. -/
theorem walkEnded_uplink (hm : x.isMaster = true) (hr : x.agent.walk.running = true)
    (hu : x.pins.uplinkUp = true) : ∃ g,
    ResponseFrame x x.agent.walk.head (walkDone x 3) g ∧
      (walkEnded x).out.uplink = x.out.uplink ++ [encodeFrame g] := by
  rw [walkEnded_running hm hr]
  refine ⟨_, responseOf_frame x.agent.walk.head (walkDone x 3) (walkStopped x), ?_⟩
  obtain ⟨-, hout⟩ | ⟨hdown, -⟩ :=
    respond_master x.agent.walk.head (walkDone x 3) (walkStopped x) hm
  · exact hout
  · exact Bool.noConfusion (hu.symm.trans hdown)

end

/-! ## The switch (R63) -/

/-- Beyond the VSIG queue and the counts, the switch stands as the flush left it. -/
theorem phoneRestart_switch (w : State) :
    (phoneRestart hand w).phone.statusTimer = w.phone.statusTimer ∧
    flushCount (phoneRestart hand w).sw = flushCount w.sw ∧
    { (phoneRestart hand w).sw with
      vsig := [], taken := 0, discards := .fill 11 0, records := [] } =
    { w.sw with vsig := [], taken := 0, discards := .fill 11 0, records := [] } := by
  have h := phoneRestart_beyond hand_beyond w
  generalize phoneRestart hand w = a at *
  exact ⟨congrArg Prod.fst h, congrArg (·.2.1) h, congrArg (·.2.2) h⟩

/-- The switch holds nothing but `kept` in MGMT and what VSIG has; the accept table and B are those of
`sw`. -/
structure OnlyMgmt (kept : List Frame) (sw sw' : FrameSwitch) : Prop where
  alarm   : sw'.alarm = []
  others  : ∀ k ∈ [QueueName.tollLive, .tollDeferred, .sign, .wx], queueFrames sw' k = []
  mgmt    : sw'.mgmt = kept
  holding : sw'.holding = []
  pool    : sw'.pool = []
  accept  : sw'.accept = sw.accept
  budget  : sw'.budget = sw.budget

theorem OnlyMgmt.discardFrame {kept : List Frame} {sw sw' : FrameSwitch}
    (h : OnlyMgmt kept sw sw') (c : Half) (r : DiscardReason) (p : Place) (f : Frame) :
    OnlyMgmt kept sw (discardFrame c r p f sw') :=
  ⟨h.alarm, h.others, h.mgmt, h.holding, h.pool, h.accept, h.budget⟩

theorem respond_budget (h : Head) (r : Result) (s : State) :
    (respond h r s).sw.budget = s.sw.budget := by
  obtain ⟨q, gs, c, x, p, fs, he⟩ := respond_sw h r s
  rw [he, setQueue_budget, discardAll_budget]

theorem phoneRestart_onlyMgmt (h : Head) (s : State) :
    OnlyMgmt (spared h s) s.sw (phoneRestart hand (restartFlushed h s)).sw := by
  obtain ⟨-, -, hsw⟩ := phoneRestart_switch (restartFlushed h s)
  generalize (phoneRestart hand (restartFlushed h s)).sw = sw at *
  refine ⟨congrArg FrameSwitch.alarm hsw, fun k hk => ?_, congrArg FrameSwitch.mgmt hsw,
    congrArg FrameSwitch.holding hsw, congrArg FrameSwitch.pool hsw,
    (congrArg FrameSwitch.accept hsw).trans (respond_accept h (.done 0) s),
    (congrArg FrameSwitch.budget hsw).trans (respond_budget h (.done 0) s)⟩
  simp only [List.mem_cons, List.not_mem_nil, or_false] at hk
  rcases hk with rfl | rfl | rfl | rfl
  · exact congrArg FrameSwitch.tollLive hsw
  · exact congrArg FrameSwitch.tollDeferred hsw
  · exact congrArg FrameSwitch.sign hsw
  · exact congrArg FrameSwitch.wx hsw

end Sys2Proof.Machine
end

section
/-! PROOFS. Frames switched, part 12: a RESTART as a whole (O52). -/

namespace Sys2Proof.Machine

set_option Elab.async false

/-! ## The Phone Interface of a slave (R84) -/

theorem liftedPosition_idle (r : Bool) (p : Position) :
    (liftedPosition r (idlePosition p)).call =
      (if p.debounced = .on then .idle else if r then .requesting else .held) ∧
    (liftedPosition r (idlePosition p)).priority = false ∧
    (liftedPosition r (idlePosition p)).resume = false ∧
    (liftedPosition r (idlePosition p)).answer = false ∧
    (liftedPosition r (idlePosition p)).ring = none ∧
    (liftedPosition r (idlePosition p)).place = none ∧
    (liftedPosition r (idlePosition p)).debounced = p.debounced ∧
    (liftedPosition r (idlePosition p)).hookCount = p.hookCount ∧
    (liftedPosition r (idlePosition p)).holdCount = p.holdCount := by
  unfold liftedPosition
  split
  · next hoff =>
    have hnot : ¬ p.debounced = .on := fun hon => by
      rw [show p.debounced = .off from hoff] at hon
      exact Hook.noConfusion hon
    rw [if_neg hnot]
    cases r <;> exact ⟨rfl, rfl, rfl, rfl, rfl, rfl, rfl, rfl, rfl⟩
  · next hon =>
    have hat : p.debounced = .on := by
      cases hd : p.debounced
      · rfl
      · exact absurd hd hon
    rw [if_pos hat]
    exact ⟨rfl, rfl, rfl, rfl, rfl, rfl, rfl, rfl, rfl⟩

/-- The phone of a flushed slave `w` after a RESTART. -/
theorem phoneRestart_slave {w t : State} (hs : RingSlave w)
    (ht : t.phone = (phoneRestart hand w).phone) :
    (∀ q, posAt t q = liftedPosition (reachable w) (idlePosition (posAt w q))) ∧
    t.phone.releasesSent =
      bumps ((indices 4).filter fun k => (posAt w k).call != .idle).length w.phone.releasesSent ∧
    t.phone.active = { version := w.phone.active.version, entries := .fill 4 none } ∧
    t.phone.pendingAt = none ∧ t.phone.cleared = true ∧
    (phoneRestart hand w).alloc = w.alloc := by
  obtain ⟨ps, n, hsig, hget⟩ := phoneRestart_signalled hs
  rw [hsig.phone] at ht
  refine ⟨fun q => ?_, ?_, ?_, ?_, ?_, hsig.changes .alloc (by decide)⟩
  · unfold posAt
    rw [ht]
    exact hget q
  all_goals
    rw [ht]
    rfl

/-- Its requests find room in VSIG: the flush is the newest record. -/
theorem phoneRestart_records {w : State} (hs : RingSlave w) (hi : isIsolated w = false)
    (hv : w.sw.vsig = []) : (phoneRestart hand w).sw.records = w.sw.records := by
  obtain ⟨ps, n, hsig, -⟩ := phoneRestart_signalled hs
  exact (hsig.room hi (by rw [hv]; decide)).1

/-! ## The command (R198, R205) -/

/-- The end of a RESTART: the cycle's drain waits, the request queue is flushed. -/
def restartEnded (h : Head) (y : State) : State :=
  (y.modPeriod fun p => { p with restarted := true }).modAgent fun a =>
    { a with requests := []
             requestsFlushed := bumpBy (leaveQueue (.restart h) a.requests).length a.requestsFlushed }

theorem restartNode_eq (h : Head) (s : State) :
    restartNode h (.restart h) s = restartEnded h (restartBlocks (restartFlushed h s)) := by
  have hm : (respond h (.done 0) s).isMaster = s.isMaster :=
    respond_changes h _ s .isMaster (by decide)
  have ht : (respond h (.done 0) s).timer = s.timer := respond_changes h _ s .timer (by decide)
  unfold restartNode restartEnded restartFlushed spared
  dsimp only
  rw [hm, ht]

theorem exec_restart {h : Head} {s : State} (hp : Permitted h 3 s) :
    exec (.restart h) s = .next (restartEnded h (walkEnded (signRestarted (weatherRestarted
      (tollsMoved (restartFlushed h (countRequest h s))))))) := by
  have hleft : ∀ y, (restartEnded h y).modAgent (fun a =>
      { a with requests := leaveQueue (.restart h) a.requests }) = restartEnded h y := fun _ => rfl
  show Host.Outcome.next (execRequest h 3 (.restart h) (restartNode h (.restart h)) s) = _
  rw [execRequest_permitted hp, restartNode_eq, restartBlocks_eq, hleft]

end Sys2Proof.Machine
end

section
/-! PROOFS. Frames switched, part 13: what a RESTART flushes, restarts and keeps, part by part
(O52). -/

namespace Sys2Proof.Machine

set_option Elab.async false

/-! ## The parts that the flush and the responses leave to the blocks -/

section
variable {s w u x t : State} (hw : Changes respondParts s w) (hu : TollsMoved w u)
  (hx : SignRestarted u x) (ht : Changes (respondParts ++ [.period]) x t)
include hw hu hx ht

omit hw in
theorem restart_calls :
    t.phone = (phoneRestart hand w).phone ∧ t.alloc = (phoneRestart hand w).alloc ∧
      x.sw = (phoneRestart hand w).sw :=
  ⟨(ht .phone (by decide)).trans
      ((hx.changes .phone (by decide)).trans (hu.calls .phone (by decide))),
    (ht .alloc (by decide)).trans
      ((hx.changes .alloc (by decide)).trans (hu.calls .alloc (by decide))),
    (hx.changes .sw (by decide)).trans (hu.calls .sw (by decide))⟩

theorem restart_tolls : t.toll = { s.toll with
      pendingTable := []
      restartMoved := bumps s.toll.pendingTable.length s.toll.restartMoved } ∧
    (s.journal.records.length ≤ 512 →
      t.journal.records = (s.journal.records.map backToWaiting ++
        s.toll.pendingTable.map (movedRecord s.journal.seconds)).take 512 ∧
      t.journal.seconds = s.journal.seconds ∧ t.journal.drain = s.journal.drain) := by
  have htoll : t.toll = u.toll := (ht .toll (by decide)).trans (hx.changes .toll (by decide))
  have hjournal : t.journal = u.journal :=
    (ht .journal (by decide)).trans (hx.changes .journal (by decide))
  have hwtoll : w.toll = s.toll := hw .toll (by decide)
  have hwjournal : w.journal = s.journal := hw .journal (by decide)
  rw [htoll, hjournal, ← hwtoll, ← hwjournal]
  exact ⟨hu.toll, hu.journal⟩

/-- What the hand-over has raised is noted till the cycle ends (R130). -/
theorem restart_raised : x.period.raised = s.period.raised ++
      (if s.journal.records = [] ∧ t.journal.records ≠ [] then [condJournalNonempty] else []) ++
      (if s.journal.records.length < 512 ∧ 512 ≤ t.journal.records.length
       then [condJournalFull] else []) ∧
    x.period = { s.period with raised := x.period.raised } := by
  have hperiod : x.period = u.period := hx.changes .period (by decide)
  have hjournal : t.journal = u.journal :=
    (ht .journal (by decide)).trans (hx.changes .journal (by decide))
  have hwperiod : w.period = s.period := hw .period (by decide)
  have hwjournal : w.journal = s.journal := hw .journal (by decide)
  rw [hperiod, hjournal, ← hwperiod, ← hwjournal, hu.period]
  exact ⟨rfl, rfl⟩

theorem restart_weather :
    t.wx = { s.wx with work := t.wx.work } ∧
    (∀ c, t.wx.work.get c = .restarted (s.wx.table.get c).interval) ∧
    t.cond = { s.cond with copy := t.cond.copy, events := [] } ∧
    (∀ c, t.cond.copy.get (condHigh c) = false) ∧
    ∀ k : Fin 64, 48 ≤ k.val → t.cond.copy.get k = s.cond.copy.get k := by
  have htwx : t.wx = x.wx := ht .wx (by decide)
  have htcond : t.cond = x.cond := ht .cond (by decide)
  have hwx : u.wx = s.wx := (hu.changes .wx (by decide)).trans (hw .wx (by decide))
  have hcond : u.cond = s.cond := (hu.changes .cond (by decide)).trans (hw .cond (by decide))
  rw [htwx, htcond, ← hwx, ← hcond]
  exact ⟨hx.wx, hx.work, hx.cond, hx.high, hx.others⟩

theorem restart_sign : t.sign.test = none ∧ t.sign.centre = s.sign.centre ∧
    t.sign.rules = s.sign.rules ∧ t.sign.pages = s.sign.pages ∧ t.sign.store = s.sign.store ∧
    t.sign.selection.page = (winner t.cond.copy { s.sign with test := none }).page ∧
    TransferStarted t.sign (if t.sign.sender.line.take 2 = [0x18, 0x18] then [0x18, 0x18] else [])
      t.sign.selection.page 1 ∧
    (s.sign.sender.state = .sending → t.sign.sender.line.take 2 = [0x18, 0x18]) := by
  have htcond : t.cond = x.cond := ht .cond (by decide)
  have hus : u.sign = s.sign := (hu.changes .sign (by decide)).trans (hw .sign (by decide))
  obtain ⟨g, hg, hgx⟩ := hx.sign
  have htsign : t.sign = restartSign x.cond.copy g := (ht .sign (by decide)).trans hgx
  rw [hus] at hg
  rw [htsign, htcond]
  have hkept := restartSign_kept x.cond.copy g
  obtain ⟨htest, hcentre⟩ := restartSign_requests x.cond.copy g
  refine ⟨htest, hcentre.trans hg.centre, hkept.rules.trans hg.rules, hkept.pages.trans hg.pages,
    hkept.store.trans hg.store, ?_, restartSign_started _ _,
    fun h => restartSign_marked _ (hg.sending h)⟩
  rw [restartSign_selects]
  exact congrArg Selection.page (winner_congr _ hg.centre rfl hg.rules hg.pages)

theorem restart_changes :
    Changes ([.phone, .alloc] ++ tollParts ++ [.wx] ++ respondParts ++ [.period]) s t :=
  (hw.mono (by decide)).trans <| (hu.changes.mono (by decide)).trans <|
    (hx.changes.mono (by decide)).trans (ht.mono (by decide))

end

/-! ## The switch, the phone, the agent -/

section
variable {h : Head} {s x : State}

/-- The switch after a RESTART (R63). -/
theorem restart_switch (hx : x.sw = (phoneRestart hand (restartFlushed h s)).sw) :
    OnlyMgmt (spared h s) s.sw (walkEnded x).sw := by
  have hkept := phoneRestart_onlyMgmt h s
  rw [← hx] at hkept
  obtain hsw | ⟨c, r, p, f, hsw⟩ := walkEnded_sw x
  · exact hsw ▸ hkept
  · exact hsw ▸ hkept.discardFrame c r p f

theorem spared_response (ho : h.origin = .centre) : (spared h s).length ≤ 1 ∧
    ∀ f ∈ spared h s, ResponseFrame s h (.done 0) f ∧ s.isMaster = false := by
  obtain ⟨hnone | ⟨hm, hone⟩, -⟩ := spared_cases ho
  · rw [hnone]
    exact ⟨Nat.zero_le 1, nofun⟩
  · rw [hone]
    refine ⟨le_rfl, fun f hf => ?_⟩
    rw [List.mem_singleton.1 hf]
    exact ⟨responseOf_frame h (.done 0) s, hm⟩

theorem RingSlave.flushed (hs : RingSlave s) : RingSlave (restartFlushed h s) := by
  have ha : (restartFlushed h s).agent =
      { s.agent with responsesSent := bump s.agent.responsesSent } := respond_agent h (.done 0) s
  have hm : (restartFlushed h s).isMaster = s.isMaster :=
    restartFlushed_changes .isMaster (by decide)
  unfold RingSlave at hs ⊢
  rwa [ha, hm]

/-- On a slave the flush is counted, and it is the newest record where the DONE and the requests find
room. -/
theorem restart_flush (ho : h.origin = .centre) (hs : RingSlave s) :
    flushCount (phoneRestart hand (restartFlushed h s)).sw =
      bumpBy (flushedFrames s.sw) (flushCount s.sw) ∧
    (isIsolated s = false → s.sw.mgmt.length < 8 → 64 ≤ s.sw.budget →
      (spared h s).length = 1 ∧ (phoneRestart hand (restartFlushed h s)).sw.records =
        ({ reason := .restartFlush, place := .allQueues, cycle := s.timer.number, fields := none
           flushed := some (flushedFrames s.sw) } :: s.sw.records).take 8) := by
  refine ⟨(phoneRestart_switch _).2.1.trans (restartFlushed_count ho), fun hi hl hb => ?_⟩
  obtain ⟨hone, hrecords⟩ := spared_queued ho hs.1 hs.2.1 hi hl hb
  have hiso : isIsolated (restartFlushed h s) = false :=
    (isIsolated_congr (restartFlushed_changes .prot (by decide))
      (restartFlushed_changes .line (by decide))).trans hi
  refine ⟨by rw [hone]; rfl, ?_⟩
  rw [phoneRestart_records hs.flushed hiso rfl, restartFlushed_records ho, hrecords]

/-- The agent after a RESTART (R199, R205, R208). -/
theorem restart_agent (hm : x.isMaster = s.isMaster) (ha : x.agent = (restartFlushed h s).agent) :
    ∃ wk n, (restartEnded h (walkEnded x)).agent = { s.agent with
        walk := wk
        responsesSent := n
        requests := []
        requestsFlushed :=
          bumpBy (leaveQueue (.restart h) s.agent.requests).length s.agent.requestsFlushed } ∧
      (s.isMaster = true → wk.running = false ∧
        (s.agent.walk.running = true →
          wk = { s.agent.walk with running := false, timer := none }) ∧
        n = bumps (if s.agent.walk.running then 2 else 1) s.agent.responsesSent) := by
  have hflush : x.agent = { s.agent with responsesSent := bump s.agent.responsesSent } :=
    ha.trans (respond_agent h (.done 0) s)
  have hwalk : x.agent.walk = s.agent.walk := by rw [hflush]
  have hend : ∀ {wk n}, (walkEnded x).agent = { s.agent with walk := wk, responsesSent := n } →
      (restartEnded h (walkEnded x)).agent = { s.agent with
        walk := wk
        responsesSent := n
        requests := []
        requestsFlushed :=
          bumpBy (leaveQueue (.restart h) s.agent.requests).length s.agent.requestsFlushed } := by
    intro wk n hy
    unfold restartEnded
    dsimp only [State.modPeriod, State.modAgent]
    rw [hy]
  cases hrun : s.agent.walk.running
  · have hy : (walkEnded x).agent = { s.agent with
        walk := s.agent.walk, responsesSent := bump s.agent.responsesSent } := by
      rw [walkEnded_idle (hwalk ▸ hrun)]
      exact hflush
    exact ⟨_, _, hend hy, fun _ => ⟨hrun, nofun, rfl⟩⟩
  cases hmaster : s.isMaster
  · have hy : (walkEnded x).agent = { s.agent with
        walk := s.agent.walk, responsesSent := bump s.agent.responsesSent } := by
      rw [walkEnded_slave (hm.trans hmaster)]
      exact hflush
    exact ⟨_, _, hend hy, nofun⟩
  · have hy : (walkEnded x).agent = { s.agent with
        walk := { s.agent.walk with running := false, timer := none }
        responsesSent := bump (bump s.agent.responsesSent) } := by
      rw [walkEnded_agent (hm.trans hmaster) (hwalk ▸ hrun), hflush]
    exact ⟨_, _, hend hy, fun _ => ⟨rfl, fun _ => rfl, rfl⟩⟩

/-- Its responses leave the master by the uplink (R199, R208). -/
theorem restart_uplink (hm : s.isMaster = true) (hu : s.pins.uplinkUp = true)
    (hx : Changes [.phone, .alloc, .sw, .openIndex, .toll, .journal, .period, .wx, .cond, .sign]
      (restartFlushed h s) x) :
    ∃ f, ResponseFrame s h (.done 0) f ∧
      if s.agent.walk.running then
        ∃ g, ResponseFrame s s.agent.walk.head (.done (s.agent.walk.given * 256 + 3)) g ∧
          (walkEnded x).out.uplink = s.out.uplink ++ [encodeFrame f, encodeFrame g]
      else (walkEnded x).out.uplink = s.out.uplink ++ [encodeFrame f] := by
  have hw : Changes respondParts s (restartFlushed h s) := restartFlushed_changes
  have hagent : x.agent = { s.agent with responsesSent := bump s.agent.responsesSent } :=
    (hx .agent (by decide)).trans (respond_agent h (.done 0) s)
  have hmaster : x.isMaster = true :=
    ((hx .isMaster (by decide)).trans (hw .isMaster (by decide))).trans hm
  have hpins : x.pins = s.pins := (hx .pins (by decide)).trans (hw .pins (by decide))
  have hout : x.out.uplink = s.out.uplink ++ [encodeFrame (responseOf h (.done 0) s)] := by
    rw [show x.out = (restartFlushed h s).out from hx .out (by decide)]
    obtain ⟨-, hsent⟩ | ⟨hdown, -⟩ := respond_master h (.done 0) s hm
    · exact hsent
    · exact Bool.noConfusion (hu.symm.trans hdown)
  refine ⟨_, responseOf_frame h (.done 0) s, ?_⟩
  split
  · next hr =>
    have hrx : x.agent.walk.running = true := by
      rw [hagent]
      exact hr
    obtain ⟨g, hg, hsent⟩ := walkEnded_uplink hmaster hrx (hpins ▸ hu)
    refine ⟨g, ?_, ?_⟩
    · unfold walkDone ResponseFrame at hg
      rw [hagent] at hg
      exact hg
    · rw [hsent, hout, List.append_assoc]
      rfl
  · next hr =>
    have hrx : x.agent.walk.running = false := by
      rw [hagent]
      exact Bool.eq_false_iff.2 hr
    rw [walkEnded_idle hrx]
    exact hout

end

end Sys2Proof.Machine
end

section
/-! PROOFS. Frames switched, part 14: conditions 56 and 57 as the cycle of a RESTART ends (O52). -/

namespace Sys2Proof.Machine

set_option Elab.async false

/-! ## A rise that is judged (R164) -/

/-- The event of a rising edge. -/
def risenEvent (s : State) (c : Fin 64) : PendingEvent :=
  { condition := c, rise := true, level := (s.cond.table.get c).level, stamp := s.journal.seconds
    repeats := 1 }

/-- A report leaves the events and their count. -/
theorem reportTrigger_events (s : State) :
    (reportTrigger s).cond.events = s.cond.events ∧
      (reportTrigger s).cond.eventsMade = s.cond.eventsMade := by
  have h : (sendToCentre .alarm svcAlarm (octet ((reportableEvents s).length - 62))
      (((reportableEvents s).take 62).flatMap encodeEvent) s).1.cond = s.cond :=
    sendToCentre_changes _ _ _ _ s .cond (by decide)
  have hevents := congrArg ConditionUnit.events h
  have hmade := congrArg ConditionUnit.eventsMade h
  unfold reportTrigger offerReport
  dsimp only
  split
  · split
    · exact ⟨rfl, rfl⟩
    · exact ⟨hevents, hmade⟩
  · exact ⟨rfl, rfl⟩

/-- A first rising edge makes its event. -/
theorem judgeEdge_rise {s : State} {c : Fin 64} (hl : 1 ≤ (s.cond.table.get c).level)
    (hn : ∀ x ∈ s.cond.events, x.condition ≠ c) :
    (judgeEdge c true s).cond.events = s.cond.events ++ [risenEvent s c] ∧
      (judgeEdge c true s).cond.eventsMade = bump s.cond.eventsMade := by
  have hevent : isEvent (s.cond.table.get c) true = true := by
    unfold isEvent
    rw [decide_eq_true hl]
    rfl
  have hnone : ¬ s.cond.events.any (isPair c true) = true := fun h => by
    obtain ⟨x, hx, hp⟩ := List.any_eq_true.1 h
    unfold isPair at hp
    exact hn x hx (eq_of_beq (Bool.and_eq_true_iff.1 hp).1)
  unfold judgeEdge
  dsimp only
  rw [hevent, if_neg (by decide), if_neg hnone]
  split
  · exact reportTrigger_events _
  · exact ⟨rfl, rfl⟩

/-- A flag that rises: its event. -/
theorem changeCondition_rise {s : State} {c : Fin 64} (hc : s.cond.copy.get c = false)
    (hl : 1 ≤ (s.cond.table.get c).level) (hn : ∀ x ∈ s.cond.events, x.condition ≠ c) :
    (changeCondition true c true s).cond.events = s.cond.events ++ [risenEvent s c] ∧
      (changeCondition true c true s).cond.eventsMade = bump s.cond.eventsMade := by
  unfold changeCondition
  rw [if_neg (by rw [hc]; decide)]
  exact judgeEdge_rise (s := s.modCond fun u => { u with copy := u.copy.set c true }) hl hn

/-! ## The journal's conditions at the end of a cycle (R130) -/

/-- Where one of the two has risen and the other stands, that one alone is handed: without judgement
when a RESTART of the cycle has raised it. -/
theorem journalConditions_rise {s : State} {c : Fin 64}
    (hc : c = condJournalNonempty ∨ c = condJournalFull) (hup : ownerFlag s c.val = true)
    (hothers : ∀ k ∈ [condJournalNonempty, condJournalFull], k ≠ c →
      s.cond.copy.get k = ownerFlag s k.val) :
    journalConditions s = changeCondition (!s.period.raised.contains c) c true s := by
  have hnonempty : ownerFlag s condJournalNonempty.val = decide (s.journal.records ≠ []) := by
    rw [(ownerFlag_settled s).2.2.1]
    cases s.journal.records <;> rfl
  have hfull : ownerFlag s condJournalFull.val = decide (512 ≤ s.journal.records.length) :=
    (ownerFlag_settled s).2.2.2
  show changeCondition (!(decide (512 ≤ s.journal.records.length) &&
      s.period.raised.contains condJournalFull)) condJournalFull
      (decide (512 ≤ s.journal.records.length))
    (changeCondition (!(decide (s.journal.records ≠ []) &&
      s.period.raised.contains condJournalNonempty)) condJournalNonempty
      (decide (s.journal.records ≠ [])) s) = _
  rw [← hfull, ← hnonempty]
  rcases hc with rfl | rfl
  · have hother := hothers condJournalFull (by simp) (by decide)
    rw [hup, changeCondition_same (c := condJournalFull)]
    · rfl
    · rw [changeCondition_copy, Tab.get_set, if_neg (by decide), hother]
  · have hother := hothers condJournalNonempty (by simp) (by decide)
    rw [hup, changeCondition_same (c := condJournalNonempty) _ hother]
    rfl

/-- Protection and reachability stand: the end of the cycle hands the journal's conditions alone. -/
theorem settleCycle_journal {s : State}
    (hp : s.prot.state = protectionOf s.line.w.health s.line.e.health) (hi : isIsolated s = false)
    (hh : s.prot.handed = s.prot.linked)
    (hc : ∀ k ∈ [condWrapped, condIsolated], s.cond.copy.get k = ownerFlag s k.val) :
    settleCycle s = journalConditions s := by
  obtain ⟨hwrapped, hisolated, -⟩ := ownerFlag_settled s
  have h49 : s.cond.copy.get condWrapped = _ := (hc _ (by simp)).trans hwrapped
  have h50 : s.cond.copy.get condIsolated = _ := (hc _ (by simp)).trans hisolated
  have hprotection : protectionConditions s = s := by
    refine foldl_changeCondition_same (fun _ => true) fun c hmem => ?_
    split at hmem
    all_goals
      simp only [List.mem_cons, List.not_mem_nil, or_false] at hmem
      rcases hmem with rfl | rfl
      · assumption
      · assumption
  unfold settleCycle
  rw [(settleProtection_stands hp).2 hi, handReach, if_pos hh.symm, hprotection]

/-- The end of a cycle in which one of the journal's conditions has risen. -/
theorem settlePeriod_rise {s : State} {c : Fin 64}
    (hp : s.prot.state = protectionOf s.line.w.health s.line.e.health) (hi : isIsolated s = false)
    (hh : s.prot.handed = s.prot.linked) (hc : c = condJournalNonempty ∨ c = condJournalFull)
    (hup : ownerFlag s c.val = true)
    (hothers : ∀ k ∈ [condWrapped, condIsolated, condJournalNonempty, condJournalFull], k ≠ c →
      s.cond.copy.get k = ownerFlag s k.val) :
    (settlePeriod s).cond =
        (changeCondition (!s.period.raised.contains c) c true s).cond ∧
      (settlePeriod s).sw = (changeCondition (!s.period.raised.contains c) c true s).sw := by
  have hafter := settlePeriod_changes_after s
  rw [settleCycle_journal hp hi hh fun k hk => hothers k (by
      simp only [List.mem_cons, List.not_mem_nil, or_false] at hk ⊢
      tauto) (by
      rintro rfl
      revert hk
      rcases hc with rfl | rfl <;> decide),
    journalConditions_rise hc hup fun k hk => hothers k (by
      simp only [List.mem_cons, List.not_mem_nil, or_false] at hk ⊢
      tauto)] at hafter
  exact ⟨hafter .cond (by decide), hafter .sw (by decide)⟩

end Sys2Proof.Machine
end

section
/-! PROOFS. Frames switched, part 15: RESTART, settled (O52). -/

namespace Sys2Proof.Machine

set_option Elab.async false

/-- A permitted RESTART is the centre's (R200). -/
theorem restart_ofCentre {h : Head} {s : State} (hp : Permitted h 3 s) : h.origin = .centre := by
  cases ho : h.origin
  · rfl
  · exact Bool.noConfusion (hp.1 ho).2

/-- Settles O52: the command part by part, then the end of its cycle, where a rise that it noted is
not judged. -/
theorem restartKeeps : Obligations.RestartKeeps := by
  unfold Obligations.RestartKeeps
  refine ⟨fun h q c s hp _ hj => ?_,
    fun c s hstage hprot hi hh hc hcopy hup hothers hevents hlevel => ?_⟩
  · have ho := restart_ofCentre hp
    have hcounted : Changes respondParts s (countRequest h s) :=
      (countRequest_changes h s).mono (by decide)
    have hw : Changes respondParts s (restartFlushed h (countRequest h s)) :=
      hcounted.trans restartFlushed_changes
    have hu := tollsMoved_moved (restartFlushed h (countRequest h s))
    have hx := signRestarted_restarted (tollsMoved (restartFlushed h (countRequest h s)))
    have hexec := exec_restart hp
    generalize tollsMoved (restartFlushed h (countRequest h s)) = u at *
    generalize signRestarted (weatherRestarted u) = x at *
    have ht : Changes (respondParts ++ [.period]) x (restartEnded h (walkEnded x)) :=
      ((walkEnded_changes x).mono (by decide)).trans
        (((modPeriod_changes _ _).mono (by decide)).trans ((modAgent_changes _ _).mono (by decide)))
    obtain ⟨hphone, halloc, hsw⟩ := restart_calls hu hx ht
    obtain ⟨htoll, hjournal⟩ := restart_tolls hw hu hx ht
    obtain ⟨hraised, hperiod⟩ := restart_raised hw hu hx ht
    obtain ⟨hwx, hwork, hcond, hhigh, hcopies⟩ := restart_weather hw hu hx ht
    obtain ⟨htest, hcentre, hrules, hpages, hstore, hselected, hsent, hmarked⟩ :=
      restart_sign hw hu hx ht
    have hall := restart_changes hw hu hx ht
    obtain ⟨hrecords, hseconds, hdrain⟩ := hjournal hj
    have honly : OnlyMgmt (spared h (countRequest h s)) s.sw (restartEnded h (walkEnded x)).sw :=
      restart_switch (s := countRequest h s) hsw
    obtain ⟨hspared, hresponse⟩ := spared_response (s := countRequest h s) ho
    have hreach : Changes [.phone, .alloc, .sw, .openIndex, .toll, .journal, .period, .wx, .cond,
        .sign] (restartFlushed h (countRequest h s)) x :=
      (hu.changes.mono (by decide)).trans (hx.changes.mono (by decide))
    have hmaster : x.isMaster = s.isMaster :=
      (hreach .isMaster (by decide)).trans (hw .isMaster (by decide))
    obtain ⟨wk, n, hagent, hwalk⟩ := restart_agent (h := h) (s := countRequest h s) hmaster
      (hreach .agent (by decide))
    have hslave : RingSlave s → (restartEnded h (walkEnded x)).sw =
        (phoneRestart hand (restartFlushed h (countRequest h s))).sw := fun hs =>
      (congrArg State.sw (walkEnded_slave (hmaster.trans hs.1))).trans hsw
    have hout : (restartEnded h (walkEnded x)).out = (walkEnded x).out := rfl
    have huplink := restart_uplink (h := h) (s := countRequest h s) (x := x)
    have hwphone : (restartFlushed h (countRequest h s)).phone = s.phone := hw .phone (by decide)
    have hposw : ∀ k, posAt (restartFlushed h (countRequest h s)) k = posAt s k := fun k =>
      congrArg (fun p : PhoneInterface => p.positions.get k) hwphone
    have hlive : reachable (restartFlushed h (countRequest h s)) = reachable s :=
      reachable_congr (hw .prot (by decide))
    have htimer := (phoneRestart_switch (restartFlushed h (countRequest h s))).1
    have htperiod : (restartEnded h (walkEnded x)).period = { x.period with restarted := true } := by
      have hwp : (walkEnded x).period = x.period := walkEnded_changes x .period (by decide)
      show { (walkEnded x).period with restarted := true } = _
      rw [hwp]
    generalize restartEnded h (walkEnded x) = t at *
    refine ⟨t, hexec, honly.alarm, honly.others, by rw [honly.mgmt]; exact hspared, honly.holding,
      honly.pool, honly.accept, honly.budget, fun f hf => hresponse f (honly.mgmt ▸ hf),
      fun hs => ?_, fun hs hiso hl hb => ?_, fun hs => ?_, ?_, htoll, hrecords, hseconds, hdrain,
      by rw [hwx], by rw [hwx],
      by rw [hwx], by rw [hwx],
      by rw [hwx], congrArg ChannelState.window (hwork c),
      congrArg ChannelState.mean (hwork c), congrArg ChannelState.high (hwork c),
      congrArg ChannelState.low (hwork c), congrArg ChannelState.fault (hwork c),
      congrArg ChannelState.ticks (hwork c), congrArg ChannelState.toReport (hwork c),
      hcopies _ (by decide), hcopies _ (by decide), by rw [hcond],
      by rw [hcond], by rw [hcond],
      by rw [hcond], hhigh c, htest, hcentre, hrules, hpages, hstore,
      hselected, hsent, hmarked, congrArg Agent.requestsExecuted hagent, ?_,
      congrArg Agent.requests hagent, congrArg Agent.requestsFlushed hagent,
      by rw [hagent]; rfl, by rw [hagent]; rfl,
      by rw [hagent]; rfl, fun hm => ?_, ?_, hall⟩
    · rw [hslave hs]
      exact (restart_flush (s := countRequest h s) ho hs).1
    · obtain ⟨hone, hnewest⟩ := (restart_flush (s := countRequest h s) ho hs).2 hiso hl hb
      refine ⟨by rw [honly.mgmt]; exact hone, ?_⟩
      rw [hslave hs]
      exact hnewest
    · obtain ⟨hpos, hreleases, hactive, hpending, hcleared, hkept⟩ :=
        phoneRestart_slave (RingSlave.flushed (s := countRequest h s) hs) hphone
      have hq : posAt t q = liftedPosition (reachable s) (idlePosition (posAt s q)) := by
        rw [hpos, hlive, hposw]
      obtain ⟨hcall, hpriority, hresume, hanswer, hring, hplace, hhook, hcount, hhold⟩ :=
        liftedPosition_idle (reachable s) (posAt s q)
      simp only [hposw, hwphone] at hreleases hactive
      rw [hq]
      exact ⟨hcall, hpriority, hresume, hanswer, hring, hplace, hhook, hcount, hhold, hreleases,
        hactive, hpending, hcleared, halloc.trans (hkept.trans (hw .alloc (by decide)))⟩
    · rw [hphone, htimer, hwphone]
    · rw [hagent]
      show (if h.origin = .field then _ else _) = _
      rw [ho]
      rfl
    · obtain ⟨hstopped, hover, hanswers⟩ := hwalk hm
      rw [hagent]
      refine ⟨hstopped, hover, hanswers, fun hup => ?_⟩
      rw [hout]
      exact huplink hm hup hreach
    · rw [htperiod, hperiod, hraised]
  · obtain ⟨hcond, hsw⟩ := settlePeriod_rise (s := s.withPending []) hprot hi hh hc hup hothers
    have hperiod := settlePeriod_period (s.withPending [])
    refine ⟨_, tick_closing hstage, ?_, congrArg Period.raised hperiod, fun hraised => ?_,
      fun hraised => ?_⟩
    · rw [hcond, changeCondition_copy, Tab.get_set, if_pos rfl]
    · obtain ⟨hquiet, -, hchanges⟩ := changeCondition_unjudged c true (s.withPending [])
      have hj : (!s.period.raised.contains c) = false := by simpa using hraised
      rw [show (s.withPending []).period.raised.contains c = s.period.raised.contains c from rfl,
        hj] at hcond hsw
      refine ⟨?_, hsw.trans (hchanges .sw (by decide))⟩
      rw [hcond, hquiet]
      rfl
    · have hj : (!s.period.raised.contains c) = true := by simpa using hraised
      rw [show (s.withPending []).period.raised.contains c = s.period.raised.contains c from rfl,
        hj] at hcond
      rw [hcond]
      exact changeCondition_rise (s := s.withPending []) hcopy hlevel hevents

end Sys2Proof.Machine
end
